-- ==== Sys2Proof/Word.lean ====
section
/-! DEFINITION. The words of the ZQ-240: bytes, two-byte fields, the four-legged family, and the keys of nodes. -/

namespace Sys2Proof

/-- One byte of a frame. -/
abbrev Byte := BitVec 8

/-- A field of two bytes, carried least significant byte first (chapter *Conventions*). -/
abbrev Half := BitVec 16

/-- A leg number, 0 to 3. -/
abbrev Leg := Fin 4

/-- One value for each of the four legs. -/
structure Quad (α : Type) where
  l0 : α
  l1 : α
  l2 : α
  l3 : α
  deriving DecidableEq, Repr

/-- A node is identified by its leg and its address on that leg (Table 2-1: leg 0 to 3, node 1 to 30). -/
structure NodeKey where
  leg  : Leg
  node : Nat
  deriving DecidableEq, Repr

/-- The two trunk ports of a unit. -/
inductive Port where
  | upper
  | lower
  deriving DecidableEq, Repr

/-- The two header meters: HS on the supply, HR on the return. -/
inductive Meter where
  | supply
  | ret
  deriving DecidableEq, Repr

/-- The header fields of a received trunk frame that its sender chooses freely: Destination Unit, Source Unit
and Place (Table 10-1). -/
structure Header where
  dest  : Byte
  src   : Byte
  place : Byte
  deriving DecidableEq, Repr

/-- A checked frame: the header fields and the payload.  Length, Header Check and Payload CRC follow from
these (Table 10-1) and are written by `encodeFrame`. -/
structure Frame where
  dest    : Byte
  src     : Byte
  place   : Byte
  kind    : Byte
  payload : List Byte
  deriving DecidableEq, Repr

/-- What an idle of more than 2 byte times on a leg line ended (R7). -/
inductive LineEnd where
  /-- a reply that began within the window stopped before its last byte -/
  | brokenReply
  /-- a reply that began within the window ran on past its last byte -/
  | overlongReply
  /-- bytes that were no reply -/
  | strayBytes
  deriving DecidableEq, Repr

/-- A hold of both wires of a leg (R13): the leg, and whether reply bytes are arriving on its line. -/
structure WireHold where
  leg      : Leg
  arriving : Bool
  deriving DecidableEq, Repr

/-- How a trunk frame reached its end at a port (R172). -/
inductive Reception where
  /-- the line went idle before the last byte -/
  | broken
  /-- more bytes arrived after the last byte -/
  | overlong
  /-- the last byte was reached; the bytes are the whole frame as received, checks and all -/
  | whole (bytes : List Byte)
  deriving DecidableEq, Repr

/-- How a LOAD TABLE frame reached its end (R161).  `crc` is the Payload CRC received. -/
inductive LoadEnding where
  | whole (crc : Half)
  | broken
  | overlong (crc : Half)
  deriving DecidableEq, Repr

end Sys2Proof
end

