-- ==== Sys2Proof/Syntax.lean ====
section
/-! DEFINITION. The commands and events of the ZQ-240: one constructor for each row of spec/opcode_table.json.

A row that is a frame from the rack controller carries the header fields its sender chose (`Header`); the command
code and the arguments follow from the row.  The SERVICE pin is read when LOAD TABLE, COMMIT and DISCARD are judged
(R171), so those rows carry its level. -/

namespace Sys2Proof

/-- One step of the part: a command it takes, or an event that reaches it. -/
inductive Instr where
  /-- POWER_ON (R1): supply is applied. -/
  | powerOn
  /-- PIN_RESET (R1): the RESET pin. -/
  | pinReset
  /-- BREAK_UPPER (R183): space of 1 ms or more on the upper receive pair. -/
  | breakUpper
  /-- BREAK_LOWER (R183): BREAK on the lower receive pair; `cut` says that it cut a frame short. -/
  | breakLower (cut : Bool)
  /-- PERIOD_TICK (R4): the period tick of the current round. -/
  | periodTick
  /-- ROUND_START (R2): the next round starts at the tick of a round that has closed. -/
  | roundStart
  /-- LEG_REQUEST_SENT (R7): the last request byte has been sent, and the response window opens. -/
  | legRequestSent (leg : Leg)
  /-- LEG_REPLY_END (R8): the last byte of a reply that began within the window; `bytes` is the whole reply frame as
  received. -/
  | legReplyEnd (leg : Leg) (bytes : List Byte)
  /-- RESPONSE_WINDOW_EXPIRY (R7): no reply has begun within W; `stray` says that bytes begin on the line now.  On an
  idle leg, whose window has expired before, only the stray bytes are left of it (notes/assumptions/26.md). -/
  | responseWindowExpiry (leg : Leg) (stray : Bool)
  /-- LEG_LINE_IDLE (R7): the line has been idle for more than 2 byte times after `after`. -/
  | legLineIdle (leg : Leg) (after : LineEnd)
  /-- ALERT (R13): both wires of a leg held low for 50 µs or more. -/
  | alert (hold : WireHold)
  /-- ALERT_RELEASE (R13): the line is released from ALERT. -/
  | alertRelease (leg : Leg)
  /-- STROKE_TIMER_EXPIRY (R136) of the valve at `key`. -/
  | strokeTimerExpiry (key : NodeKey)
  /-- METER_COUNT (R58): the meter's signals change to the levels `a`, `b`. -/
  | meterCount (meter : Meter) (a b : Bool)
  /-- DROP_REPORT_RECEIVED (R78): a checked DROP REPORT frame reaches `port`. -/
  | dropReportReceived (port : Port) (hdr : Header) (payload : List Byte)
  /-- HEADER_LIMIT_CHANGE (R142): the limit inputs change to these levels. -/
  | headerLimitChange (atClosed atOpen : Bool)
  /-- HEADER_STROKE_TIMER_EXPIRY (R142). -/
  | headerStrokeTimerExpiry
  /-- CONTROLLER_PRESENCE_TIMEOUT (R184). -/
  | controllerPresenceTimeout
  /-- TRUNK_FRAME_FORWARD (R174): a checked frame that is not for this unit. -/
  | trunkFrameForward (port : Port) (frame : Frame)
  /-- TRUNK_FRAME_DISCARD (R172): a frame that ends as `rx` says and is to be discarded.  A LOAD TABLE for this unit that
breaks off or runs overlong comes by the LOAD_TABLE rows instead, as R161 answers it. -/
  | trunkFrameDiscard (port : Port) (rx : Reception)
  /-- HOLD_CHANGE (R177): the HOLD input at `port` (upper: from above; lower: from below) changes to `held`. -/
  | holdChange (port : Port) (held : Bool)
  /-- UPPER_FRAME_SENT (R178): the upper transmitter has sent its frame's last byte. -/
  | upperFrameSent
  /-- LOWER_FRAME_SENT (R180): the lower transmitter has sent its frame's last byte. -/
  | lowerFrameSent
  /-- NUMBER (R182) with the byte `p`, on the upper port. -/
  | number (hdr : Header) (p : Byte)
  /-- RELAY (R17): the payload should be one inner leg frame. -/
  | relay (hdr : Header) (payload : List Byte)
  /-- UNDEFINED_COMMAND (R186): a COMMAND whose payload is not one of Table 10-5. -/
  | undefinedCommand (hdr : Header) (payload : List Byte)
  /-- STATUS (R188). -/
  | status (hdr : Header)
  /-- LOAD_TABLE (R158): the frame's header and command code have arrived, and its table id and first index.  Of a frame
that ends before one of these two bytes, that byte is `none`, and LOAD_TABLE_END follows (notes/assumptions/33.md). -/
  | loadTable (hdr : Header) (table first : Option Byte) (service : Bool)
  /-- LOAD_TABLE_RECORD (R159): the bytes of one record, its CRC-8 included, have arrived. -/
  | loadTableRecord (bytes : List Byte)
  /-- LOAD_TABLE_END (R161): the frame ends; `tail` is what arrived after the last whole record. -/
  | loadTableEnd (tail : List Byte) (ending : LoadEnding)
  /-- READ_TABLE (R162). -/
  | readTable (hdr : Header) (bank table first count : Byte)
  /-- COMMIT (R164). -/
  | commit (hdr : Header) (service : Bool)
  /-- DISCARD (R163). -/
  | discard (hdr : Header) (service : Bool)
  /-- PROTECT (R171). -/
  | protect (hdr : Header) (level : Byte)
  /-- READ_INCIDENTS (R125). -/
  | readIncidents (hdr : Header)
  /-- READ_INCIDENT (R125). -/
  | readIncident (hdr : Header) (id : Byte)
  /-- ISOLATE (R114). -/
  | isolate (hdr : Header) (branch : Byte)
  /-- RELEASE (R115). -/
  | release (hdr : Header) (id : Byte)
  /-- HEADER_CLOSE (R140). -/
  | headerClose (hdr : Header)
  /-- HEADER_OPEN (R141). -/
  | headerOpen (hdr : Header)
  /-- EXERCISE_START (R146); `first` 255 asks all branches. -/
  | exerciseStart (hdr : Header) (first count : Byte)
  /-- EXERCISE_SUSPEND (R153). -/
  | exerciseSuspend (hdr : Header)
  /-- EXERCISE_RESUME (R153). -/
  | exerciseResume (hdr : Header)
  /-- EXERCISE_ABORT (R154). -/
  | exerciseAbort (hdr : Header)
  /-- READ_EXERCISE (R155). -/
  | readExercise (hdr : Header)
  /-- DISCOVER (R21). -/
  | discover (hdr : Header) (leg : Byte)
  /-- READ_PRESENCE (R23). -/
  | readPresence (hdr : Header) (leg : Byte)
  /-- READ_VALVES (R144). -/
  | readValves (hdr : Header) (first : Byte)
  /-- UNIT_RESET (R181). -/
  | unitReset (hdr : Header)
  /-- CONSUMED_FRAME_DISCARDED (R174): a checked frame for this unit of a kind no block takes. -/
  | consumedFrameDiscarded (port : Port) (frame : Frame)
  /-- UPPER_BREAK_RELEASE (R183): the upper receive pair goes idle after a BREAK. -/
  | upperBreakRelease
  /-- LOWER_BREAK_SENT_END (R183): the BREAK sent downward ends. -/
  | lowerBreakSentEnd
  deriving DecidableEq, Repr

end Sys2Proof
end

