-- ==== Sys2Proof/Config.lean ====
section
/-! DEFINITION. The open values of the spec, as constants without a body: nothing proves a value of them.

Each is read at the counter `State.free`, which every use advances, so that no two uses need agree. -/

namespace Sys2Proof.Config

/-- A byte the spec gives no value for; the second argument tells apart the bytes of one use. -/
opaque freeByte : Nat → Nat → Byte

/-- A flag the spec gives no value for. -/
opaque freeFlag : Nat → Bool

/-- A two-byte field the spec gives no value for. -/
opaque freeHalf : Nat → Half

end Sys2Proof.Config
end

