-- ==== Sys2Proof/Machine/State.lean ====
section
/-! DEFINITION. The state of the ZQ-240: the ten blocks of Table 1, the pins, the clock, and the queue of waiting
commands.  Every structure is plain data.

A quantity the spec counts is a `Nat`; a field that wraps at its width (round number, command tag, meter counter) is
a bit vector. -/

namespace Sys2Proof.Machine

open Sys2Proof

/-! ### The tables (chapters 2, 3, 4 and 8) -/

/-- Node kinds (Table 10-2; NONE is an absent record). -/
inductive NodeKind where
  | drip
  | flow
  | valve
  deriving DecidableEq, Repr

/-- Mirror modes (R43). -/
inductive MirrorMode where
  | off
  | every
  | change
  deriving DecidableEq, Repr

/-- The DRIP fields of a node record (Table 2-1). -/
structure DripFields where
  wet          : Nat
  hyst         : Nat
  flood        : Nat
  alertCapable : Bool
  evUnit       : Nat
  deriving DecidableEq, Repr

/-- The fields of a node record that belong to its kind (Table 2-1). -/
inductive NodeBody where
  | drip (d : DripFields)
  | flow
  | valve (strokeLimit : Nat)
  deriving DecidableEq, Repr

/-- A Node Table record (Table 2-1). -/
structure NodeRec where
  key    : NodeKey
  mirror : MirrorMode
  delta  : Nat
  body   : NodeBody
  deriving DecidableEq, Repr

/-- A Branch Table record (Table 3-1). -/
structure BranchRec where
  supply   : Nat
  ret      : Nat
  valve    : Nat
  offset   : Int
  deadband : Nat
  trip     : Nat
  forgive  : Nat
  loadTag  : Nat
  deriving DecidableEq, Repr

/-- A candidate of a Drip Map row (Table 4-1). -/
structure Candidate where
  branch : Nat
  weight : Nat
  deriving DecidableEq, Repr

/-- A Drip Map row (Table 4-1). -/
structure RowRec where
  unit    : Nat
  node    : Nat
  fall    : Nat
  quiet   : Nat
  persist : Nat
  cands   : List Candidate
  deriving DecidableEq, Repr

/-- The Unit Settings record (Table 8-3). -/
structure Settings where
  period         : Nat
  window         : Nat
  isoLimit       : Nat
  autoHeader     : Bool
  absenceLimit   : Nat
  fade           : Nat
  lead           : Nat
  corroborate    : Nat
  clearRounds    : Nat
  holdFirst      : Nat
  holdCount      : Nat
  holdInvert     : Bool
  kSupply        : Nat
  kReturn        : Nat
  hdrOffset      : Int
  hdrDeadband    : Nat
  hdrTrip        : Nat
  hdrForgive     : Nat
  hdrStroke      : Nat
  backflowRounds : Nat
  skewLimit      : Nat
  overrunRounds  : Nat
  summary        : Bool
  deriving DecidableEq, Repr

/-- One bank of the four tables (Table 8-1).  A table is the list of its entries that are not empty, with their
indexes, the indexes strictly rising. -/
structure Bank where
  nodes    : List (Nat × NodeRec)
  branches : List (Nat × BranchRec)
  rows     : List (Nat × RowRec)
  settings : Option Settings
  deriving DecidableEq, Repr

/-- The identity of a branch: the identities of its supply, return and valve nodes (R48). -/
structure BranchId where
  supply : NodeKey
  ret    : NodeKey
  valve  : NodeKey
  deriving DecidableEq, Repr

/-- The resolved key of a Drip Map row: source unit (0: this unit) and drip node index (R67). -/
structure RowKey where
  unit : Nat
  node : Nat
  deriving DecidableEq, Repr

/-! ### Unit conditions (Table 10-8) -/

/-- A unit condition: active or cleared, its detail, and its report pending flag. -/
structure Condition where
  active  : Bool
  detail  : Nat
  pending : Bool
  deriving DecidableEq, Repr

/-! ### Round Timer (section 1.1) -/

/-- What the round-start event says of the ended round (R2, R3). -/
structure EndedRound where
  number  : Half
  elapsed : Nat
  deriving DecidableEq, Repr

/-- The Round Timer. -/
structure RoundTimer where
  running    : Bool
  number     : Half
  start      : Option Nat
  period     : Option Nat
  late       : Nat
  /-- the period tick of the current round has passed while the round was open (R4) -/
  tickPassed : Bool
  /-- the latest ended round, for the ROUND SUMMARY (R179) -/
  ended      : Option EndedRound
  overrun    : Condition
  deriving DecidableEq, Repr

/-! ### Leg Engines (section 1.2) -/

/-- What a transaction serves (R9). -/
inductive Purpose where
  | poll
  | sweep
  /-- a VALVE SET from the Action Queue, with the tag and the stroke limit it carries (R131) -/
  | valveSet (tag : Byte) (limit : Nat)
  /-- a relay; `dropped` says that BREAK has cleared its slot (R20) -/
  | relay (dropped : Bool)
  | discovery
  deriving DecidableEq, Repr

/-- Where a transaction stands (R7): the request is being sent, or the response window is open since the clock reading
`opened`, for the `limit` milliseconds that W gave then. -/
inductive TxnPhase where
  | sending
  | window (opened limit : Nat)
  deriving DecidableEq, Repr

/-- The transaction in flight on a leg. -/
structure Txn where
  purpose : Purpose
  key     : NodeKey
  request : Frame
  phase   : TxnPhase
  deriving DecidableEq, Repr

/-- A sweep in progress: the addresses of the nodes still listed and the cursor among them (R15). -/
structure Sweep where
  list   : List Nat
  cursor : Nat
  deriving DecidableEq, Repr

/-- The kind an IDENT REPLY reports (R22). -/
inductive IdentKind where
  | drip
  | flow
  | valve
  | unknown
  deriving DecidableEq, Repr

/-- An entry of a Presence List (R22). -/
structure PresenceEntry where
  node   : Nat
  kind   : IdentKind
  serial : List Byte
  deriving DecidableEq, Repr

/-- One Leg Engine (section 1.2).  Its Action Queue stands with the Valve Supervisor, its one submitter (R130). -/
structure LegEngine where
  pollList      : List Nat
  cursor        : Nat
  finished      : Bool
  alertFlag     : Bool
  sweep         : Option Sweep
  sweepAgain    : Bool
  sweepCount    : Nat
  alertsIgnored : Bool
  stuck         : Bool
  discovering   : Bool
  nextAddress   : Nat
  presence      : List PresenceEntry
  txn           : Option Txn
  /-- the line is held in ALERT (R13) -/
  alertHeld     : Bool
  /-- the engine disregards the line until it has been idle for more than 2 byte times (R7, section 1.2) -/
  disregard     : Bool
  deriving DecidableEq, Repr

/-- The four Leg Engines and the condition they share. -/
structure LegBlock where
  legs  : Quad LegEngine
  stuck : Condition
  deriving DecidableEq, Repr

/-! ### Node Directory (chapter 2) -/

/-- Presence states (R11). -/
inductive Presence where
  | unseen
  | present
  | missing
  deriving DecidableEq, Repr

/-- Sample verdicts (R28). -/
inductive Verdict where
  | usable
  | noReading
  | notOk
  | malformed
  deriving DecidableEq, Repr

/-- The last sample of a node. -/
structure LastSample where
  payload : List Byte
  verdict : Verdict
  stamp   : Half
  deriving DecidableEq, Repr

/-- The value a MIRROR carries (R43): flow, wet level or position code, or "no reading". -/
inductive MirrorValue where
  | reading (n : Nat)
  | noReading
  deriving DecidableEq, Repr

/-- The report tail of a remote DRIP node, or of a remote row: OUT, or IN with its count (R40, R79). -/
inductive Tail where
  | out
  | inside (count : Nat)
  deriving DecidableEq, Repr

/-- The node runtime record (Table 2-2). -/
structure NodeRun where
  presence      : Presence
  misses        : Nat
  last          : Option LastSample
  usableLevel   : Option Nat
  /-- wet state: true is WET, false is ARMED -/
  wet           : Bool
  floodMark     : Bool
  evPending     : Bool
  pendDrops     : Nat
  pendOnset     : Bool
  pendLevel     : Nat
  pendStamp     : Nat
  tail          : Tail
  mirrorPending : Bool
  lastMirrored  : Option MirrorValue
  deriving DecidableEq, Repr

/-- The Node Directory. -/
structure NodeDirectory where
  nodes     : List (NodeKey × NodeRun)
  flood     : Condition
  /-- nodes marked NODE_BACK in the current round, and in the latest ended one (R11, R190) -/
  backNow   : List NodeKey
  backEnded : List NodeKey
  deriving DecidableEq, Repr

/-! ### Flow Accounting (chapter 3) -/

/-- A branch side in the current round: not yet taken, "no reading", or a reading. -/
inductive SideValue where
  | notTaken
  | noReading
  | reading (flow : Nat)
  deriving DecidableEq, Repr

/-- The branch flow runtime (Table 3-2). -/
structure BranchFlow where
  supply      : SideValue
  ret         : SideValue
  paired      : Bool
  pairedLast  : Bool
  endedSupply : Nat
  endedReturn : Nat
  loss        : Nat
  rem         : Nat
  skewRun     : Nat
  skew        : Bool
  unmetered   : Bool
  deriving DecidableEq, Repr

/-- One header meter (Table 3-3); `a` and `b` are the levels of its signals. -/
structure MeterState where
  a          : Bool
  b          : Bool
  count      : Half
  countError : Bool
  snapshot   : Option Half
  flow       : Option Nat
  reverseRun : Nat
  deriving DecidableEq, Repr

/-- Flow Accounting. -/
structure FlowBlock where
  branches     : List (BranchId × BranchFlow)
  prevInterval : Option Nat
  supplyMeter  : MeterState
  returnMeter  : MeterState
  cleanRun     : Nat
  backflow     : Condition
  hdrLoss      : Nat
  hdrRem       : Nat
  hdrUnmetered : Bool
  skewCount    : Nat
  meterSkew    : Condition
  deriving DecidableEq, Repr

/-! ### Drip Evidence (chapter 4) -/

/-- The branch drip runtime (Table 4-2). -/
structure BranchDrip where
  score        : Nat
  credited     : List Half
  creditedLast : Bool
  deriving DecidableEq, Repr

/-- Classification of a judged round (R81, R82). -/
inductive RowResult where
  | active
  | quiet
  | blind
  | silent
  | stale
  deriving DecidableEq, Repr

/-- The row runtime (Table 4-3). -/
structure RowRun where
  activeRun : Nat
  quietRun  : Nat
  credited  : List Half
  evidence  : List Half
  result    : Option RowResult
  blind     : Bool
  staleRun  : Nat
  stale     : Bool
  tail      : Tail
  deriving DecidableEq, Repr

/-- Drip Evidence. -/
structure DripBlock where
  branches : List (BranchId × BranchDrip)
  rows     : List (RowKey × RowRun)
  /-- for each round held, the lowest index of a local node without a row that was active (Table 4-4) -/
  unmapped : List (Half × Nat)
  unmappedDrip : Condition
  deriving DecidableEq, Repr

/-! ### Incident Engine (chapter 5) -/

/-- Incident states (Table 5-1). -/
inductive IncState where
  | watch
  | probing
  | isolating
  | isolated
  | reportOnly
  | escalated
  | releasing
  deriving DecidableEq, Repr

/-- Incident origins (Table 5-2). -/
inductive Origin where
  | drip
  | flow
  | header
  | flood
  | recovered
  | manual
  deriving DecidableEq, Repr

/-- Escalation reasons (Table 5-3). -/
inductive Reason where
  | capacity
  | valveFault
  | limit
  | probeExhausted
  | stillDripping
  | headerLeak
  | flood
  deriving DecidableEq, Repr

/-- Probe phases (Table 5-2). -/
inductive ProbePhase where
  | none
  | closing
  | settling
  deriving DecidableEq, Repr

/-- What a round-end event gives for a row (R85). -/
structure RowReport where
  result    : Option RowResult
  activeRun : Nat
  quietRun  : Nat
  blind     : Bool
  staleRun  : Nat
  stale     : Bool
  deriving DecidableEq, Repr

/-- A member row entry of an incident (section 5.1). -/
structure RowEntry where
  key     : RowKey
  index   : Nat
  report  : RowReport
  heldRun : Nat
  deriving DecidableEq, Repr

/-- The incident record (Table 5-2). -/
structure Incident where
  id          : Nat
  origin      : Origin
  state       : IncState
  reason      : Option Reason
  members     : List BranchId
  rows        : List RowEntry
  target      : Option BranchId
  probeRow    : Option RowKey
  probeBranch : Option BranchId
  probePhase  : ProbePhase
  probed      : List BranchId
  reopening   : Option BranchId
  /-- in the order in which they were taken (notes/assumptions/42.md) -/
  held        : List BranchId
  closing     : Option Half
  settle      : Nat
  probeQuiet  : Nat
  opened      : Half
  changed     : Half
  headerReq   : Bool
  pending     : Bool
  deriving DecidableEq, Repr

/-- An entry of the cleared queue (R121). -/
structure Cleared where
  id   : Nat
  into : Option Nat
  deriving DecidableEq, Repr

/-- Cooling notice states (R120). -/
inductive NoticeState where
  | none
  | lost
  | restored
  deriving DecidableEq, Repr

/-- A cooling notice record (R120). -/
structure Notice where
  state   : NoticeState
  pending : Bool
  deriving DecidableEq, Repr

/-- The Incident Engine. -/
structure IncidentBlock where
  incidents   : List Incident
  nextId      : Nat
  cleared     : List Cleared
  notices     : List (BranchId × Notice)
  overflow    : Condition
  overflowReq : Bool
  /-- the latest unhoused branch whose confirm set the overflow header request (R99) -/
  overflowBy  : Option BranchId
  /-- what the latest round-end event gave for each row (section 5.1) -/
  lastEvent   : List (RowKey × RowReport)
  deriving DecidableEq, Repr

/-! ### Valve Supervisor (chapter 6) -/

/-- Valve positions (Table 6-1). -/
inductive ValvePos where
  | opened
  | closed
  | moving
  | partway
  | jammed
  deriving DecidableEq, Repr

/-- Targets a command gives a valve (Table 6-1). -/
inductive ValveTarget where
  | toOpen
  | toClose
  | partialTest
  deriving DecidableEq, Repr

/-- Stroke phases (chapter 6). -/
inductive StrokePhase where
  | none
  | queued
  | deferred
  | sent
  | stroking
  | expired
  | abandoned
  deriving DecidableEq, Repr

/-- Owners of a valve (R128). -/
inductive Owner where
  | none
  | incident (id : Nat)
  | exercise
  deriving DecidableEq, Repr

/-- Valve faults (R137). -/
inductive ValveFault where
  | none
  | jammed
  | unreachable
  | missing
  deriving DecidableEq, Repr

/-- The Valve Status record (Table 6-1). -/
structure ValveRec where
  position   : Option ValvePos
  target     : Option ValveTarget
  tag        : Byte
  attempts   : Nat
  phase      : StrokePhase
  start      : Option Nat
  limit      : Option Nat
  owner      : Owner
  fault      : ValveFault
  unreliable : Bool
  lastStroke : Option Nat
  deriving DecidableEq, Repr

/-- An Action Queue entry (R130). -/
structure ActionEntry where
  key    : NodeKey
  target : ValveTarget
  tag    : Byte
  deriving DecidableEq, Repr

/-- Header drive states (Table 6-2). -/
inductive HeaderState where
  | opened
  | closed
  | unknown
  | closing
  | opening
  | fault
  deriving DecidableEq, Repr

/-- A running timer: the clock reading it was started at and its limit in seconds. -/
structure Timer where
  start : Nat
  limit : Nat
  deriving DecidableEq, Repr

/-- The header drive with its pins (section 6.6). -/
structure HeaderDrive where
  state    : HeaderState
  closeReq : Bool
  openReq  : Bool
  atClosed : Bool
  atOpen   : Bool
  timer    : Option Timer
  fault    : Condition
  deriving DecidableEq, Repr

/-- The Valve Supervisor, with the Action Queues it submits to and the deferral order of each leg (R130). -/
structure ValveBlock where
  valves   : List (NodeKey × ValveRec)
  queues   : Quad (List ActionEntry)
  deferred : Quad (List NodeKey)
  header   : HeaderDrive
  deriving DecidableEq, Repr

/-! ### Exercise Controller (chapter 7) -/

/-- Exercise states (Table 7-1). -/
inductive ExState where
  | idle
  | running
  | suspended
  deriving DecidableEq, Repr

/-- How the latest exercise ended (Table 7-1). -/
inductive EndKind where
  | none
  | finished
  | aborted
  deriving DecidableEq, Repr

/-- Exercise verdicts (R155). -/
inductive ExVerdict where
  | pass
  | slow
  | failed
  | preempted
  | skipped
  deriving DecidableEq, Repr

/-- Causes of a FAILED or SKIPPED verdict (R155). -/
inductive ExCause where
  | jammed
  | unreachable
  | missing
  | incident
  | fault
  | command
  | position
  deriving DecidableEq, Repr

/-- The range EXERCISE START asked for (Table 7-1). -/
inductive ExRange where
  | all
  | span (first count : Nat)
  deriving DecidableEq, Repr

/-- The test under way (Table 7-1). -/
structure ExTest where
  branch : Nat
  key    : NodeKey
  limit  : Nat
  round  : Half
  deriving DecidableEq, Repr

/-- A results entry (R155). -/
structure ExResult where
  branch  : Nat
  verdict : ExVerdict
  cause   : Option ExCause
  stroke  : Option Nat
  limit   : Option Nat
  round   : Half
  deriving DecidableEq, Repr

/-- The Exercise Controller (Table 7-1). -/
structure ExerciseBlock where
  state        : ExState
  autoCause    : Bool
  manualCause  : Bool
  abortPending : Bool
  range        : Option ExRange
  plan         : List Nat
  cursor       : Nat
  test         : Option ExTest
  results      : List ExResult
  endKind      : EndKind
  deriving DecidableEq, Repr

/-! ### Table Store (chapter 8) -/

/-- Result codes (Table 10-2). -/
inductive Result where
  | ok
  | busy
  | guarded
  | badArgument
  | badRecord
  | partialLoad
  | invalid
  | roundBudget
  | inUse
  | limit
  | held
  | wrongState
  | valveFault
  | positionHeld
  | chainTooLong
  | timeout
  deriving DecidableEq, Repr

/-- Guard levels (R171). -/
inductive Guard where
  | opened
  | service
  | fixed
  deriving DecidableEq, Repr

/-- The last commit outcome (section 8.1): a refusal at the switch holds its result and three detail bytes (R187). -/
inductive CommitOutcome where
  | none
  | switched (round : Half)
  | cancelled
  | refusedAtSwitch (result : Result) (d1 d2 d3 : Byte)
  deriving DecidableEq, Repr

/-- Table ids (Table 10-2). -/
inductive TableId where
  | node
  | branch
  | drip
  | settings
  deriving DecidableEq, Repr

/-- The Table Store. -/
structure TableBlock where
  active        : Bank
  staging       : Bank
  activeFlag    : Bool
  commitPending : Bool
  outcome       : CommitOutcome
  guard         : Guard
  deriving DecidableEq, Repr

/-! ### Trunk Interface (chapter 9) -/

/-- Frame-error kinds (R172). -/
inductive FrameError where
  | none
  | broken
  | overlong
  | headerCheck
  | payloadCrc
  | misrouted
  | fifoFull
  deriving DecidableEq, Repr

/-- A command that has been carried out and waits for its reply to be built (R181, R186). -/
structure Carried where
  code   : Byte
  args   : List Byte
  result : Result
  /-- data fixed when the command was carried out: the detail of a refusal, or a value the reply names -/
  detail : List Byte
  deriving DecidableEq, Repr

/-- A reply that is due: a REPLY to build, or the payload of a RELAY REPLY (R181). -/
inductive DueReply where
  | reply (c : Carried)
  | relayReply (payload : List Byte)
  deriving DecidableEq, Repr

/-- What holds the command slot (R181). -/
inductive Slot where
  | empty
  /-- a LOAD TABLE whose records are arriving -/
  | loading
  /-- a RELAY for the node `key`; `taken` once its Leg Engine performs it (R18) -/
  | relay (key : NodeKey) (inner : Frame) (taken : Bool)
  /-- a command carried out whose reply waits for the reply place -/
  | due (r : DueReply)
  /-- UNIT RESET, its reply placed, until the reset takes effect -/
  | unitReset
  deriving DecidableEq, Repr

/-- How a LOAD TABLE frame on the upper port is being taken (R158, R181). -/
inductive LoadMode where
  | accepted (table : TableId)
  /-- in the slot, its addressing and guard judged; its frame ends before its first index -/
  | short
  /-- refused at its first bytes; the rest of the frame passes -/
  | refused
  /-- the slot was occupied when its command code arrived -/
  | busy
  /-- not consumed by this unit -/
  | passing
  deriving DecidableEq, Repr

/-- Why processing of an accepted LOAD TABLE ended early (R159). -/
inductive LoadStop where
  | badRecord
  | checkFailed
  deriving DecidableEq, Repr

/-- A LOAD TABLE frame in reception. -/
structure Load where
  hdr     : Header
  mode    : LoadMode
  /-- the table id, unless the frame ends before it -/
  table   : Option Byte
  /-- the first index, unless the frame ends before it -/
  first   : Option Byte
  /-- the payload bytes received so far -/
  payload : List Byte
  applied : Nat
  clamped : Nat
  /-- the entry index of the next record -/
  next    : Nat
  stop    : Option LoadStop
  deriving DecidableEq, Repr

/-- The frame in the reply place; `reset` marks the reply of a UNIT RESET. -/
structure Reply where
  frame : Frame
  reset : Bool
  deriving DecidableEq, Repr

/-- What the upper transmitter is sending. -/
structure Sending where
  frame : Frame
  /-- the frame is the reply of a UNIT RESET, whose reset takes effect at its end (R181) -/
  reset : Bool
  deriving DecidableEq, Repr

/-- The lower transmitter: free, sending a frame, or sending BREAK since the clock reading `start` (R183). -/
inductive LowerTx where
  | free
  | frame (f : Frame)
  | breaking (start : Nat)
  deriving DecidableEq, Repr

/-- The Trunk Interface. -/
structure TrunkBlock where
  position      : Option Nat
  uf            : List Frame
  ur            : List Frame
  df            : List Frame
  slot          : Slot
  load          : Option Load
  reply         : Option Reply
  upperTx       : Option Sending
  lowerTx       : LowerTx
  /-- the upper arbiter's toggles (R178): A, respectively E, was granted last -/
  lastWasA      : Bool
  lastWasE      : Bool
  /-- the lower arbiter's toggle (R180): the head of DF was granted last -/
  lastWasDf     : Bool
  onward        : Option Byte
  summaryDue    : Bool
  errorKind     : FrameError
  errorPort     : Port
  /-- the controller-presence timer in milliseconds, held at 61 000 (R184) -/
  presenceTimer : Nat
  /-- CONTROLLER_LOST; the controller is absent while it is active -/
  lost          : Condition
  /-- the upper receive pair is held in BREAK (R183) -/
  upperBreak    : Bool
  deriving DecidableEq, Repr

/-- The local pins that belong to no one block's state above. -/
structure Pins where
  service       : Bool
  holdFromAbove : Bool
  holdFromBelow : Bool
  holdToAbove   : Bool
  holdToBelow   : Bool
  alarm         : Bool
  deriving DecidableEq, Repr

/-! ### The whole state -/

/-- The state of one ZQ-240. -/
structure State where
  /-- the free-running millisecond clock (section 1.1) -/
  clock   : Nat
  pins    : Pins
  rt      : RoundTimer
  le      : LegBlock
  nd      : NodeDirectory
  fa      : FlowBlock
  de      : DripBlock
  ie      : IncidentBlock
  vs      : ValveBlock
  xc      : ExerciseBlock
  ts      : TableBlock
  ti      : TrunkBlock
  /-- the model's own counter of the uses of open values (Config) -/
  free    : Nat
  /-- the commands and events that wait, first in, first out -/
  pending : List Instr
  deriving DecidableEq, Repr

/-- Reasons for which a step stops with a fault.  There is none: the spec describes no command or event that stops
the part, and none of this model does (safe: nothing is raised). -/
inductive Fault where
  deriving DecidableEq, Repr

/-- Reasons for which a step has no meaning. -/
inductive Refusal where
  /-- Raised by an arm of `exec` for a command without a meaning yet; safe: the step does not go on.  No arm
  raises it. -/
  | notModelled (mnemonic : String)
  deriving DecidableEq, Repr

/-! ### Reset values -/

/-- A condition that has not been active since the reset (R191). -/
def Condition.clear : Condition := ⟨false, 0, false⟩

/-- The tables of an empty bank (section 8.1). -/
def Bank.empty : Bank := ⟨[], [], [], none⟩

/-- R1. -/
def RoundTimer.reset : RoundTimer :=
  { running := false, number := 0, start := none, period := none, late := 0, tickPassed := false, ended := none,
    overrun := .clear }

/-- The table at the head of section 1.2.  The next address of an idle discovery is the model's choice
(notes/assumptions/5.md). -/
def LegEngine.reset : LegEngine :=
  { pollList := [], cursor := 0, finished := true, alertFlag := false, sweep := none, sweepAgain := false,
    sweepCount := 0, alertsIgnored := false, stuck := false, discovering := false, nextAddress := 1, presence := [],
    txn := none, alertHeld := false, disregard := false }

/-- R12, R34. -/
def NodeDirectory.reset : NodeDirectory := ⟨[], .clear, [], []⟩

/-- Table 3-3. -/
def MeterState.reset : MeterState :=
  { a := false, b := false, count := 0, countError := false, snapshot := none, flow := none, reverseRun := 0 }

/-- R47, R49, Table 3-3, R62, R64. -/
def FlowBlock.reset : FlowBlock :=
  { branches := [], prevInterval := none, supplyMeter := .reset, returnMeter := .reset, cleanRun := 0,
    backflow := .clear, hdrLoss := 0, hdrRem := 0, hdrUnmetered := false, skewCount := 0, meterSkew := .clear }

/-- R69, Table 4-4. -/
def DripBlock.reset : DripBlock := ⟨[], [], [], .clear⟩

/-- R89, R99, R120. -/
def IncidentBlock.reset : IncidentBlock :=
  { incidents := [], nextId := 1, cleared := [], notices := [], overflow := .clear, overflowReq := false,
    overflowBy := none, lastEvent := [] }

/-- Table 6-2 with neither limit asserted (R139). -/
def HeaderDrive.reset : HeaderDrive :=
  { state := .unknown, closeReq := false, openReq := false, atClosed := false, atOpen := false, timer := none,
    fault := .clear }

/-- R126, R139. -/
def ValveBlock.reset : ValveBlock := ⟨[], ⟨[], [], [], []⟩, ⟨[], [], [], []⟩, .reset⟩

/-- Table 7-1. -/
def ExerciseBlock.reset : ExerciseBlock :=
  { state := .idle, autoCause := false, manualCause := false, abortPending := false, range := none, plan := [],
    cursor := 0, test := none, results := [], endKind := .none }

/-- Section 8.1. -/
def TableBlock.reset : TableBlock := ⟨.empty, .empty, false, false, .none, .opened⟩

/-- R172, R176, R178 to R184.  The port beside the error kind NONE is the model's choice (notes/assumptions/5.md). -/
def TrunkBlock.reset : TrunkBlock :=
  { position := none, uf := [], ur := [], df := [], slot := .empty, load := none, reply := none, upperTx := none,
    lowerTx := .free, lastWasA := false, lastWasE := false, lastWasDf := false, onward := none, summaryDue := false,
    errorKind := .none, errorPort := .upper, presenceTimer := 0, lost := .clear, upperBreak := false }

/-- Every input low or released (notes/assumptions/4.md); HOLD released (R177); ALARM deasserted (R123). -/
def Pins.reset : Pins := ⟨false, false, false, false, false, false⟩

/-- The part right after power-on, with every input pin low or released, the clock at 0 and nothing waiting. -/
def State.reset : State :=
  { clock := 0, pins := .reset, rt := .reset, le := ⟨⟨.reset, .reset, .reset, .reset⟩, .clear⟩, nd := .reset,
    fa := .reset, de := .reset, ie := .reset, vs := .reset, xc := .reset, ts := .reset, ti := .reset, free := 0,
    pending := [] }

end Sys2Proof.Machine
end

