-- ==== Sys2Proof/Machine/Ops.lean ====
section
/-! DEFINITION. The operations every block uses: keyed records, tables, banks and what they name, the settings in
force, the clock, and open values. -/

namespace Sys2Proof.Machine

open Sys2Proof

/-! ### Four legs -/

/-- The value of one leg. -/
def quadGet {α : Type} (q : Quad α) (l : Leg) : α :=
  match l with
  | 0 => q.l0
  | 1 => q.l1
  | 2 => q.l2
  | 3 => q.l3

/-- Replaces the value of one leg. -/
def quadSet {α : Type} (q : Quad α) (l : Leg) (x : α) : Quad α :=
  match l with
  | 0 => { q with l0 := x }
  | 1 => { q with l1 := x }
  | 2 => { q with l2 := x }
  | 3 => { q with l3 := x }

/-- Changes the value of one leg. -/
def quadMap {α : Type} (q : Quad α) (l : Leg) (f : α → α) : Quad α := quadSet q l (f (quadGet q l))

/-- The legs in ascending order. -/
def allLegs : List Leg := [0, 1, 2, 3]

/-- Leg `n`, when it is 0 to 3. -/
def legOfNat (n : Nat) : Option Leg := if h : n < 4 then some ⟨n, h⟩ else none

/-! ### Keyed records -/

/-- The record under key `k`. -/
def assocGet {κ ρ : Type} [DecidableEq κ] (k : κ) : List (κ × ρ) → Option ρ
  | [] => none
  | (k', x) :: rest => if k' = k then some x else assocGet k rest

/-- Changes the record under key `k`; no record, no change. -/
def assocMap {κ ρ : Type} [DecidableEq κ] (k : κ) (f : ρ → ρ) : List (κ × ρ) → List (κ × ρ)
  | [] => []
  | (k', x) :: rest => if k' = k then (k', f x) :: rest else (k', x) :: assocMap k f rest

/-- Changes every record. -/
def assocAll {κ ρ : Type} (f : ρ → ρ) (l : List (κ × ρ)) : List (κ × ρ) := l.map fun p => (p.1, f p.2)

/-! ### Tables -/

/-- The entry at index `i`. -/
def entryAt {α : Type} (t : List (Nat × α)) (i : Nat) : Option α := assocGet i t

/-- Replaces the entry at index `i`, keeping the indexes strictly rising. -/
def entryPut {α : Type} (i : Nat) (x : α) : List (Nat × α) → List (Nat × α)
  | [] => [(i, x)]
  | (j, y) :: rest =>
    if i < j then (i, x) :: (j, y) :: rest
    else if i = j then (i, x) :: rest
    else (j, y) :: entryPut i x rest

/-- Empties the entry at index `i`. -/
def entryDrop {α : Type} (i : Nat) : List (Nat × α) → List (Nat × α)
  | [] => []
  | (j, y) :: rest => if i = j then rest else (j, y) :: entryDrop i rest

/-- Every index lies in `0 … cap - 1` and above `lo`, and the indexes rise strictly. -/
def tableWf {α : Type} (cap : Nat) : Option Nat → List (Nat × α) → Bool
  | _, [] => true
  | lo, (j, _) :: rest => (match lo with | none => true | some i => decide (i < j)) && decide (j < cap) && tableWf cap (some j) rest

/-- A bank is well formed when each of its tables is (Table 8-1: 120, 24 and 48 entries). -/
def Bank.wf (b : Bank) : Bool := tableWf 120 none b.nodes && tableWf 24 none b.branches && tableWf 48 none b.rows

/-! ### What a bank names -/

/-- The kind of a node record. -/
def nodeKind (r : NodeRec) : NodeKind :=
  match r.body with
  | .drip _ => .drip
  | .flow => .flow
  | .valve _ => .valve

/-- The DRIP fields of a record, when it is of that kind. -/
def dripFields (r : NodeRec) : Option DripFields :=
  match r.body with
  | .drip d => some d
  | _ => none

/-- The index and record of the node with key `k`. -/
def nodeByKey (b : Bank) (k : NodeKey) : Option (Nat × NodeRec) := b.nodes.find? fun p => p.2.key = k

/-- The identity of the node at index `i`. -/
def keyAt (b : Bank) (i : Nat) : Option NodeKey := (entryAt b.nodes i).map (·.key)

/-- The identity of a branch record, its nodes read through the bank's Node Table (R48). -/
def branchIdent (b : Bank) (r : BranchRec) : Option BranchId :=
  match keyAt b r.supply, keyAt b r.ret, keyAt b r.valve with
  | some su, some re, some va => some ⟨su, re, va⟩
  | _, _, _ => none

/-- The identity of branch `i` of a bank. -/
def identAt (b : Bank) (i : Nat) : Option BranchId :=
  match entryAt b.branches i with
  | some r => branchIdent b r
  | none => none

/-- The branches of a bank in index order, each with its index and identity. -/
def branchList (b : Bank) : List (Nat × BranchId) :=
  b.branches.filterMap fun p => (branchIdent b p.2).map fun x => (p.1, x)

/-- The index a branch has in a bank. -/
def indexOf (b : Bank) (x : BranchId) : Option Nat := ((branchList b).find? fun p => p.2 = x).map (·.1)

/-- The Branch Table record of a branch. -/
def recOf (b : Bank) (x : BranchId) : Option BranchRec :=
  match indexOf b x with
  | some i => entryAt b.branches i
  | none => none

/-- The branch whose valve node is the node `k`. -/
def branchOfValve (b : Bank) (k : NodeKey) : Option BranchId :=
  ((branchList b).find? fun p => p.2.valve = k).map (·.2)

/-- The resolution of a source unit or evidence unit against this unit's position: 0 is this unit (R25, R67). -/
def resolveUnit (pos : Option Nat) (u : Nat) : Nat := if u = 0 ∨ pos = some u then 0 else u

/-- The resolved key of a row (R67). -/
def rowKey (pos : Option Nat) (r : RowRec) : RowKey := ⟨resolveUnit pos r.unit, r.node⟩

/-- The rows of a bank in index order, each with its index and resolved key. -/
def rowList (pos : Option Nat) (b : Bank) : List (Nat × RowKey) := b.rows.map fun p => (p.1, rowKey pos p.2)

/-- The index and record of the row with resolved key `k`. -/
def rowByKey (pos : Option Nat) (b : Bank) (k : RowKey) : Option (Nat × RowRec) :=
  b.rows.find? fun p => rowKey pos p.2 = k

/-- The nodes of one leg in index order, which is the poll order (R5). -/
def legNodes (b : Bank) (l : Leg) : List (Nat × NodeRec) := b.nodes.filter fun p => p.2.key.leg = l

/-! ### Settings in force (R169) -/

/-- The defaults of Table 8-3.  A setting the table gives no default for is read only while a Unit Settings record
is active; the values here stand for none (notes/assumptions/6.md). -/
def defaultSettings : Settings :=
  { period := 1000, window := 4, isoLimit := 4, autoHeader := false, absenceLimit := 10, fade := 10, lead := 30,
    corroborate := 40, clearRounds := 10, holdFirst := 0, holdCount := 0, holdInvert := false, kSupply := 1,
    kReturn := 1, hdrOffset := 0, hdrDeadband := 0, hdrTrip := 1, hdrForgive := 0, hdrStroke := 30,
    backflowRounds := 3, skewLimit := 0, overrunRounds := 3, summary := false }

/-- The Unit Settings of a bank, or the defaults while it has none. -/
def settingsOf (b : Bank) : Settings := b.settings.getD defaultSettings

/-- The Unit Settings in force. -/
def settings (s : State) : Settings := settingsOf s.ts.active

/-- Branch `i` lies in the hold-off set (R170). -/
def inHoldOff (c : Settings) (i : Nat) : Bool :=
  let inside := decide (c.holdFirst ≤ i ∧ i < c.holdFirst + c.holdCount ∧ i ≤ 23)
  if c.holdInvert then !inside else inside

/-! ### The clock -/

/-- `d` milliseconds pass: the free-running clock and the controller-presence timer advance (R184). -/
def elapse (d : Nat) (s : State) : State :=
  { s with clock := s.clock + d, ti := { s.ti with presenceTimer := min 61000 (s.ti.presenceTimer + d) } }

/-- A timed event occurs when its moment has come: the clock stands at `t` or later (notes/assumptions/2.md). -/
def reachTime (t : Nat) (s : State) : State := elapse (t - s.clock) s

/-! ### Open values -/

/-- Uses one open value: the counter that tells the uses apart advances. -/
def useFree (s : State) : State := { s with free := s.free + 1 }

/-! ### Small arithmetic -/

/-- A count held at a limit. -/
def heldAt (limit n : Nat) : Nat := min limit n

/-- The element before which no other is better, the first of several equals. -/
def bestBy {α : Type} (better : α → α → Bool) : List α → Option α
  | [] => none
  | x :: rest =>
    match bestBy better rest with
    | none => some x
    | some y => if better y x then some y else some x

/-- The lowest number of a list. -/
def lowest : List Nat → Option Nat
  | [] => none
  | x :: rest =>
    match lowest rest with
    | none => some x
    | some y => some (min x y)

end Sys2Proof.Machine
end

