-- ==== Sys2Proof/Machine/Flags.lean ====
section
/-! DEFINITION. Unit conditions: their activation, clearing and report pending flags (Table 10-8), and the
active-conditions word of STATUS (R191). -/

namespace Sys2Proof.Machine

open Sys2Proof

/-- The nine unit conditions in code order (Table 10-8). -/
inductive UnitCondition where
  | flood
  | headerBackflow
  | headerFault
  | meterSkew
  | incidentOverflow
  | roundOverrun
  | controllerLost
  | alertStuck
  | unmappedDrip
  deriving DecidableEq, Repr

/-- The conditions in code order, which is the order the arbiter grants them in (R178, R191). -/
def allConditions : List UnitCondition :=
  [.flood, .headerBackflow, .headerFault, .meterSkew, .incidentOverflow, .roundOverrun, .controllerLost, .alertStuck,
    .unmappedDrip]

/-- The code of a condition (Table 10-2). -/
def conditionCode : UnitCondition → Nat
  | .flood => 1
  | .headerBackflow => 2
  | .headerFault => 3
  | .meterSkew => 4
  | .incidentOverflow => 5
  | .roundOverrun => 6
  | .controllerLost => 7
  | .alertStuck => 8
  | .unmappedDrip => 9

/-- The record of a condition, held by the block that owns it (Table 10-8). -/
def conditionOf (s : State) : UnitCondition → Condition
  | .flood => s.nd.flood
  | .headerBackflow => s.fa.backflow
  | .headerFault => s.vs.header.fault
  | .meterSkew => s.fa.meterSkew
  | .incidentOverflow => s.ie.overflow
  | .roundOverrun => s.rt.overrun
  | .controllerLost => s.ti.lost
  | .alertStuck => s.le.stuck
  | .unmappedDrip => s.de.unmappedDrip

/-- The grant of a condition's report clears its pending flag (R179). -/
def unpend (c : Condition) : Condition := { c with pending := false }

/-- Clears the pending flag of one condition. -/
def clearConditionPending (u : UnitCondition) (s : State) : State :=
  match u with
  | .flood => { s with nd := { s.nd with flood := unpend s.nd.flood } }
  | .headerBackflow => { s with fa := { s.fa with backflow := unpend s.fa.backflow } }
  | .headerFault => { s with vs := { s.vs with header := { s.vs.header with fault := unpend s.vs.header.fault } } }
  | .meterSkew => { s with fa := { s.fa with meterSkew := unpend s.fa.meterSkew } }
  | .incidentOverflow => { s with ie := { s.ie with overflow := unpend s.ie.overflow } }
  | .roundOverrun => { s with rt := { s.rt with overrun := unpend s.rt.overrun } }
  | .controllerLost => { s with ti := { s.ti with lost := unpend s.ti.lost } }
  | .alertStuck => { s with le := { s.le with stuck := unpend s.le.stuck } }
  | .unmappedDrip => { s with de := { s.de with unmappedDrip := unpend s.de.unmappedDrip } }

/-- Activation with a detail: the condition becomes active and its report pending is set. -/
def raise (detail : Nat) : Condition := ⟨true, detail, true⟩

/-- Clearing: the condition becomes inactive, keeps the detail last set (R191), and its report pending is set. -/
def settleClear (c : Condition) : Condition := { c with active := false, pending := true }

/-- A condition that follows a state of affairs with a detail: it activates, changes its detail or clears, and each
of these sets its report pending (R16, R36, R86). -/
def follow (c : Condition) (now : Option Nat) : Condition :=
  match now with
  | some d => if c.active ∧ c.detail = d then c else raise d
  | none => if c.active then settleClear c else c

/-- The active-conditions field of STATUS: bit n − 1 is set while the condition with code n is active
(Table 10-7). -/
def conditionBits (s : State) : Nat :=
  (allConditions.map fun u => if (conditionOf s u).active then 2 ^ (conditionCode u - 1) else 0).sum

end Sys2Proof.Machine
end

