-- ==== Sys2Proof/Machine/Operands.lean ====
section
/-! DEFINITION. Frames, code values and table records as bytes (chapter 10). -/

namespace Sys2Proof.Machine

open Sys2Proof

/-! ### Bytes and checks (section 10.1) -/

/-- A number as one byte. -/
def byte (n : Nat) : Byte := BitVec.ofNat 8 n

/-- A number as two bytes, least significant first. -/
def bytes2 (n : Nat) : List Byte := [byte n, byte (n / 256)]

/-- A two-byte field, least significant byte first. -/
def ofBytes2 (lo hi : Byte) : Nat := lo.toNat + 256 * hi.toNat

/-- A signed two-byte field. -/
def signedOf2 (lo hi : Byte) : Int := (BitVec.ofNat 16 (ofBytes2 lo hi)).toInt

/-- A signed number as two bytes. -/
def signed2 (n : Int) : List Byte := bytes2 (BitVec.ofInt 16 n).toNat

/-- A flag as a byte. -/
def flagByte (b : Bool) : Byte := if b then 1 else 0

/-- An optional one-byte field: 255 when absent. -/
def optByte (o : Option Nat) : Byte :=
  match o with
  | some n => byte n
  | none => 255

/-- One bit of the CRC-8 over x^8 + x^2 + x + 1. -/
def crc8Bit (c : Byte) : Byte := if c.msb then (c <<< 1) ^^^ 0x07#8 else c <<< 1

/-- One byte of the CRC-8, most significant bit first. -/
def crc8Byte (c b : Byte) : Byte := crc8Bit (crc8Bit (crc8Bit (crc8Bit (crc8Bit (crc8Bit (crc8Bit (crc8Bit (c ^^^ b))))))))

/-- The header check and the record check: initial value 0. -/
def crc8 (bs : List Byte) : Byte := bs.foldl crc8Byte 0

/-- One bit of the CRC-16 over x^16 + x^12 + x^5 + 1. -/
def crc16Bit (c : Half) : Half := if c.msb then (c <<< 1) ^^^ 0x1021#16 else c <<< 1

/-- One byte of the CRC-16, most significant bit first. -/
def crc16Byte (c : Half) (b : Byte) : Half :=
  crc16Bit (crc16Bit (crc16Bit (crc16Bit (crc16Bit (crc16Bit (crc16Bit (crc16Bit (c ^^^ (b.zeroExtend 16 <<< 8)))))))))

/-- The payload CRC: initial value 0xFFFF. -/
def crc16 (bs : List Byte) : Half := bs.foldl crc16Byte 0xFFFF#16

/-- The bytes of a frame (Table 10-1). -/
def encodeFrame (f : Frame) : List Byte :=
  let h : List Byte := [f.dest, f.src, f.place, f.kind, byte f.payload.length]
  h ++ [crc8 h] ++ f.payload ++ (if f.payload = [] then [] else bytes2 (crc16 f.payload).toNat)

/-- What the checks of a whole frame say (R8, R172). -/
inductive FrameCheck where
  | good (f : Frame)
  | badHeader
  | badPayload
  deriving DecidableEq, Repr

/-- Judges the bytes of a frame whose last byte has been reached: header check, then payload CRC. -/
def checkFrame (bs : List Byte) : FrameCheck :=
  match bs with
  | d :: sr :: p :: k :: len :: c :: rest =>
    if crc8 [d, sr, p, k, len] = c then
      let n := len.toNat
      if n = 0 then (if rest = [] then .good ⟨d, sr, p, k, []⟩ else .badPayload)
      else if rest.length = n + 2 ∧ rest.drop n = bytes2 (crc16 (rest.take n)).toNat then .good ⟨d, sr, p, k, rest.take n⟩
      else .badPayload
    else .badHeader
  | _ => .badHeader

/-! ### Place (Table 10-1) -/

/-- The Place of a node: leg in bits 7 to 5, address in bits 4 to 0. -/
def placeByte (k : NodeKey) : Byte := byte (32 * k.leg.val + k.node)

/-- The Place of the unit itself. -/
def unitPlace : Byte := 0xE0#8

/-- The leg and node a Place byte names, when it names leg 0 to 3 and node 1 to 30. -/
def placeKey (b : Byte) : Option NodeKey :=
  let node := b.toNat % 32
  match legOfNat (b.toNat / 32) with
  | some l => if 1 ≤ node ∧ node ≤ 30 then some ⟨l, node⟩ else none
  | none => none

/-! ### Frame kinds (Table 10-3, Table 10-6) -/

def kindPoll : Byte := 0x01#8
def kindSample : Byte := 0x02#8
def kindValveSet : Byte := 0x03#8
def kindValveAck : Byte := 0x04#8
def kindIdentRequest : Byte := 0x05#8
def kindIdentReply : Byte := 0x06#8
def kindNumber : Byte := 0x10#8
def kindCommand : Byte := 0x11#8
def kindReply : Byte := 0x12#8
def kindRelay : Byte := 0x13#8
def kindRelayReply : Byte := 0x14#8
def kindIncidentReport : Byte := 0x20#8
def kindCoolingNotice : Byte := 0x21#8
def kindUnitCondition : Byte := 0x22#8
def kindDropReport : Byte := 0x23#8
def kindRoundSummary : Byte := 0x30#8
def kindMirror : Byte := 0x31#8

/-- Kinds that travel downward (R173). -/
def downwardKind (k : Byte) : Bool := k = kindNumber || k = kindCommand || k = kindRelay

/-- Kinds that travel upward (R173). -/
def upwardKind (k : Byte) : Bool :=
  k = kindReply || k = kindRelayReply || k = kindIncidentReport || k = kindCoolingNotice || k = kindUnitCondition ||
    k = kindRoundSummary || k = kindMirror

/-- Upward frames of the urgent class (R176). -/
def urgentKind (k : Byte) : Bool :=
  k = kindIncidentReport || k = kindCoolingNotice || k = kindUnitCondition || k = kindDropReport

/-! ### Code values (Table 10-2) -/

def resultCode : Result → Byte
  | .ok => 0
  | .busy => 1
  | .guarded => 2
  | .badArgument => 3
  | .badRecord => 4
  | .partialLoad => 5
  | .invalid => 6
  | .roundBudget => 7
  | .inUse => 8
  | .limit => 9
  | .held => 10
  | .wrongState => 11
  | .valveFault => 12
  | .positionHeld => 13
  | .chainTooLong => 14
  | .timeout => 15

def positionCode : ValvePos → Byte
  | .opened => 0
  | .closed => 1
  | .moving => 2
  | .partway => 3
  | .jammed => 4

def positionOf (b : Byte) : Option ValvePos :=
  match b.toNat with
  | 0 => some .opened
  | 1 => some .closed
  | 2 => some .moving
  | 3 => some .partway
  | 4 => some .jammed
  | _ => none

def targetCode : Option ValveTarget → Byte
  | none => 0
  | some .toOpen => 1
  | some .toClose => 2
  | some .partialTest => 3

/-- The target a sample reports: NONE is `some none`; an undefined code is `none`. -/
def targetOf (b : Byte) : Option (Option ValveTarget) :=
  match b.toNat with
  | 0 => some none
  | 1 => some (some .toOpen)
  | 2 => some (some .toClose)
  | 3 => some (some .partialTest)
  | _ => none

def nodeKindCode : NodeKind → Byte
  | .drip => 1
  | .flow => 2
  | .valve => 3

def identKindOf (b : Byte) : IdentKind :=
  match b.toNat with
  | 1 => .drip
  | 2 => .flow
  | 3 => .valve
  | _ => .unknown

/-- UNKNOWN is carried as 255 (R22). -/
def identKindCode : IdentKind → Byte
  | .drip => 1
  | .flow => 2
  | .valve => 3
  | .unknown => 255

def mirrorCode : MirrorMode → Byte
  | .off => 0
  | .every => 1
  | .change => 2

def mirrorOf (b : Byte) : Option MirrorMode :=
  match b.toNat with
  | 0 => some .off
  | 1 => some .every
  | 2 => some .change
  | _ => none

/-- A defined flag: 0 clear, 1 set. -/
def flagOf (b : Byte) : Option Bool :=
  match b.toNat with
  | 0 => some false
  | 1 => some true
  | _ => none

def verdictCode : Verdict → Byte
  | .usable => 0
  | .noReading => 1
  | .notOk => 2
  | .malformed => 3

def incStateCode : IncState → Byte
  | .watch => 0
  | .probing => 1
  | .isolating => 2
  | .isolated => 3
  | .reportOnly => 4
  | .escalated => 5
  | .releasing => 6

/-- The incident state FREED, which no open incident has. -/
def freedCode : Byte := 7

def originCode : Origin → Byte
  | .drip => 0
  | .flow => 1
  | .header => 2
  | .flood => 3
  | .recovered => 4
  | .manual => 5

def reasonCode : Option Reason → Byte
  | none => 0
  | some .capacity => 1
  | some .valveFault => 2
  | some .limit => 3
  | some .probeExhausted => 4
  | some .stillDripping => 5
  | some .headerLeak => 6
  | some .flood => 7

def faultCode : ValveFault → Byte
  | .none => 0
  | .jammed => 1
  | .unreachable => 2
  | .missing => 3

def phaseCode : StrokePhase → Byte
  | .none => 0
  | .queued => 1
  | .deferred => 2
  | .sent => 3
  | .stroking => 4
  | .expired => 5
  | .abandoned => 6

def probePhaseCode : ProbePhase → Byte
  | .none => 0
  | .closing => 1
  | .settling => 2

def ownerCode : Owner → Byte
  | .none => 0
  | .incident _ => 1
  | .exercise => 2

def headerCode : HeaderState → Byte
  | .opened => 0
  | .closed => 1
  | .unknown => 2
  | .closing => 3
  | .opening => 4
  | .fault => 5

def exStateCode : ExState → Byte
  | .idle => 0
  | .running => 1
  | .suspended => 2

def endKindCode : EndKind → Byte
  | .none => 0
  | .finished => 1
  | .aborted => 2

def exVerdictCode : ExVerdict → Byte
  | .pass => 0
  | .slow => 1
  | .failed => 2
  | .preempted => 3
  | .skipped => 4

def exCauseNum : ExCause → Nat
  | .jammed => 0
  | .unreachable => 1
  | .missing => 2
  | .incident => 3
  | .fault => 4
  | .command => 5
  | .position => 6

def guardCode : Guard → Byte
  | .opened => 0
  | .service => 1
  | .fixed => 2

def guardOf (b : Byte) : Option Guard :=
  match b.toNat with
  | 0 => some .opened
  | 1 => some .service
  | 2 => some .fixed
  | _ => none

def noticeCode : NoticeState → Byte
  | .none => 0
  | .lost => 1
  | .restored => 2

def rowResultNum : RowResult → Nat
  | .active => 0
  | .quiet => 1
  | .blind => 2
  | .silent => 3
  | .stale => 4

def errorCode : FrameError → Byte
  | .none => 0
  | .broken => 1
  | .overlong => 2
  | .headerCheck => 3
  | .payloadCrc => 4
  | .misrouted => 5
  | .fifoFull => 6

def portCode : Port → Byte
  | .upper => 0
  | .lower => 1

def tableOf (b : Byte) : Option TableId :=
  match b.toNat with
  | 0 => some .node
  | 1 => some .branch
  | 2 => some .drip
  | 3 => some .settings
  | _ => none

def tableCode : TableId → Byte
  | .node => 0
  | .branch => 1
  | .drip => 2
  | .settings => 3

/-- The last index of each table (Table 8-1). -/
def lastIndex : TableId → Nat
  | .node => 119
  | .branch => 23
  | .drip => 47
  | .settings => 0

/-! ### Table records (Table 10-4, R159, R160) -/

/-- The length of a record as its first bytes tell it, the CRC-8 counted. -/
inductive RecordSize where
  /-- the bytes that tell it have not arrived -/
  | unknown
  /-- it cannot be found: the record is refused -/
  | bad
  | bytes (n : Nat)
  deriving DecidableEq, Repr

/-- A Node Table Place byte that names leg 0 to 3 and node 1 to 30 (R159). -/
def placeOk (bs : List Byte) : Bool :=
  match bs with
  | _ :: p :: _ => (placeKey p).isSome
  | _ => true

/-- The length of a record (R159, section 10.2). -/
def recordSize (t : TableId) (bs : List Byte) : RecordSize :=
  match bs with
  | [] => .unknown
  | b0 :: _ =>
    if b0 = 0#8 then .bytes 2
    else
      match t with
      | .node =>
        if placeOk bs then
          if b0 = 1#8 then .bytes 11 else if b0 = 2#8 then .bytes 6 else if b0 = 3#8 then .bytes 7 else .bad
        else .bad
      | .branch => if b0 = 1#8 then .bytes 14 else .bad
      | .drip =>
        if b0 = 1#8 then
          match bs[6]? with
          | none => .unknown
          | some c => if 1 ≤ c.toNat ∧ c.toNat ≤ 6 then .bytes (8 + 2 * c.toNat) else .bad
        else .bad
      | .settings => if b0 = 1#8 then .bytes 32 else .bad

/-- A record's content. -/
inductive RecordBody where
  | empty
  | node (r : NodeRec)
  | branch (r : BranchRec)
  | row (r : RowRec)
  | settings (r : Settings)
  deriving DecidableEq, Repr

/-- A setting clamped to the nearest end of its range (R160). -/
def clampTo (lo hi n : Nat) : Nat := max lo (min hi n)

/-- A signed setting clamped to the nearest end of its range. -/
def clampInt (lo hi n : Int) : Int := max lo (min hi n)

/-- The round period: clamped to 200 to 5000 ms, then rounded down to a multiple of 50 ms (R160). -/
def clampPeriod (n : Nat) : Nat := clampTo 200 5000 n / 50 * 50

/-- How many fields clamping or rounding changed. -/
def changedCount (ps : List (Int × Int)) : Nat := (ps.filter fun p => p.1 ≠ p.2).length

/-- A node record's fields (R160); `none` refuses the record. -/
def parseNode (bs : List Byte) : Option (RecordBody × Nat) :=
  match bs with
  | k :: p :: m :: dl :: dh :: part =>
    match placeKey p, mirrorOf m with
    | some key, some mode =>
      let mk := fun body => RecordBody.node ⟨key, mode, ofBytes2 dl dh, body⟩
      match k.toNat, part with
      | 1, w :: h :: fl :: ac :: ev :: _ =>
        match flagOf ac with
        | some cap =>
          if ev.toNat ≤ 4 then
            let w' := clampTo 1 255 w.toNat
            let h' := clampTo 0 64 h.toNat
            let f' := clampTo 1 255 fl.toNat
            some (mk (.drip ⟨w', h', f', cap, ev.toNat⟩), changedCount [(w.toNat, w'), (h.toNat, h'), (fl.toNat, f')])
          else none
        | none => none
      | 2, _ => some (mk .flow, 0)
      | 3, l :: _ =>
        let l' := clampTo 1 60 l.toNat
        some (mk (.valve l'), changedCount [(l.toNat, l')])
      | _, _ => none
    | _, _ => none
  | _ => none

/-- A branch record's fields (R160). -/
def parseBranch (bs : List Byte) : Option (RecordBody × Nat) :=
  match bs with
  | [_, su, re, va, ol, oh, dl, dh, tl, th, fg, gl, gh] =>
    if su.toNat ≤ 119 ∧ re.toNat ≤ 119 ∧ va.toNat ≤ 119 then
      let o := signedOf2 ol oh
      let o' := clampInt (-2048) 2047 o
      let d := ofBytes2 dl dh
      let d' := clampTo 0 4095 d
      let t := ofBytes2 tl th
      let t' := clampTo 1 65535 t
      some (.branch ⟨su.toNat, re.toNat, va.toNat, o', d', t', fg.toNat, ofBytes2 gl gh⟩,
        changedCount [(o, o'), (d, d'), (t, t')])
    else none
  | _ => none

/-- The candidates of a row as loaded: branch, weight. -/
def parseCandidates : List Byte → List (Nat × Nat)
  | b :: w :: rest => (b.toNat, w.toNat) :: parseCandidates rest
  | _ => []

/-- A row's fields (R160). -/
def parseRow (bs : List Byte) : Option (RecordBody × Nat) :=
  match bs with
  | _ :: u :: n :: fa :: qu :: pe :: c :: part =>
    let cs := (parseCandidates part).take c.toNat
    if u.toNat ≤ 4 ∧ n.toNat ≤ 119 ∧ 1 ≤ c.toNat ∧ c.toNat ≤ 6 ∧ cs.all (fun p => decide (p.1 ≤ 23)) then
      let f' := clampTo 0 15 fa.toNat
      let q' := clampTo 1 15 qu.toNat
      let p' := clampTo 1 31 pe.toNat
      let ws := cs.map fun p => (p.2, clampTo 1 100 p.2)
      some (.row ⟨u.toNat, n.toNat, f', q', p', cs.map fun p => ⟨p.1, clampTo 1 100 p.2⟩⟩,
        changedCount ([((fa.toNat : Int), (f' : Int)), (qu.toNat, q'), (pe.toNat, p')] ++ ws.map fun p => ((p.1 : Int), (p.2 : Int))))
    else none
  | _ => none

/-- The settings record's fields (R160). -/
def parseSettings (bs : List Byte) : Option (RecordBody × Nat) :=
  match bs with
  | [_, pl, ph, w, iso, au, ab, fd, ld, co, cl, hf, hc, hi, ksl, ksh, krl, krh, ol, oh, dl, dh, tl, th, fg, st, bf, sl,
      sh, ov, su] =>
    match flagOf au, flagOf hi, flagOf su with
    | some auto, some inv, some sum =>
      if hf.toNat ≤ 23 then
        let p := ofBytes2 pl ph
        let ks := ofBytes2 ksl ksh
        let kr := ofBytes2 krl krh
        let o := signedOf2 ol oh
        let d := ofBytes2 dl dh
        let t := ofBytes2 tl th
        let r : Settings :=
          { period := clampPeriod p, window := clampTo 1 20 w.toNat, isoLimit := clampTo 1 24 iso.toNat,
            autoHeader := auto, absenceLimit := clampTo 1 60 ab.toNat, fade := clampTo 1 255 fd.toNat,
            lead := clampTo 0 100 ld.toNat, corroborate := clampTo 1 99 co.toNat,
            clearRounds := clampTo 1 255 cl.toNat, holdFirst := hf.toNat, holdCount := clampTo 0 24 hc.toNat,
            holdInvert := inv, kSupply := clampTo 1 65535 ks, kReturn := clampTo 1 65535 kr,
            hdrOffset := clampInt (-2048) 2047 o, hdrDeadband := clampTo 0 4095 d, hdrTrip := clampTo 1 65535 t,
            hdrForgive := fg.toNat, hdrStroke := clampTo 1 120 st.toNat, backflowRounds := clampTo 1 15 bf.toNat,
            skewLimit := ofBytes2 sl sh, overrunRounds := clampTo 1 15 ov.toNat, summary := sum }
        some (.settings r, changedCount
          [(p, r.period), (w.toNat, r.window), (iso.toNat, r.isoLimit), (ab.toNat, r.absenceLimit), (fd.toNat, r.fade),
            (ld.toNat, r.lead), (co.toNat, r.corroborate), (cl.toNat, r.clearRounds), (hc.toNat, r.holdCount),
            (ks, r.kSupply), (kr, r.kReturn), (o, r.hdrOffset), (d, r.hdrDeadband), (t, r.hdrTrip),
            (st.toNat, r.hdrStroke), (bf.toNat, r.backflowRounds), (ov.toNat, r.overrunRounds)])
      else none
    | _, _, _ => none
  | _ => none

/-- The content of a record and its count of clamped fields, from its bytes without the CRC-8 (R160). -/
def parseRecord (t : TableId) (bs : List Byte) : Option (RecordBody × Nat) :=
  match bs with
  | [] => none
  | b0 :: _ =>
    if b0 = 0#8 then some (.empty, 0)
    else
      match t with
      | .node => parseNode bs
      | .branch => parseBranch bs
      | .drip => parseRow bs
      | .settings => parseSettings bs

/-- A record with its CRC-8. -/
def withCheck (bs : List Byte) : List Byte := bs ++ [crc8 bs]

/-- The NONE record. -/
def noneRecord : List Byte := withCheck [0]

def nodeRecordBytes (r : NodeRec) : List Byte :=
  withCheck ([nodeKindCode (nodeKind r), placeByte r.key, mirrorCode r.mirror] ++ bytes2 r.delta ++
    match r.body with
    | .drip d => [byte d.wet, byte d.hyst, byte d.flood, flagByte d.alertCapable, byte d.evUnit]
    | .flow => []
    | .valve l => [byte l])

def branchRecordBytes (r : BranchRec) : List Byte :=
  withCheck ([1, byte r.supply, byte r.ret, byte r.valve] ++ signed2 r.offset ++ bytes2 r.deadband ++ bytes2 r.trip ++
    [byte r.forgive] ++ bytes2 r.loadTag)

def rowRecordBytes (r : RowRec) : List Byte :=
  withCheck ([1, byte r.unit, byte r.node, byte r.fall, byte r.quiet, byte r.persist, byte r.cands.length] ++
    r.cands.flatMap fun c => [byte c.branch, byte c.weight])

def settingsRecordBytes (r : Settings) : List Byte :=
  withCheck ([1] ++ bytes2 r.period ++
    [byte r.window, byte r.isoLimit, flagByte r.autoHeader, byte r.absenceLimit, byte r.fade, byte r.lead,
      byte r.corroborate, byte r.clearRounds, byte r.holdFirst, byte r.holdCount, flagByte r.holdInvert] ++
    bytes2 r.kSupply ++ bytes2 r.kReturn ++ signed2 r.hdrOffset ++ bytes2 r.hdrDeadband ++ bytes2 r.hdrTrip ++
    [byte r.hdrForgive, byte r.hdrStroke, byte r.backflowRounds] ++ bytes2 r.skewLimit ++
    [byte r.overrunRounds, flagByte r.summary])

/-- Entry `i` of a table of a bank as a record (R162). -/
def tableRecordBytes (b : Bank) (t : TableId) (i : Nat) : List Byte :=
  match t with
  | .node => match entryAt b.nodes i with | some r => nodeRecordBytes r | none => noneRecord
  | .branch => match entryAt b.branches i with | some r => branchRecordBytes r | none => noneRecord
  | .drip => match entryAt b.rows i with | some r => rowRecordBytes r | none => noneRecord
  | .settings => match b.settings with | some r => settingsRecordBytes r | none => noneRecord

/-! ### Frames the unit builds (R185) -/

/-- The unit's own address in frames it builds: its position, or 254 while unnumbered (R179, R185). -/
def unitByte (pos : Option Nat) : Byte :=
  match pos with
  | some p => byte p
  | none => 254

/-- A request on a leg. -/
def legFrame (pos : Option Nat) (k : NodeKey) (kind : Byte) (payload : List Byte) : Frame :=
  ⟨unitByte pos, unitByte pos, placeByte k, kind, payload⟩

/-- A frame to the rack controller about the unit itself; the Source Unit is written at the grant. -/
def unitFrame (pos : Option Nat) (kind : Byte) (payload : List Byte) : Frame :=
  ⟨0, unitByte pos, unitPlace, kind, payload⟩

end Sys2Proof.Machine
end

