-- ==== Sys2Proof/Machine/Valves.lean ====
section
/-! DEFINITION. The Valve Supervisor's own acts (chapter 6): commands, Action Queues and deferral, what a return of
ownership leaves, and the header drive.  What it reports to the owners of valves stands in ValveEvents.lean. -/

namespace Sys2Proof.Machine

open Sys2Proof

/-! ### Valve Status records -/

/-- A record that begins (Table 6-1). -/
def freshValve : ValveRec :=
  { position := none, target := none, tag := 0, attempts := 0, phase := .none, start := none, limit := none,
    owner := .none, fault := .none, unreliable := false, lastStroke := none }

/-- The record of valve `k`. -/
def valveAt (v : ValveBlock) (k : NodeKey) : Option ValveRec := assocGet k v.valves

/-- Changes the record of valve `k`. -/
def setValve (k : NodeKey) (f : ValveRec → ValveRec) (v : ValveBlock) : ValveBlock :=
  { v with valves := assocMap k f v.valves }

/-- The valve has a fault MISSING, UNREACHABLE or JAMMED. -/
def valveFaulted (v : ValveBlock) (k : NodeKey) : Bool :=
  match valveAt v k with
  | some r => decide (r.fault ≠ .none)
  | none => false

/-- The valve is marked unreliable. -/
def valveUnreliable (v : ValveBlock) (k : NodeKey) : Bool :=
  match valveAt v k with
  | some r => r.unreliable
  | none => false

/-- The valve shows target CLOSE or position CLOSED, as the closed count reads it (R91). -/
def valveClosing (v : ValveBlock) (k : NodeKey) : Bool :=
  match valveAt v k with
  | some r => decide (r.target = some .toClose ∨ r.position = some .closed)
  | none => false

/-! ### Action Queues (R130) -/

/-- The oldest deferred command of a leg enters the queue when it has room. -/
def refillOnce (l : Leg) (v : ValveBlock) : ValveBlock :=
  if (quadGet v.queues l).length < 8 then
    match quadGet v.deferred l with
    | [] => v
    | k :: rest =>
      let v' := { v with deferred := quadSet v.deferred l rest }
      match valveAt v k with
      | some r =>
        match r.target with
        | some t => setValve k (fun r => { r with phase := .queued })
            { v' with queues := quadSet v.queues l (quadGet v.queues l ++ [⟨k, t, r.tag⟩]) }
        | none => v'
      | none => v'
  else v

/-- Deferred commands of a leg enter its queue while it has room. -/
def refill (l : Leg) : Nat → ValveBlock → ValveBlock
  | 0, v => v
  | n + 1, v => refill l n (refillOnce l v)

/-- Places a valve's command in its leg's Action Queue, in place when one stands there already (R130). -/
def placeCommand (k : NodeKey) (t : ValveTarget) (tag : Byte) (v : ValveBlock) : ValveBlock :=
  let q := quadGet v.queues k.leg
  let d := quadGet v.deferred k.leg
  if q.any (fun e => e.key = k) then
    setValve k (fun r => { r with phase := .queued })
      { v with queues := quadSet v.queues k.leg (q.map fun e => if e.key = k then ⟨k, t, tag⟩ else e) }
  else if k ∈ d then
    setValve k (fun r => { r with phase := .deferred }) v
  else if q.length < 8 then
    setValve k (fun r => { r with phase := .queued }) { v with queues := quadSet v.queues k.leg (q ++ [⟨k, t, tag⟩]) }
  else
    setValve k (fun r => { r with phase := .deferred }) { v with deferred := quadSet v.deferred k.leg (d ++ [k]) }

/-- Removes the queued entry or deferred command of a valve; a place freed is taken by the oldest deferred
command. -/
def dropCommand (k : NodeKey) (v : ValveBlock) : ValveBlock :=
  refill k.leg 8
    { v with queues := quadMap v.queues k.leg (fun q => q.filter fun e => e.key ≠ k),
             deferred := quadMap v.deferred k.leg (fun d => d.filter fun j => j ≠ k) }

/-- The command in force of a record is in hand: QUEUED, DEFERRED, SENT or STROKING (R129). -/
def inHand (p : StrokePhase) : Bool :=
  match p with
  | .queued => true
  | .deferred => true
  | .sent => true
  | .stroking => true
  | _ => false

/-- Issues a command to a valve's record: nothing when it is already in hand, else a new tag and a place in the
Action Queue (R129). -/
def issue (k : NodeKey) (t : ValveTarget) (v : ValveBlock) : ValveBlock :=
  match valveAt v k with
  | none => v
  | some r =>
    if r.target = some t ∧ inHand r.phase then v
    else
      placeCommand k t (r.tag + 1)
        (setValve k (fun r => { r with tag := r.tag + 1, target := some t, attempts := 0, start := none, limit := none }) v)

/-- The Leg Engine takes the head entry of its Action Queue; the phase becomes SENT (R131). -/
def takeHead (l : Leg) (v : ValveBlock) : Option (ActionEntry × ValveBlock) :=
  match quadGet v.queues l with
  | [] => none
  | e :: rest =>
    some (e, refill l 8 (setValve e.key (fun r => { r with phase := .sent }) { v with queues := quadSet v.queues l rest }))

/-! ### Ownership (R128, R138) -/

/-- A command in phase EXPIRED or ABANDONED without an owner is given up: target absent, phase NONE; the fault
stays (R138).  DESIGN CHOICE: attempts, stroke start time and stroke limit stay as they stood
(notes/assumptions/29.md). -/
def giveUp (r : ValveRec) : ValveRec :=
  if r.owner = .none ∧ (r.phase = .expired ∨ r.phase = .abandoned) then { r with target := none, phase := .none } else r

/-- The owner returns a valve (R128, R138). -/
def returnValve (k : NodeKey) (v : ValveBlock) : ValveBlock := setValve k (fun r => giveUp { r with owner := .none }) v

/-- Sets or clears the unreliable mark (R148, R149). -/
def markUnreliable (k : NodeKey) (b : Bool) (v : ValveBlock) : ValveBlock := setValve k (fun r => { r with unreliable := b }) v

/-! ### The header drive (section 6.6) -/

/-- Enters a header drive state.  The outputs follow the state (Table 6-2); entering FAULT from another state sets
HEADER_FAULT with `detail`, leaving FAULT clears it (R143); only a driven state keeps a timer. -/
def enterHeader (st : HeaderState) (detail : Nat) (timer : Option Timer) (h : HeaderDrive) : HeaderDrive :=
  { h with
    state := st
    closeReq := decide (st = .closing)
    openReq := decide (st = .opening)
    timer := timer
    fault := if st = .fault then (if h.state = .fault then h.fault else raise detail)
             else (if h.state = .fault then settleClear h.fault else h.fault) }

/-- The undriven state the limit inputs give (R139). -/
def headerReading (atClosed atOpen : Bool) : HeaderState :=
  match atClosed, atOpen with
  | true, true => .fault
  | true, false => .closed
  | false, true => .opened
  | false, false => .unknown

/-- A limit already asserted completes a stroke as it starts (R140, R142). -/
def completeAtOnce (h : HeaderDrive) : HeaderDrive :=
  if h.state = .closing ∧ h.atClosed ∧ ¬ h.atOpen then enterHeader .closed 0 none h
  else if h.state = .opening ∧ h.atOpen ∧ ¬ h.atClosed then enterHeader .opened 0 none h
  else h

/-- A close request, and the result HEADER CLOSE returns for it (R140). -/
def closeHeader (clock limit : Nat) (h : HeaderDrive) : HeaderDrive × Result :=
  match h.state with
  | .closed => (h, .ok)
  | .closing => (h, .ok)
  | _ =>
    if h.state = .fault ∧ h.atClosed ∧ h.atOpen then (h, .valveFault)
    else (completeAtOnce (enterHeader .closing 0 (some ⟨clock, limit⟩) h), .ok)

/-- An open request, and the result HEADER OPEN returns for it once no incident is ESCALATED (R141). -/
def openHeader (clock limit : Nat) (h : HeaderDrive) : HeaderDrive × Result :=
  match h.state with
  | .opened => (h, .ok)
  | .opening => (h, .ok)
  | _ =>
    if h.state = .fault ∧ h.atClosed ∧ h.atOpen then (h, .valveFault)
    else (completeAtOnce (enterHeader .opening 0 (some ⟨clock, limit⟩) h), .ok)

/-- The limit inputs change (R139, R142). -/
def headerLimits (atClosed atOpen : Bool) (h : HeaderDrive) : HeaderDrive :=
  let h' := { h with atClosed := atClosed, atOpen := atOpen }
  match h.state with
  | .closing =>
    if atClosed && atOpen then enterHeader .fault 3 none h' else if atClosed then enterHeader .closed 0 none h' else h'
  | .opening =>
    if atClosed && atOpen then enterHeader .fault 3 none h' else if atOpen then enterHeader .opened 0 none h' else h'
  | .fault => h'
  | _ => enterHeader (headerReading atClosed atOpen) 3 none h'

/-- The header stroke timer expires (R142). -/
def headerExpiry (h : HeaderDrive) : HeaderDrive :=
  match h.state with
  | .closing => enterHeader .fault 1 none h
  | .opening => enterHeader .fault 2 none h
  | _ => h

/-- The header drive after a reset: outputs released, timer stopped, the state read from the limits, and
HEADER_FAULT active with detail 3 when they give FAULT (R139, R143). -/
def headerReset (h : HeaderDrive) : HeaderDrive :=
  { state := headerReading h.atClosed h.atOpen, closeReq := false, openReq := false, atClosed := h.atClosed,
    atOpen := h.atOpen, timer := none,
    fault := if h.atClosed && h.atOpen then raise 3 else .clear }

/-- The header drive of the state changes. -/
def setHeader (f : HeaderDrive → HeaderDrive) (s : State) : State := { s with vs := { s.vs with header := f s.vs.header } }

end Sys2Proof.Machine
end

