-- ==== Sys2Proof/Machine/Exercise.lean ====
section
/-! DEFINITION. The Exercise Controller (chapter 7). -/

namespace Sys2Proof.Machine

open Sys2Proof

/-- The state an exercise that is not IDLE has from its two causes (section 7.1). -/
def exStateOf (x : ExerciseBlock) : ExState :=
  if x.state = .idle then .idle else if x.autoCause || x.manualCause then .suspended else .running

/-- The state is set again from the causes (R152). -/
def resettle (x : ExerciseBlock) : ExerciseBlock := { x with state := exStateOf x }

/-- The exercise ends: IDLE, both causes and abort pending cleared (R151, R154). -/
def endExercise (k : EndKind) (x : ExerciseBlock) : ExerciseBlock :=
  { x with state := .idle, endKind := k, autoCause := false, manualCause := false, abortPending := false }

/-- Adds a results entry. -/
def addResult (r : ExResult) (x : ExerciseBlock) : ExerciseBlock := { x with results := x.results ++ [r] }

/-- The incident a branch is a member of. -/
def incidentOf (s : State) (b : BranchId) : Option Incident := s.ie.incidents.find? fun i => decide (b ∈ i.members)

/-- What taking a plan entry leads to (R147). -/
inductive PlanStep where
  | skip (cause : ExCause)
  | start (key : NodeKey) (limit : Nat)
  deriving DecidableEq, Repr

/-- The stroke limit of a valve in the Node Table in force. -/
def strokeLimitOf (b : Bank) (k : NodeKey) : Nat :=
  match nodeByKey b k with
  | some (_, r) =>
    match r.body with
    | .valve l => l
    | _ => 0
  | none => 0

/-- Judges the valve of plan branch `i` against the skip tests, in order (R147).  DESIGN CHOICE: a valve that none of
them skips and that has an owner is skipped with cause INCIDENT, and a branch without a valve record with cause
POSITION; no run is known to reach either (notes/assumptions/30.md). -/
def judgePlan (s : State) (i : Nat) : PlanStep :=
  match identAt s.ts.active i with
  | none => .skip .position
  | some b =>
    if (incidentOf s b).isSome then .skip .incident
    else
      match valveAt s.vs b.valve with
      | none => .skip .position
      | some r =>
        if r.fault ≠ .none then .skip .fault
        else if r.target ≠ none then .skip .command
        else if r.position ≠ some .opened then .skip .position
        else if r.owner ≠ .none then .skip .incident
        else .start b.valve (strokeLimitOf s.ts.active b.valve)

/-- A skipped branch receives its entry and the cursor advances (R147). -/
def skipBranch (i : Nat) (c : ExCause) (s : State) : State :=
  { s with xc := { addResult ⟨i, .skipped, some c, none, none, s.rt.number⟩ s.xc with cursor := s.xc.cursor + 1 } }

/-- A test starts: EXERCISE becomes the owner and a PARTIAL_TEST command is issued (R147). -/
def startTest (i : Nat) (k : NodeKey) (limit : Nat) (s : State) : State :=
  { s with
    xc := { s.xc with test := some ⟨i, k, limit, s.rt.number⟩, cursor := s.xc.cursor + 1 }
    vs := issue k .partialTest (setValve k (fun r => { r with owner := .exercise }) s.vs) }

/-- Takes plan entries until a test starts or the plan is exhausted (R147). -/
def takePlan : Nat → State → State
  | 0, s => s
  | n + 1, s =>
    if s.xc.state = .running ∧ s.xc.test = none ∧ s.xc.abortPending = false then
      match s.xc.plan[s.xc.cursor]? with
      | none => { s with xc := endExercise .finished s.xc }
      | some i =>
        match judgePlan s i with
        | .skip c => takePlan n (skipBranch i c s)
        | .start k limit => startTest i k limit s
    else s

/-- Takes the next plan entry. -/
def takeNext (s : State) : State := takePlan (s.xc.plan.length + 1) s

/-- What follows a verdict (R151). -/
def afterVerdict (s : State) : State :=
  if s.xc.abortPending then { s with xc := endExercise .aborted s.xc }
  else if s.xc.plan.length ≤ s.xc.cursor then { s with xc := endExercise .finished s.xc }
  else if s.xc.state = .running then takeNext s
  else s

/-- The completion of the PARTIAL_TEST stroke of valve `k` (R148). -/
def exerciseCompleted (k : NodeKey) (stroke : Nat) (s : State) : State :=
  match s.xc.test with
  | none => s
  | some t =>
    if t.key = k then
      let v : ExVerdict := if stroke ≤ 75 * t.limit then .pass else .slow
      afterVerdict
        { s with
          xc := { addResult ⟨t.branch, v, none, some stroke, some t.limit, s.rt.number⟩ s.xc with test := none }
          vs := returnValve k (markUnreliable k false s.vs) }
    else s

/-- The cause a fault gives a FAILED entry (R149). -/
def causeOfFault : ValveFault → Option ExCause
  | .none => none
  | .jammed => some .jammed
  | .unreachable => some .unreachable
  | .missing => some .missing

/-- A fault event on the valve under test ends the test as FAILED (R149). -/
def exerciseFaulted (k : NodeKey) (f : ValveFault) (s : State) : State :=
  match s.xc.test, causeOfFault f with
  | some t, some c =>
    if t.key = k then
      afterVerdict
        { s with
          xc := { addResult ⟨t.branch, .failed, some c, none, some t.limit, s.rt.number⟩ s.xc with test := none }
          vs := returnValve k (markUnreliable k true s.vs) }
    else s
  | _, _ => s

/-- The Exercise Controller is told that the valve under test is PREEMPTED (R150). -/
def exercisePreempted (k : NodeKey) (s : State) : State :=
  match s.xc.test with
  | none => s
  | some t =>
    if t.key = k then
      afterVerdict
        { s with
          xc := resettle
            { addResult ⟨t.branch, .preempted, none, none, some t.limit, s.rt.number⟩ s.xc with
              test := none, autoCause := true } }
    else s

/-- The state is set again after a change of the causes; a change from SUSPENDED to RUNNING takes the next plan
entry (R152). -/
def causesChanged (x : ExerciseBlock) (s : State) : State :=
  let s' := { s with xc := resettle x }
  if s.xc.state = .suspended ∧ s'.xc.state = .running then takeNext s' else s'

/-- A suspend event (R152). -/
def suspendEvent (s : State) : State :=
  if s.xc.state = .idle then s else causesChanged { s.xc with autoCause := true } s

/-- A resume event (R152). -/
def resumeEvent (s : State) : State :=
  if s.xc.state = .idle then s else causesChanged { s.xc with autoCause := false } s

/-- An open incident stands in ISOLATING or PROBING. -/
def closingIncident (s : State) : Bool :=
  s.ie.incidents.any fun i => decide (i.state = .isolating ∨ i.state = .probing)

/-- The plan of a range: the branches in it whose Branch Table entries are not empty (R146). -/
def planOf (b : Bank) (r : ExRange) : List Nat :=
  match r with
  | .all => b.branches.map (·.1)
  | .span first count => (b.branches.map (·.1)).filter fun i => decide (first ≤ i ∧ i < first + count ∧ i ≤ 23)

end Sys2Proof.Machine
end

