-- ==== Sys2Proof/Machine/Incidents.lean ====
section
/-! DEFINITION. The Incident Engine (chapter 5). -/

namespace Sys2Proof.Machine

open Sys2Proof

/-! ### Reading the other blocks -/

/-- The drip score of a branch. -/
def scoreOf (s : State) (b : BranchId) : Nat :=
  match assocGet b s.de.branches with
  | some r => r.score
  | none => 0

/-- The loss accumulator of a branch. -/
def lossOf (s : State) (b : BranchId) : Nat :=
  match assocGet b s.fa.branches with
  | some r => r.loss
  | none => 0

/-- The watch level of a branch: floor(trip volume / 8) (R97). -/
def watchLevel (r : BranchRec) : Nat := r.trip / 8

/-- The closed count: the branch valves held by open incidents whose Valve Status shows target CLOSE or position
CLOSED (R91). -/
def closedCount (s : State) : Nat :=
  (s.ie.incidents.map fun i => (i.held.filter fun b => valveClosing s.vs b.valve).length).sum

/-- Asks Drip Evidence to set a branch's D to 0 (R76). -/
def zeroScore (b : BranchId) (s : State) : State :=
  { s with de := { s.de with branches := assocMap b (fun r => { r with score := 0 }) s.de.branches } }

/-- Asks Flow Accounting to zero a branch (R57). -/
def zeroLoss (b : BranchId) (s : State) : State :=
  { s with fa := { s.fa with branches := assocMap b (fun r => { r with loss := 0, rem := 0 }) s.fa.branches } }

/-- Asks Flow Accounting to zero the header integral (R63). -/
def zeroHeader (s : State) : State := { s with fa := { s.fa with hdrLoss := 0, hdrRem := 0 } }

/-! ### Incident records -/

/-- The open incident with an id. -/
def incidentById (s : State) (id : Nat) : Option Incident := s.ie.incidents.find? fun i => decide (i.id = id)

/-- Changes the record of one incident. -/
def modIncident (id : Nat) (f : Incident → Incident) (s : State) : State :=
  { s with ie := { s.ie with incidents := s.ie.incidents.map fun i => if i.id = id then f i else i } }

/-- A change that the incident's report owes: report pending is set and the round of last change is noted (R122). -/
def touch (round : Half) (i : Incident) : Incident := { i with pending := true, changed := round }

/-- Changes the record of one incident in a way its report owes (R122). -/
def changeIncident (id : Nat) (f : Incident → Incident) (s : State) : State :=
  modIncident id (fun i => touch s.rt.number (f i)) s

/-- Reports a change of the incidents' states to the Exercise Controller: a suspend event when an incident enters
ISOLATING, PROBING or ESCALATED, a resume event when none stands in ISOLATING or PROBING (R124, R152). -/
def tellExercise (entered : Option IncState) (s : State) : State :=
  let s' :=
    match entered with
    | some .isolating => suspendEvent s
    | some .probing => suspendEvent s
    | some .escalated => suspendEvent s
    | _ => s
  if closingIncident s' then s' else resumeEvent s'

/-- Sets the cooling notice of a branch (R120). -/
def setNotice (b : BranchId) (n : NoticeState) (s : State) : State :=
  { s with ie := { s.ie with notices := assocMap b (fun _ => ⟨n, true⟩) s.ie.notices } }

/-! ### Asking the Valve Supervisor (R128) -/

/-- The valve becomes an incident's and a command is issued to it. -/
def ownAndIssue (id : Nat) (k : NodeKey) (t : ValveTarget) (s : State) : State :=
  { s with vs := issue k t (setValve k (fun r => { r with owner := .incident id }) s.vs) }

/-- An incident asks a close or reopen of a branch's valve (R128). -/
def requestValve (id : Nat) (b : BranchId) (t : ValveTarget) (s : State) : State :=
  match valveAt s.vs b.valve with
  | none => s
  | some r =>
    match r.owner with
    | .none => ownAndIssue id b.valve t s
    | .exercise => ownAndIssue id b.valve t (exercisePreempted b.valve s)
    | .incident j => if j = id then ownAndIssue id b.valve t s else s

/-- Closes a branch's valve for an incident: notice LOST, the close, and the branch among the held valves.  DESIGN
CHOICE: the held valves stand in the order in which they were taken, so a branch new to them comes last and one already
held keeps its place (notes/assumptions/42.md). -/
def closeFor (id : Nat) (b : BranchId) (s : State) : State :=
  changeIncident id (fun i => if b ∈ i.held then i else { i with held := i.held ++ [b] })
    (requestValve id b .toClose (setNotice b .lost s))

/-- Reopens a probe branch for an incident; it becomes the reopening branch and stays held (R104). -/
def reopenProbe (id : Nat) (b : BranchId) (s : State) : State :=
  modIncident id (fun i => { i with reopening := some b }) (requestValve id b .toOpen s)

/-! ### The header policy (R110) -/

/-- The header close is due without asking the rack controller. -/
def policyCloses (s : State) : Bool := (settings s).autoHeader || s.ti.lost.active

/-- Asks the Valve Supervisor to close the header, unless the drive state is CLOSED or CLOSING. -/
def policyClose (s : State) : State :=
  if s.vs.header.state = .closed ∨ s.vs.header.state = .closing then s
  else setHeader (fun h => (closeHeader s.clock (settings s).hdrStroke h).1) s

/-- The header policy for an incident that enters ESCALATED. -/
def headerPolicy (id : Nat) (s : State) : State :=
  if policyCloses s then policyClose s else changeIncident id (fun i => { i with headerReq := true }) s

/-- The header policy where no incident record could be opened (R98); `b` is the unhoused branch that confirmed. -/
def overflowPolicy (b : Option BranchId) (s : State) : State :=
  if policyCloses s then policyClose s
  else
    { s with ie := { s.ie with
        overflowReq := true
        overflowBy := if b.isSome then b else s.ie.overflowBy
        overflow := { s.ie.overflow with pending := true } } }

/-- The header policy applied again: for every ESCALATED incident whose header requested is set, and for a set
overflow header request (R110). -/
def policyAgain (s : State) : State :=
  if s.ie.overflowReq ∨ s.ie.incidents.any (fun i => decide (i.state = .escalated) && i.headerReq) then policyClose s else s

/-- An incident escalates (R109). -/
def escalate (id : Nat) (why : Reason) (s : State) : State :=
  tellExercise (some .escalated)
    (headerPolicy id
      (changeIncident id (fun i => { i with state := .escalated, reason := some why, probePhase := .none }) s))

/-! ### INCIDENT_OVERFLOW (R98, R99) -/

/-- INCIDENT_OVERFLOW becomes active when it is inactive (R98). -/
def overflowOn (s : State) : State :=
  if s.ie.overflow.active then s else { s with ie := { s.ie with overflow := { s.ie.overflow with active := true, pending := true } } }

/-- The branch is a member of no incident and has D greater than 0 or L at or above its watch level (R99). -/
def unhousedEvidence (s : State) (b : BranchId) : Bool :=
  (incidentOf s b).isNone &&
    (decide (0 < scoreOf s b) ||
      match recOf s.ts.active b with
      | some r => decide (watchLevel r ≤ lossOf s b)
      | none => false)

/-- The indexes of the unhoused branches with evidence, ascending. -/
def unhousedList (s : State) : List Nat :=
  (branchList s.ts.active).filterMap fun p => if unhousedEvidence s p.2 then some p.1 else none

/-- Judges INCIDENT_OVERFLOW (R99). -/
def judgeOverflow (s : State) : State :=
  if s.ie.overflow.active ∧ s.ie.incidents.length < 8 ∧ unhousedList s = [] then
    { s with ie := { s.ie with overflow := settleClear s.ie.overflow, overflowReq := false, overflowBy := none } }
  else s

/-! ### Opening and freeing (R89, R90, R118) -/

/-- The id after `n`, from 255 to 1. -/
def idAfter (n : Nat) : Nat := if 255 ≤ n then 1 else n + 1

/-- The first id at or after `n` that is not in use. -/
def freeId (used : List Nat) : Nat → Nat → Nat
  | 0, n => n
  | k + 1, n => if n ∈ used then freeId used k (idAfter n) else n

/-- The ids in use: those of open incidents and of the cleared queue (R90). -/
def usedIds (s : State) : List Nat := s.ie.incidents.map (·.id) ++ s.ie.cleared.map (·.id)

/-- A record at its opening (Table 5-2). -/
def newIncident (id : Nat) (o : Origin) (st : IncState) (round : Half) : Incident :=
  { id := id, origin := o, state := st, reason := none, members := [], rows := [], target := none, probeRow := none,
    probeBranch := none, probePhase := .none, probed := [], reopening := none, held := [], closing := none, settle := 0,
    probeQuiet := 0, opened := round, changed := round, headerReq := false, pending := true }

/-- The id the next incident gets. -/
def nextFreeId (s : State) : Nat := freeId (usedIds s) 255 s.ie.nextId

/-- Opens an incident after every incident already open, when a slot is free (R89, R90); `f` fills its record. -/
def openIncident (o : Origin) (st : IncState) (f : Incident → Incident) (s : State) : Option (Nat × State) :=
  if s.ie.incidents.length < 8 then
    let id := nextFreeId s
    some (id, { s with ie := { s.ie with
      incidents := s.ie.incidents ++ [f (newIncident id o st s.rt.number)], nextId := idAfter id } })
  else none

/-- Puts an entry in the cleared queue; a full queue discards its oldest entry (R121). -/
def pushCleared (c : Cleared) (q : List Cleared) : List Cleared := (if 16 ≤ q.length then q.drop 1 else q) ++ [c]

/-- Clears the evidence of an incident's members, or the header integral of a HEADER incident (R118). -/
def clearEvidence (i : Incident) (s : State) : State :=
  let s' := i.members.foldl (fun s b => zeroLoss b (zeroScore b s)) s
  if i.origin = .header then zeroHeader s' else s'

/-- Frees an incident (R118). -/
def freeIncident (id : Nat) (evidence : Bool) (into : Option Nat) (s : State) : State :=
  match incidentById s id with
  | none => s
  | some i =>
    let s1 := if evidence then clearEvidence i s else s
    let s2 := { s1 with
      ie := { s1.ie with
        cleared := pushCleared ⟨id, into⟩ s1.ie.cleared
        incidents := s1.ie.incidents.filter fun j => decide (j.id ≠ id) }
      vs := i.held.foldl (fun v b => returnValve b.valve v) s1.vs }
    tellExercise none (judgeOverflow s2)

/-! ### Deciding (R100, R101) -/

/-- The branch confirms, with drip score `d` and loss `l` (R100). -/
def confirms (s : State) (b : BranchId) (d l : Nat) : Bool :=
  match recOf s.ts.active b with
  | none => false
  | some r =>
    let c := settings s
    let others :=
      match incidentOf s b with
      | some i => i.members.filter fun m => decide (m ≠ b)
      | none => []
    let d2 := others.foldl (fun m x => max m (scoreOf s x)) 0
    decide (r.trip ≤ l) || decide (100 ≤ d ∧ d2 + c.lead ≤ d) || decide (c.corroborate ≤ d ∧ r.trip / 4 ≤ l)

/-- The branch lies in the hold-off set (R170). -/
def branchHeldOff (s : State) (b : BranchId) : Bool :=
  match indexOf s.ts.active b with
  | some i => inHoldOff (settings s) i
  | none => false

/-- The valve of a branch is faulted or marked unreliable. -/
def valveUnfit (s : State) (b : BranchId) : Bool := valveFaulted s.vs b.valve || valveUnreliable s.vs b.valve

/-- No probe any more. -/
def endProbe (i : Incident) : Incident := { i with probeRow := none, probeBranch := none, probePhase := .none }

/-- The held runs of the member rows are set to 0. -/
def zeroHeldRuns (i : Incident) : Incident := { i with rows := i.rows.map fun e => { e with heldRun := 0 } }

/-- The probe branch of an incident is reopened when it is not `b` (R101). -/
def reopenOther (i : Incident) (b : BranchId) (s : State) : State :=
  match i.probeBranch with
  | some p => if i.state = .probing ∧ p ≠ b then reopenProbe i.id p s else s
  | none => s

/-- A confirmed member becomes the target and the incident's course is decided (R101).  DESIGN CHOICE: of an incident
that becomes REPORT_ONLY the probe branch is reopened before the Exercise Controller is told of the change
(notes/assumptions/40.md).  DESIGN CHOICE: when the target is the probe branch, whose valve is closed or closing already,
its cooling notice is not set again, since no close is asked (notes/assumptions/41.md). -/
def decideConfirmed (id : Nat) (b : BranchId) (s : State) : State :=
  match incidentById s id with
  | none => s
  | some i =>
    let aim := fun (j : Incident) => { endProbe j with target := some b }
    if branchHeldOff s b then
      tellExercise (some .reportOnly) (changeIncident id (fun j => { aim j with state := .reportOnly }) (reopenOther i b s))
    else if valveUnfit s b then escalate id .valveFault (changeIncident id aim s)
    else if ¬ (b ∈ i.held ∧ valveClosing s.vs b.valve) ∧ (settings s).isoLimit ≤ closedCount s then
      escalate id .limit (changeIncident id aim s)
    else if i.state = .probing ∧ i.probeBranch = some b then
      if i.probePhase = .settling then
        tellExercise (some .isolated) (changeIncident id (fun j => zeroHeldRuns { aim j with state := .isolated }) s)
      else tellExercise (some .isolating) (changeIncident id (fun j => { aim j with state := .isolating }) s)
    else
      tellExercise (some .isolating)
        (changeIncident id (fun j => { aim j with state := .isolating }) (closeFor id b (reopenOther i b s)))

/-- Tests a branch for confirmation on an event of origin `o` (R100); an unhoused branch that confirms opens an
incident, or has the header policy applied under INCIDENT_OVERFLOW (R98). -/
def testBranch (o : Origin) (b : BranchId) (d l : Nat) (s : State) : State :=
  if confirms s b d l then
    match incidentOf s b with
    | some i => if i.state = .watch ∨ i.state = .probing then decideConfirmed i.id b s else s
    | none =>
      if s.ie.overflow.active then overflowPolicy (some b) s
      else
        match openIncident o .watch (fun i => { i with members := [b] }) s with
        | some (id, s') => decideConfirmed id b (tellExercise (some .watch) s')
        | none => overflowPolicy (some b) (overflowOn s)
  else s

/-! ### Placing (R94 to R97) -/

/-- What a member row entry holds when its row joins before any round-end event has named it (R94).  DESIGN CHOICE:
result absent, runs 0, blind flag and STALE clear (notes/assumptions/28.md). -/
def blankReport : RowReport := ⟨none, 0, 0, false, 0, false⟩

/-- The member row entry of a row that joins. -/
def rowEntryFor (s : State) (k : RowKey) (index : Nat) : RowEntry :=
  ⟨k, index, (assocGet k s.ie.lastEvent).getD blankReport, 0⟩

/-- Adds branches to a member list until it holds 8; the flag says that one was left out (R96). -/
def addMembers (bs : List BranchId) (ms : List BranchId) : List BranchId × Bool :=
  bs.foldl (fun (acc : List BranchId × Bool) b =>
    if b ∈ acc.1 then acc else if acc.1.length < 8 then (acc.1 ++ [b], acc.2) else (acc.1, true)) (ms, false)

/-- Adds rows to a row list until it holds 4; the flag says that one was left out (R96). -/
def addRows (es : List RowEntry) (rs : List RowEntry) : List RowEntry × Bool :=
  es.foldl (fun (acc : List RowEntry × Bool) e =>
    if acc.1.any (fun r => decide (r.key = e.key)) then acc
    else if acc.1.length < 4 then (acc.1 ++ [e], acc.2) else (acc.1, true)) (rs, false)

/-- Branches and rows join an incident (R94); the flag says that some were left out. -/
def joinIncident (id : Nat) (bs : List BranchId) (es : List RowEntry) (s : State) : State × Bool :=
  match incidentById s id with
  | none => (s, false)
  | some i =>
    let (ms, left1) := addMembers bs i.members
    let (rs, left2) := addRows es i.rows
    let s' :=
      if ms = i.members ∧ rs = i.rows then s else changeIncident id (fun j => { j with members := ms, rows := rs }) s
    (s', left1 || left2)

/-- An incident that could not take all that joined it escalates with CAPACITY (R96). -/
def capacityIf (left : Bool) (id : Nat) (s : State) : State := if left then escalate id .capacity s else s

/-- A younger WATCH incident is merged into `dest` and freed (R95). -/
def mergeOne (dest : Nat) (acc : State × Bool) (young : Incident) : State × Bool :=
  let (s, left) := joinIncident dest young.members young.rows acc.1
  (freeIncident young.id false (some dest) s, acc.2 || left)

/-- The remaining candidates of a credit: those not in an incident past WATCH and PROBING (R94). -/
def remainingOf (s : State) (cands : List BranchId) : List BranchId :=
  cands.filter fun b =>
    match incidentOf s b with
    | some i => decide (i.state = .watch ∨ i.state = .probing)
    | none => true

/-- The WATCH and PROBING incidents that hold a remaining candidate or the row (R94). -/
def foundIncidents (s : State) (k : RowKey) (rest : List BranchId) : List Incident :=
  s.ie.incidents.filter fun i =>
    decide (i.state = .watch ∨ i.state = .probing) &&
      (i.members.any (fun b => decide (b ∈ rest)) || i.rows.any (fun e => decide (e.key = k)))

/-- The branches that are members of no incident. -/
def unhousedOf (s : State) (bs : List BranchId) : List BranchId := bs.filter fun b => (incidentOf s b).isNone

/-- Places a credited row and its candidates in incidents (R94 to R96, R98). -/
def placeCredit (k : RowKey) (index : Nat) (cands : List BranchId) (s : State) : State :=
  let rest := remainingOf s cands
  if rest = [] then s
  else
    let e := rowEntryFor s k index
    let found := foundIncidents s k rest
    match found with
    | [] =>
      match openIncident .drip .watch (fun i => { i with members := rest, rows := [e] }) s with
      | some (_, s') => tellExercise (some .watch) s'
      | none => overflowOn s
    | [i] =>
      let (s', left) := joinIncident i.id (unhousedOf s rest) [e] s
      capacityIf left i.id s'
    | first :: _ =>
      match found.filter fun i => decide (i.state = .watch) with
      | [] =>
        let (s', left) := joinIncident first.id (unhousedOf s rest) [e] s
        capacityIf left first.id s'
      | w :: younger =>
        let (s1, left1) := (younger.filter fun y => decide (y.held = [])).foldl (mergeOne w.id) (s, false)
        let (s2, left2) := joinIncident w.id (unhousedOf s1 rest) [e] s1
        capacityIf (left1 || left2) w.id s2

/-- A credit event: placing, then the confirm test of each candidate in the order loaded (R94, R100). -/
def creditEvent (k : RowKey) (index : Nat) (cands : List (BranchId × Nat)) (s : State) : State :=
  cands.foldl (fun s c => testBranch .drip c.1 c.2 (lossOf s c.1) s) (placeCredit k index (cands.map (·.1)) s)

/-- A pair-completion event (R97, R99, R100).  DESIGN CHOICE: INCIDENT_OVERFLOW is judged last, after the placing and
the confirm test (notes/assumptions/37.md). -/
def pairEvent (b : BranchId) (l : Nat) (s : State) : State :=
  let atWatch :=
    match recOf s.ts.active b with
    | some r => decide (watchLevel r ≤ l)
    | none => false
  let s1 :=
    if atWatch && (incidentOf s b).isNone then
      match openIncident .flow .watch (fun i => { i with members := [b] }) s with
      | some (_, s') => tellExercise (some .watch) s'
      | none => overflowOn s
    else s
  judgeOverflow (testBranch .flow b (scoreOf s1 b) l s1)

/-! ### Probing (R102 to R106) -/

/-- The candidates a probe step may choose from (R103). -/
def probeChoices (s : State) (i : Incident) (r : RowRec) : List (Nat × BranchId) :=
  (r.cands.filterMap fun c => (identAt s.ts.active c.branch).map fun b => (c.branch, b)).filter fun p =>
    decide (p.2 ∈ i.members) && decide (p.2 ∉ i.probed) && !(inHoldOff (settings s) p.1) && !(valveUnfit s p.2)

/-- D descending, then L descending, then branch index ascending (R103). -/
def probeBefore (s : State) (x y : Nat × BranchId) : Bool :=
  let dx := scoreOf s x.2
  let dy := scoreOf s y.2
  let lx := lossOf s x.2
  let ly := lossOf s y.2
  decide (dy < dx ∨ (dx = dy ∧ (ly < lx ∨ (lx = ly ∧ x.1 < y.1))))

/-- A probe step (R103); `failed` is the probe branch it replaces, reopened only when a next probe closes (R104). -/
def probeStep (id : Nat) (failed : Option BranchId) (s : State) : State :=
  match incidentById s id with
  | none => s
  | some i =>
    let choices :=
      match i.probeRow with
      | some k =>
        match rowByKey s.ti.position s.ts.active k with
        | some (_, r) => probeChoices s i r
        | none => []
      | none => []
    match bestBy (probeBefore s) choices with
    | none => escalate id .probeExhausted s
    | some (_, b) =>
      if (settings s).isoLimit ≤ closedCount s then escalate id .limit s
      else
        let s1 :=
          match failed with
          | some f => reopenProbe id f s
          | none => s
        changeIncident id
          (fun j => { j with probed := j.probed ++ [b], probeBranch := some b, probePhase := .closing, probeQuiet := 0 })
          (closeFor id b s1)

/-- The first member row whose active run has reached its persist_rounds (R102). -/
def persistentRow (s : State) (i : Incident) : Option RowKey :=
  (i.rows.find? fun e =>
    match rowByKey s.ti.position s.ts.active e.key with
    | some (_, r) => decide (r.persist ≤ e.report.activeRun)
    | none => false).map (·.key)

/-- A WATCH incident turns to PROBING and takes the first probe step (R102). -/
def turnToProbing (id : Nat) (k : RowKey) (s : State) : State :=
  probeStep id none
    (tellExercise (some .probing)
      (changeIncident id (fun i => { i with state := .probing, probeRow := some k, probed := [] }) s))

/-- The probe succeeds (R106). -/
def probeSucceeds (i : Incident) (s : State) : State :=
  let s1 :=
    changeIncident i.id
      (fun j => zeroHeldRuns { endProbe j with state := .isolated, target := i.probeBranch }) s
  let s2 := (i.members.filter fun b => decide (some b ≠ i.probeBranch)).foldl (fun s b => zeroScore b s) s1
  tellExercise (some .isolated) s2

/-- A round-end event of round `r` counts toward the settle count: it is for a round after the closing round
(R105). -/
def countsToward (i : Incident) (r : Half) : Bool :=
  decide (0 < i.settle) ||
    match i.closing with
    | some c => decide (r ≠ c ∧ r ≠ c - 1)
    | none => true

/-- The probe window of a PROBING incident at the round-end event of round `r` (R105). -/
def probeWindow (r : Half) (i : Incident) (s : State) : State :=
  if i.probePhase = .settling ∧ countsToward i r then
    let settle := heldAt 255 (i.settle + 1)
    let s1 := modIncident i.id (fun j => { j with settle := settle }) s
    match i.probeRow with
    | none => s1
    | some k =>
      match rowByKey s.ti.position s.ts.active k, i.rows.find? fun e => decide (e.key = k) with
      | some (_, row), some e =>
        if settle ≤ row.fall then s1
        else
          match e.report.result with
          | some .quiet =>
            let q := heldAt 15 (i.probeQuiet + 1)
            let s2 := modIncident i.id (fun j => { j with probeQuiet := q }) s1
            if row.quiet ≤ q then probeSucceeds i s2 else s2
          | some .active => probeStep i.id i.probeBranch s1
          | _ => s1
      | _, _ => s1
  else s

/-! ### Isolation and self-clearing (R108, R117) -/

/-- The held run of a member row after a counted round-end event (R108). -/
def heldRunAfter (s : State) (settle : Nat) (e : RowEntry) : RowEntry :=
  match rowByKey s.ti.position s.ts.active e.key with
  | some (_, row) =>
    if row.fall < settle then
      match e.report.result with
      | some .active => { e with heldRun := heldAt 255 (e.heldRun + 1) }
      | some .quiet => { e with heldRun := 0 }
      | _ => e
    else e
  | none => e

/-- A member row's held run has reached its persist_rounds (R108). -/
def stillDripping (s : State) (e : RowEntry) : Bool :=
  match rowByKey s.ti.position s.ts.active e.key with
  | some (_, row) => decide (row.persist ≤ e.heldRun)
  | none => false

/-- The persistence watch of an ISOLATED incident at the round-end event of round `r` (R108). -/
def isolationWatch (r : Half) (i : Incident) (s : State) : State :=
  if countsToward i r then
    let settle := heldAt 255 (i.settle + 1)
    let rows := i.rows.map (heldRunAfter s settle)
    let s1 := modIncident i.id (fun j => { j with settle := settle, rows := rows }) s
    if rows.any (stillDripping s) then escalate i.id .stillDripping s1 else s1
  else s

/-- A WATCH incident of origin DRIP or FLOW has nothing left that speaks for a leak (R117). -/
def mayClear (s : State) (i : Incident) : Bool :=
  decide (i.origin = .drip ∨ i.origin = .flow) && decide (i.held = []) &&
    i.members.all (fun b =>
      decide (scoreOf s b = 0) &&
        match recOf s.ts.active b with
        | some r => decide (lossOf s b < watchLevel r)
        | none => true) &&
    i.rows.all fun e =>
      decide ((settings s).clearRounds ≤ e.report.quietRun) && !e.report.blind && !e.report.stale

/-- The work of a WATCH incident: the turn to probing, then self-clearing (R102, R117). -/
def watchWork (i : Incident) (s : State) : State :=
  match persistentRow s i with
  | some k => turnToProbing i.id k s
  | none => if mayClear s i then freeIncident i.id false none s else s

/-- The work an incident's state calls for at a round-end event (R93). -/
def roundEndWork (r : Half) (s : State) (id : Nat) : State :=
  match incidentById s id with
  | none => s
  | some i =>
    match i.state with
    | .watch => watchWork i s
    | .probing => probeWindow r i s
    | .isolated => isolationWatch r i s
    | _ => s

/-- Copies what the event gives for a row into a member row entry (R93). -/
def copyReport (reports : List (RowKey × RowReport)) (e : RowEntry) : RowEntry :=
  match assocGet e.key reports with
  | some p => { e with report := p }
  | none => e

/-- A round-end event of round `r` (R93). -/
def roundEndEvent (r : Half) (reports : List (RowKey × RowReport)) (s : State) : State :=
  let copied := s.ie.incidents.map fun (i : Incident) => { i with rows := i.rows.map (copyReport reports) }
  let s1 : State := { s with ie := { s.ie with lastEvent := reports, incidents := copied } }
  judgeOverflow ((s1.ie.incidents.map (·.id)).foldl (roundEndWork r) s1)

/-! ### Floods and the header integral (R111, R112) -/

/-- Opens an incident of origin `o` in ESCALATED and applies the header policy; with no free slot the policy is
applied under INCIDENT_OVERFLOW (R98, R111, R112). -/
def openEscalated (o : Origin) (why : Reason) (s : State) : State :=
  match openIncident o .escalated (fun i => { i with reason := some why }) s with
  | some (id, s') => tellExercise (some .escalated) (headerPolicy id s')
  | none => overflowPolicy none (overflowOn s)

/-- A flood event (R111). -/
def floodEvent (s : State) : State :=
  if s.ie.incidents.any fun i => decide (i.origin = .flood) then s else openEscalated .flood .flood s

/-- A header-pair event (R112). -/
def headerPairEvent (l : Nat) (s : State) : State :=
  let trip := (settings s).hdrTrip
  match s.ie.incidents.find? fun i => decide (i.origin = .header) with
  | none =>
    if trip ≤ l then openEscalated .header .headerLeak s
    else if trip / 8 ≤ l then
      match openIncident .header .watch id s with
      | some (_, s') => tellExercise (some .watch) s'
      | none => overflowPolicy none (overflowOn s)
    else s
  | some i =>
    if i.state = .watch then
      if trip ≤ l then escalate i.id .headerLeak s
      else if trip / 8 ≤ l then s
      else freeIncident i.id false none s
    else s

/-! ### What the Valve Supervisor reports (R104, R105, R107, R108, R116, R119) -/

/-- The branch of an incident's held valves whose valve is `k`. -/
def heldBranch (i : Incident) (k : NodeKey) : Option BranchId := i.held.find? fun b => decide (b.valve = k)

/-- A held valve has reached CLOSED (R105, R107). -/
def reachedClosed (i : Incident) (b : BranchId) (s : State) : State :=
  if i.state = .isolating ∧ i.target = some b then
    tellExercise (some .isolated)
      (changeIncident i.id (fun j => zeroHeldRuns { j with state := .isolated, closing := some s.rt.number, settle := 0 }) s)
  else if i.state = .probing ∧ i.probeBranch = some b ∧ i.probePhase = .closing then
    modIncident i.id (fun j => { j with closing := some s.rt.number, settle := 0, probePhase := .settling }) s
  else s

/-- A held valve has reached OPEN: it leaves the held valves, its notice becomes RESTORED, and a RELEASING incident
that holds no more is freed (R104, R109, R113, R116). -/
def reachedOpen (i : Incident) (b : BranchId) (s : State) : State :=
  let s1 := setNotice b .restored
    (changeIncident i.id
      (fun j => { j with
        held := j.held.filter fun x => decide (x ≠ b)
        reopening := if j.reopening = some b then none else j.reopening }) s)
  let s2 := { s1 with vs := returnValve b.valve s1.vs }
  if i.state = .releasing ∧ i.held.filter (fun x => decide (x ≠ b)) = [] then freeIncident i.id true none s2 else s2

/-- The Valve Supervisor reports that an incident's valve reached its target (R138). -/
def valveReached (id : Nat) (k : NodeKey) (t : ValveTarget) (s : State) : State :=
  match incidentById s id with
  | none => s
  | some i =>
    match heldBranch i k with
    | none => s
    | some b =>
      match t with
      | .toClose => reachedClosed i b s
      | .toOpen => reachedOpen i b s
      | .partialTest => s

/-- The Valve Supervisor reports a fault set, changed or cleared on an incident's valve (R105, R107, R108, R122). -/
def valveFaultEvent (id : Nat) (k : NodeKey) (f : ValveFault) (s : State) : State :=
  match incidentById s id with
  | none => s
  | some i =>
    match heldBranch i k with
    | none => s
    | some b =>
      let closing :=
        decide (i.state = .isolating ∧ i.target = some b) ||
          decide (i.state = .probing ∧ i.probeBranch = some b ∧ i.probePhase = .closing)
      if f ≠ .none ∧ closing then escalate id .valveFault s else changeIncident id (fun j => j) s

/-- A branch valve found CLOSED with no owner and no target: adopted when its branch is in no incident (R119). -/
def foundClosed (b : BranchId) (s : State) : State :=
  if (incidentOf s b).isSome then s
  else
    match openIncident .recovered .isolated
      (fun i => { i with members := [b], target := some b, held := [b], closing := some s.rt.number }) s with
    | some (id, s') =>
      tellExercise (some .isolated)
        (setNotice b .lost { s' with vs := setValve b.valve (fun r => { r with owner := .incident id }) s'.vs })
    | none => overflowOn s

/-! ### The bank switch (R92) -/

/-- A PROBING incident whose probe row is gone: the probing is abandoned (R92). -/
def abandonProbing (i : Incident) (s : State) : State :=
  let s1 :=
    match i.probeBranch with
    | some p => reopenProbe i.id p s
    | none => s
  tellExercise (some .watch) (changeIncident i.id (fun j => { endProbe j with state := .watch, probed := [] }) s1)

/-- The member rows of an incident under the new Drip Map: rows without a key are removed, indexes updated. -/
def keptRows (s : State) (rows : List RowEntry) : List RowEntry :=
  rows.filterMap fun e =>
    (rowByKey s.ti.position s.ts.active e.key).map fun p => { e with index := p.1 }

/-- Adjusts one incident to the bank now in force (R92). -/
def adjustIncident (s : State) (id : Nat) : State :=
  match incidentById s id with
  | none => s
  | some i =>
    let rows := keptRows s i.rows
    let s1 := modIncident id (fun j => { j with rows := rows }) s
    let s2 := if rows.length < i.rows.length then changeIncident id (fun j => j) s1 else s1
    let gone : Bool :=
      match i.probeRow with
      | some k => decide (i.state = .probing) && !(rows.any fun e => decide (e.key = k))
      | none => false
    if gone then abandonProbing i s2 else s2

/-- Adjusts the incidents to the bank now in force (R92). -/
def adjustIncidents (s : State) : State := (s.ie.incidents.map (·.id)).foldl adjustIncident s

/-! ### ISOLATE and RELEASE (R114, R115) -/

/-- ISOLATE of branch `n`: the result, and the incident id the reply names (R114). -/
def isolateBranch (n : Nat) (s : State) : State × Result × List Byte :=
  match identAt s.ts.active n with
  | none => (s, .badArgument, [])
  | some b =>
    let inc := incidentOf s b
    if inc.any (fun i => decide (i.state ≠ .reportOnly)) then (s, .wrongState, [])
    else if valveFaulted s.vs b.valve then (s, .valveFault, [])
    else if (settings s).isoLimit ≤ closedCount s then (s, .limit, [])
    else
      match inc with
      | some i =>
        (tellExercise (some .isolating)
          (changeIncident i.id (fun j => { j with target := some b, state := .isolating }) (closeFor i.id b s)),
          .ok, [byte i.id])
      | none =>
        match openIncident .manual .isolating (fun i => { i with members := [b], target := some b }) s with
        | some (id, s') => (tellExercise (some .isolating) (closeFor id b s'), .ok, [byte id])
        | none => (s, .busy, [])

/-- Each of an incident's held valves that `p` picks is asked to reopen (R115).  DESIGN CHOICE: they are asked in the order
in which they were taken, and so enter their Action Queues in it (notes/assumptions/42.md). -/
def reopenHeld (p : BranchId → Bool) (i : Incident) (s : State) : State :=
  (i.held.filter p).foldl (fun s b => requestValve i.id b .toOpen s) s

/-- An incident enters RELEASING: each held valve is asked to reopen; with none held it is freed; a PROBING incident
ends its probe (R115, R116).  DESIGN CHOICE: the reopens are asked before the Exercise Controller is told of the change,
so a next test that it takes on the resume event of R152 is queued after them (notes/assumptions/40.md).  DESIGN CHOICE:
the probe branch that a PROBING incident so reopens does not become its reopening branch, which stays as it stands
(notes/assumptions/43.md). -/
def enterReleasing (i : Incident) (s : State) : State :=
  let s1 := changeIncident i.id (fun j => { (if i.state = .probing then endProbe j else j) with state := .releasing }) s
  if i.held = [] then freeIncident i.id true none s1
  else tellExercise (some .releasing) (reopenHeld (fun _ => true) i s1)

/-- RELEASE of an incident (R115). -/
def releaseIncident (id : Nat) (s : State) : State × Result :=
  match incidentById s id with
  | none => (s, .badArgument)
  | some i =>
    match i.state with
    | .isolating => (s, .busy)
    | .releasing =>
      if i.held.any (fun b => valveFaulted s.vs b.valve) then
        (reopenHeld (fun b => valveFaulted s.vs b.valve) i s, .ok)
      else (s, .busy)
    | .watch => if i.held = [] then (freeIncident id true none s, .ok) else (enterReleasing i s, .ok)
    | .reportOnly => if i.held = [] then (freeIncident id true none s, .ok) else (enterReleasing i s, .ok)
    | _ => (enterReleasing i s, .ok)

/-! ### ALARM (R123) -/

/-- ALARM is asserted while an open incident is in a state other than WATCH, or while FLOOD is active. -/
def alarmDue (s : State) : Bool :=
  s.ie.incidents.any (fun i => decide (i.state ≠ .watch)) || s.nd.flood.active

end Sys2Proof.Machine
end

