-- ==== Sys2Proof/Machine/Drip.lean ====
section
/-! DEFINITION. Drip Evidence (chapter 4). -/

namespace Sys2Proof.Machine

open Sys2Proof

/-! ### Marks and records -/

/-- Adds a round to a mark that does not hold it (section 4.2). -/
def addMark (r : Half) (m : List Half) : List Half := if r ∈ m then m else m ++ [r]

/-- Removes a judged round from a mark (R80). -/
def dropMark (r : Half) (m : List Half) : List Half := m.filter fun x => decide (x ≠ r)

/-- A branch drip record that begins (Table 4-2). -/
def freshDrip : BranchDrip := ⟨0, [], false⟩

/-- A row record that begins (Table 4-3), with its blind flag. -/
def freshRow (blind : Bool) : RowRun :=
  { activeRun := 0, quietRun := 0, credited := [], evidence := [], result := none, blind := blind, staleRun := 0,
    stale := false, tail := .out }

/-- The presence of the node at index `i` of a bank is not PRESENT, so that a local row it serves is blind (R69,
R70, R73). -/
def sensorBlind (b : Bank) (nodes : List (NodeKey × NodeRun)) (i : Nat) : Bool :=
  match keyAt b i with
  | some k =>
    match assocGet k nodes with
    | some n => decide (n.presence ≠ .present)
    | none => true
  | none => true

/-- Changes the record of a row. -/
def setRow (k : RowKey) (f : RowRun → RowRun) (s : State) : State :=
  { s with de := { s.de with rows := assocMap k f s.de.rows } }

/-! ### Credit (R74, R75) -/

/-- The candidates of a row with their identities, in the order loaded. -/
def rowCandidates (b : Bank) (r : RowRec) : List (BranchId × Nat) :=
  r.cands.filterMap fun c => (identAt b c.branch).map fun x => (x, c.weight)

/-- One candidate gains its weight and is marked credited (R74). -/
def creditBranch (round : Half) (p : BranchId × Nat) (s : State) : State :=
  let gain := fun (d : BranchDrip) => { d with score := heldAt 255 (d.score + p.2), credited := addMark round d.credited }
  { s with de := { s.de with branches := assocMap p.1 gain s.de.branches } }

/-- A row is credited for the current round, once, and its credit event is raised (R74, R75). -/
def creditRow (k : RowKey) (s : State) : State :=
  match rowByKey s.ti.position s.ts.active k, assocGet k s.de.rows with
  | some (index, rec), some run =>
    let round := s.rt.number
    if round ∈ run.credited then s
    else
      let cs := rowCandidates s.ts.active rec
      let s1 := cs.foldl (fun s p => creditBranch round p s) s
      let s2 := setRow k (fun r => { r with credited := addMark round r.credited }) s1
      creditEvent k index (cs.map fun p => (p.1, scoreOf s2 p.1)) s2
  | _, _ => s

/-! ### Local samples (R72, R73) -/

/-- The unmapped mark with the node index `i` active in round `r` (R72). -/
def markUnmapped (r : Half) (i : Nat) (m : List (Half × Nat)) : List (Half × Nat) :=
  if m.any (fun p => decide (p.1 = r)) then assocMap r (fun j => min i j) m else m ++ [(r, i)]

/-- A local sample of the node at index `i`: `none` is unusable, else whether it is active (R72). -/
def localSample (i : Nat) (active : Option Bool) (s : State) : State :=
  let k : RowKey := ⟨0, i⟩
  let mark := setRow k (fun r => { r with evidence := addMark s.rt.number r.evidence })
  match active with
  | none => s
  | some act =>
    match rowByKey s.ti.position s.ts.active k with
    | some _ => if act then creditRow k (mark s) else mark s
    | none => if act then { s with de := { s.de with unmapped := markUnmapped s.rt.number i s.de.unmapped } } else s

/-- A DRIP node's presence has changed: the blind flag of the local row it serves follows (R73). -/
def rowPresence (i : Nat) (p : Presence) (s : State) : State :=
  setRow ⟨0, i⟩ (fun r => { r with blind := decide (p ≠ .present) }) s

/-! ### DROP REPORTs (R77, R78) -/

/-- The onset of a DROP REPORT: a flag code the spec does not define leaves it open (notes/assumptions/8.md). -/
def onsetOf (free : Nat) (b : Byte) : Bool :=
  match flagOf b with
  | some f => f
  | none => Config.freeFlag free

/-- A DROP REPORT consumed from the unit `src` (R77, R78). -/
def dropReport (src : Byte) (payload : List Byte) (s : State) : State :=
  match payload with
  | [node, drops, onset, _, _] =>
    let u := src.toNat
    let k : RowKey := ⟨u, node.toNat⟩
    if s.ts.activeFlag ∧ 1 ≤ u ∧ u ≤ 4 ∧ s.ti.position ≠ some u ∧ node.toNat ≤ 119 ∧
        (rowByKey s.ti.position s.ts.active k).isSome then
      let s0 := if (flagOf onset).isNone then useFree s else s
      let s1 := setRow k
        (fun r => { r with evidence := addMark s.rt.number r.evidence, staleRun := 0, stale := false }) s0
      if 1 ≤ drops.toNat ∨ onsetOf s.free onset then
        creditRow k (setRow k (fun r => { r with tail := .inside 0 }) s1)
      else s1
    else s
  | _ => s

/-! ### Judging the ended round (R80 to R86) -/

/-- The tail count rises; at 15 the tail ends (R79). -/
def tailUp : Tail → Tail
  | .out => .out
  | .inside n => if 15 ≤ n + 1 then .out else .inside (n + 1)

/-- A local row's classification of round `r` (R81). -/
def judgeLocal (r : Half) (x : RowRun) : RowRun :=
  if r ∈ x.credited then { x with result := some .active, activeRun := heldAt 255 (x.activeRun + 1), quietRun := 0 }
  else if r ∈ x.evidence then { x with result := some .quiet, activeRun := 0, quietRun := heldAt 255 (x.quietRun + 1) }
  else if x.blind then { x with result := some .blind }
  else { x with result := some .silent }

/-- A remote row's classification of round `r`, its tail and its STALE mark (R79, R82, R83). -/
def judgeRemote (r : Half) (x : RowRun) : RowRun :=
  if r ∈ x.credited then
    { x with result := some .active, activeRun := heldAt 255 (x.activeRun + 1), quietRun := 0, staleRun := 0, tail := .inside 0 }
  else if r ∈ x.evidence then
    { x with result := some .quiet, activeRun := 0, quietRun := heldAt 255 (x.quietRun + 1), staleRun := 0, tail := tailUp x.tail }
  else if x.tail ≠ .out then
    let run := heldAt 255 (x.staleRun + 1)
    { x with result := some .stale, staleRun := run, stale := x.stale || decide (3 ≤ run), tail := tailUp x.tail }
  else if x.stale then { x with result := some .stale }
  else { x with result := some .quiet, activeRun := 0, quietRun := heldAt 255 (x.quietRun + 1), staleRun := 0 }

/-- A row's judgement (R81, R82). -/
def judgeRow (r : Half) (p : RowKey × RowRun) : RowKey × RowRun :=
  (p.1, if p.1.unit = 0 then judgeLocal r p.2 else judgeRemote r p.2)

/-- A branch's fade and its credited-last-round flag (R84). -/
def fadeBranch (fade : Nat) (r : Half) (d : BranchDrip) : BranchDrip :=
  if r ∈ d.credited then { d with creditedLast := true } else { d with score := d.score - fade, creditedLast := false }

/-- UNMAPPED_DRIP after round `r` (R86). -/
def judgeUnmapped (r : Half) (m : List (Half × Nat)) (c : Condition) : Condition := follow c (assocGet r m)

/-- What the round-end event gives for a row (R85). -/
def reportOf (x : RowRun) : RowReport := ⟨x.result, x.activeRun, x.quietRun, x.blind, x.staleRun, x.stale⟩

/-- Steps 1 to 3 of the judgement of round `r`: rows, fade, UNMAPPED_DRIP (R80). -/
def judgeEvidence (fade : Nat) (r : Half) (d : DripBlock) : DripBlock :=
  { d with
    rows := d.rows.map (judgeRow r)
    branches := assocAll (fadeBranch fade r) d.branches
    unmappedDrip := judgeUnmapped r d.unmapped d.unmappedDrip }

/-- Step 5 of the judgement: the judged round leaves every mark (R80). -/
def dropRound (r : Half) (d : DripBlock) : DripBlock :=
  { d with
    rows := assocAll (fun x => { x with credited := dropMark r x.credited, evidence := dropMark r x.evidence }) d.rows
    branches := assocAll (fun x => { x with credited := dropMark r x.credited }) d.branches
    unmapped := d.unmapped.filter fun p => decide (p.1 ≠ r) }

/-- The round-end event's reports, in row index order of the ended round's bank (R85). -/
def roundReports (s : State) : List (RowKey × RowReport) :=
  (rowList s.ti.position s.ts.active).filterMap fun p => (assocGet p.2 s.de.rows).map fun x => (p.2, reportOf x)

/-- Drip Evidence's work at a round start after the first, for the ended round `r` (R80). -/
def dripRoundStart (r : Half) (s : State) : State :=
  let s1 := { s with de := judgeEvidence (settings s).fade r s.de }
  let s2 := roundEndEvent r (roundReports s1) s1
  { s2 with de := dropRound r s2.de }

/-! ### The bank switch (R69, R70) -/

/-- The branch drip records at a bank switch: kept by identity, else begun. -/
def carryDrips (incoming : Bank) (old : List (BranchId × BranchDrip)) : List (BranchId × BranchDrip) :=
  (branchList incoming).map fun p => (p.2, (assocGet p.2 old).getD freshDrip)

/-- The row records at a bank switch: kept by resolved key, else begun; the blind flag of a local row is set from
the presence of the node now at its index. -/
def carryRows (pos : Option Nat) (incoming : Bank) (nodes : List (NodeKey × NodeRun)) (old : List (RowKey × RowRun)) :
    List (RowKey × RowRun) :=
  (rowList pos incoming).map fun p =>
    let blind := decide (p.2.unit = 0) && sensorBlind incoming nodes p.2.node
    (p.2, { (assocGet p.2 old).getD (freshRow blind) with blind := blind })

end Sys2Proof.Machine
end

