-- ==== Sys2Proof/Machine/Flow.lean ====
section
/-! DEFINITION. Flow Accounting (chapter 3). -/

namespace Sys2Proof.Machine

open Sys2Proof

/-! ### The loss integral (R52 to R54) -/

/-- The imbalance of a pair (R52). -/
def imbalance (supply ret : Nat) (offset : Int) : Int := (supply : Int) - (ret : Int) - offset

/-- The excess of an imbalance beyond its deadband (R52). -/
def excessOf (d : Int) (deadband : Nat) : Nat := if (deadband : Int) < d then (d - (deadband : Int)).toNat else 0

/-- The loss accumulator and remainder after a pair (R53, R54). -/
def integrate (excess elapsed forgive loss rem : Nat) : Nat × Nat :=
  if 0 < excess then
    let num := excess * elapsed + rem
    let loss' := heldAt 65535 (loss + num / 60000)
    if loss' = 65535 then (65535, 0) else (loss', num % 60000)
  else (loss - forgive, 0)

/-! ### Branches (R46 to R56) -/

/-- A branch flow record that begins (Table 3-2). -/
def freshFlow : BranchFlow :=
  { supply := .notTaken, ret := .notTaken, paired := false, pairedLast := false, endedSupply := 65535, endedReturn := 65535,
    loss := 0, rem := 0, skewRun := 0, skew := false, unmetered := false }

/-- A side's value as the ended round carries it: 65 535 when no reading was taken (R49). -/
def endedValue : SideValue → Nat
  | .reading n => n
  | _ => 65535

/-- Closes the ended round for one branch (R49). -/
def closeBranch (r : BranchFlow) : BranchFlow :=
  { r with
    endedSupply := endedValue r.supply
    endedReturn := endedValue r.ret
    unmetered := !r.paired
    pairedLast := r.paired
    paired := false
    supply := .notTaken
    ret := .notTaken }

/-- Closes the ended round for every branch and stores its elapsed time (R49). -/
def closeFlowRound (elapsed : Nat) (s : State) : State :=
  { s with fa := { s.fa with branches := assocAll closeBranch s.fa.branches, prevInterval := some elapsed } }

/-- The round period in force. -/
def periodInForce (s : State) : Nat := s.rt.period.getD (settings s).period

/-- The elapsed time of a pair (R51). -/
def pairElapsed (s : State) (r : BranchFlow) : Nat :=
  match r.pairedLast, s.fa.prevInterval with
  | true, some i => min 10000 i
  | _, _ => periodInForce s

/-- The branch and side that a FLOW node serves in the bank in force: `true` is the supply (R46). -/
def flowSide (b : Bank) (i : Nat) : Option (Nat × BranchRec × Bool) :=
  match b.branches.find? fun p => decide (p.2.supply = i ∨ p.2.ret = i) with
  | some (n, r) => some (n, r, decide (r.supply = i))
  | none => none

/-- The branch flow record after a pair completes with these readings (R52 to R55). -/
def pairRecord (r : BranchRec) (elapsed supply ret : Nat) (f : BranchFlow) : BranchFlow :=
  let d := imbalance supply ret r.offset
  let p := integrate (excessOf d r.deadband) elapsed r.forgive f.loss f.rem
  let run := if d < -(r.deadband : Int) then heldAt 255 (f.skewRun + 1) else 0
  { f with paired := true, loss := p.1, rem := p.2, skewRun := run, skew := decide (3 ≤ run) }

/-- Stores a side's value (R50). -/
def storeSide (onSupply : Bool) (v : SideValue) (f : BranchFlow) : BranchFlow :=
  if onSupply then { f with supply := v } else { f with ret := v }

/-- The value of a side. -/
def sideTaken (onSupply : Bool) (f : BranchFlow) : Bool :=
  decide ((if onSupply then f.supply else f.ret) ≠ .notTaken)

/-- A FLOW sample of the node at index `i`: stamp check, first value stands, pair test (R50); a completed pair
raises its event (R56). -/
def flowSample (i : Nat) (stamp : Half) (v : SideValue) (s : State) : State :=
  if stamp ≠ s.rt.number then s
  else
    match flowSide s.ts.active i with
    | none => s
    | some (_, r, onSupply) =>
      match branchIdent s.ts.active r with
      | none => s
      | some b =>
        match assocGet b s.fa.branches with
        | none => s
        | some f =>
          if sideTaken onSupply f ∨ f.paired then s
          else
            let f1 := storeSide onSupply v f
            match f1.supply, f1.ret with
            | .reading x, .reading y =>
              let f2 := pairRecord r (pairElapsed s f1) x y f1
              pairEvent b f2.loss { s with fa := { s.fa with branches := assocMap b (fun _ => f2) s.fa.branches } }
            | _, _ => { s with fa := { s.fa with branches := assocMap b (fun _ => f1) s.fa.branches } }

/-- The branch flow records at a bank switch: kept by identity, else begun (R47, R48). -/
def carryFlows (incoming : Bank) (old : List (BranchId × BranchFlow)) : List (BranchId × BranchFlow) :=
  (branchList incoming).map fun p => (p.2, (assocGet p.2 old).getD freshFlow)

/-! ### Header meters (R58 to R61) -/

/-- A quadrature change in the forward sequence (R58). -/
def forwardStep (a b a' b' : Bool) : Bool :=
  match a, b, a', b' with
  | false, false, true, false => true
  | true, false, true, true => true
  | true, true, false, true => true
  | false, true, false, false => true
  | _, _, _, _ => false

/-- A meter's signals change (R58). -/
def meterStep (a' b' : Bool) (m : MeterState) : MeterState :=
  if m.a = a' ∧ m.b = b' then m
  else if m.a ≠ a' ∧ m.b ≠ b' then { m with a := a', b := b', countError := true }
  else if forwardStep m.a m.b a' b' then { m with a := a', b := b', count := m.count + 1 }
  else { m with a := a', b := b', count := m.count - 1 }

/-- The meter's movement since its snapshot, read as a signed number modulo 65 536 (R59). -/
def meterDelta (m : MeterState) : Int :=
  match m.snapshot with
  | some c => (m.count - c).toInt
  | none => 0

/-- The header flow of a meter (R60). -/
def headerFlow (delta : Int) (k elapsed : Nat) : Nat := heldAt 65534 (delta.natAbs * k * 60 / min 10000 elapsed)

/-- The ended round was reverse for a meter: its delta is below −4 and no count was lost (R61). -/
def reverseRound (m : MeterState) : Bool := decide (meterDelta m < -4) && !m.countError

/-- A meter's judgement at a round start after the first (R59 to R61). -/
def judgeMeter (k elapsed : Nat) (m : MeterState) : MeterState :=
  { m with
    flow := if m.countError then none else some (headerFlow (meterDelta m) k elapsed)
    reverseRun := if reverseRound m then heldAt 15 (m.reverseRun + 1) else if m.countError then m.reverseRun else 0
    snapshot := some m.count
    countError := false }

/-- At the first round start a meter's counter is stored and its mark cleared (R59). -/
def firstMeter (m : MeterState) : MeterState := { m with snapshot := some m.count, countError := false }

/-- Both meters at the first round start (R59). -/
def firstMeters (s : State) : State :=
  { s with fa := { s.fa with supplyMeter := firstMeter s.fa.supplyMeter, returnMeter := firstMeter s.fa.returnMeter } }

/-- The clean run after the ended round (R61). -/
def cleanRunAfter (sm rm : MeterState) (run : Nat) : Nat :=
  if reverseRound sm || reverseRound rm then 0
  else if sm.countError || rm.countError then run
  else heldAt 15 (run + 1)

/-- HEADER_BACKFLOW after the ended round (R61). -/
def backflowAfter (n supplyRun returnRun clean : Nat) (c : Condition) : Condition :=
  if c.active then (if n ≤ clean then settleClear c else c)
  else if n ≤ supplyRun then raise 0
  else if n ≤ returnRun then raise 1
  else c

/-- Both meters and HEADER_BACKFLOW are judged for the ended round (R59 to R61). -/
def judgeMeters (elapsed : Nat) (s : State) : State :=
  let c := settings s
  let sm := judgeMeter c.kSupply elapsed s.fa.supplyMeter
  let rm := judgeMeter c.kReturn elapsed s.fa.returnMeter
  let clean := cleanRunAfter s.fa.supplyMeter s.fa.returnMeter s.fa.cleanRun
  { s with fa := { s.fa with
      supplyMeter := sm, returnMeter := rm, cleanRun := clean,
      backflow := backflowAfter c.backflowRounds sm.reverseRun rm.reverseRun clean s.fa.backflow } }

/-! ### Header integral and meter skew (R62 to R64) -/

/-- The header pair of the ended round, and its event (R62, R63). -/
def headerPair (elapsed : Nat) (s : State) : State :=
  match s.fa.supplyMeter.flow, s.fa.returnMeter.flow with
  | some x, some y =>
    let c := settings s
    let p := integrate (excessOf (imbalance x y c.hdrOffset) c.hdrDeadband) (min 10000 elapsed) c.hdrForgive s.fa.hdrLoss s.fa.hdrRem
    headerPairEvent p.1 { s with fa := { s.fa with hdrLoss := p.1, hdrRem := p.2, hdrUnmetered := false } }
  | _, _ => { s with fa := { s.fa with hdrUnmetered := true } }

/-- The sum of the branches' ended-round supply readings, when the ended round qualifies for the skew check (R64). -/
def skewSum (s : State) : Option Nat :=
  let rs := s.fa.branches.map fun p => p.2.endedSupply
  if rs = [] ∨ 65535 ∈ rs then none else some rs.sum

/-- The skew check of the ended round (R64). -/
def judgeSkew (s : State) : State :=
  match skewSum s, s.fa.supplyMeter.flow with
  | some total, some hs =>
    let diff := ((total : Int) - (hs : Int)).natAbs
    let count := if (settings s).skewLimit < diff then heldAt 3 (s.fa.skewCount + 1) else 0
    let c : Condition := { s.fa.meterSkew with detail := heldAt 65535 diff }
    let c' : Condition :=
      if count = 3 ∧ ¬ c.active then { c with active := true, pending := true }
      else if count = 0 ∧ c.active then settleClear c
      else c
    { s with fa := { s.fa with skewCount := count, meterSkew := c' } }
  | _, _ => s

/-- Flow Accounting's work at a round start after the first (R49, R59 to R64). -/
def flowRoundStart (elapsed : Nat) (s : State) : State :=
  judgeSkew (headerPair elapsed (judgeMeters elapsed (closeFlowRound elapsed s)))

end Sys2Proof.Machine
end

