-- ==== Sys2Proof/Machine/ValveEvents.lean ====
section
/-! DEFINITION. What reaches the Valve Supervisor and what it reports to the owners of valves (R127, R132 to R138). -/

namespace Sys2Proof.Machine

open Sys2Proof

/-- Reports a fault set, changed or cleared to the owner in force (R138). -/
def reportFault (k : NodeKey) (o : Owner) (f : ValveFault) (s : State) : State :=
  match o with
  | .none => s
  | .incident id => valveFaultEvent id k f s
  | .exercise => exerciseFaulted k f s

/-- Reports a completion to the owner in force (R138). -/
def reportCompletion (k : NodeKey) (o : Owner) (t : ValveTarget) (stroke : Nat) (s : State) : State :=
  match o with
  | .none => s
  | .incident id => valveReached id k t s
  | .exercise => exerciseCompleted k stroke s

/-- Changes a record and its fault; a changed fault is reported, and a command EXPIRED or ABANDONED without an owner
is given up (R137, R138). -/
def changeFault (k : NodeKey) (f : ValveRec → ValveRec) (s : State) : State :=
  match valveAt s.vs k with
  | none => s
  | some r =>
    let r' := f r
    let s' := { s with vs := setValve k (fun _ => giveUp r') s.vs }
    if r'.fault = r.fault then s' else reportFault k r.owner r'.fault s'

/-- A fault other than MISSING is recorded unless the fault is MISSING (R133, R136). -/
def orMissing (now f : ValveFault) : ValveFault := if now = .missing then .missing else f

/-- A VALVE node's presence has changed (R11, R137). -/
def valvePresence (k : NodeKey) (p : Presence) (s : State) : State :=
  match p with
  | .missing => changeFault k (fun r => { r with fault := .missing }) s
  | .present =>
    changeFault k (fun r =>
      if r.fault = .missing then
        { r with fault := if r.phase = .abandoned then .unreachable else if r.phase = .expired then .jammed else .none }
      else r) s
  | .unseen => s

/-- A stroke timer expires (R136).  DESIGN CHOICE: the stroke limit stays as it stood (notes/assumptions/29.md). -/
def strokeExpired (k : NodeKey) (s : State) : State :=
  changeFault k (fun r =>
    if r.phase = .stroking then { r with phase := .expired, fault := orMissing r.fault .jammed } else r) s

/-- The content of a USABLE VALVE sample (R30). -/
structure ValveSample where
  position : ValvePos
  target   : Option ValveTarget
  tag      : Byte
  stroke   : Nat
  deriving DecidableEq, Repr

/-- The fault a sample's position carries (R136, R137): JAMMED at once, and cleared at an end position when no
target is in force.  DESIGN CHOICE: a JAMMED sample leaves the stroke limit as it stood (notes/assumptions/29.md). -/
def sampleFault (p : ValvePos) (r : ValveRec) : ValveRec :=
  if p = .jammed then { r with fault := .jammed, phase := if r.phase = .stroking then .expired else r.phase }
  else if (p = .opened ∨ p = .closed) ∧ r.target = none ∧ (r.fault = .jammed ∨ r.fault = .unreachable) then
    { r with fault := .none }
  else r

/-- The sample shows the target reached (R135). -/
def reaches (t : ValveTarget) (m : ValveSample) : Bool :=
  match t with
  | .toClose => decide (m.position = .closed)
  | .toOpen => decide (m.position = .opened)
  | .partialTest => decide (m.position = .opened ∧ m.target = none)

/-- A completion (R135): the command ends, retries are removed, and the owner is told of a cleared fault and of the
completion. -/
def completeCommand (k : NodeKey) (t : ValveTarget) (m : ValveSample) (s : State) : State :=
  match valveAt s.vs k with
  | none => s
  | some r =>
    let ended := fun (r : ValveRec) =>
      { r with target := none, phase := .none, start := none, limit := none, attempts := 0, fault := .none }
    let s1 := { s with vs := dropCommand k (setValve k ended s.vs) }
    let s2 := if r.fault = .none then s1 else reportFault k r.owner .none s1
    reportCompletion k r.owner t m.stroke s2

/-- A valve found CLOSED with owner NONE and no target, whose node a branch names, is reported found closed
(R127). -/
def judgeAdoption (k : NodeKey) (m : ValveSample) (s : State) : State :=
  match valveAt s.vs k, branchOfValve s.ts.active k with
  | some r, some b => if m.position = .closed ∧ r.owner = .none ∧ r.target = none then foundClosed b s else s
  | _, _ => s

/-- A USABLE VALVE sample, handled whole (R127). -/
def valveSample (k : NodeKey) (m : ValveSample) (s : State) : State :=
  match valveAt s.vs k with
  | none => s
  | some _ =>
    let s1 := { s with vs := setValve k (fun r => { r with position := some m.position, lastStroke := some m.stroke }) s.vs }
    let s2 := changeFault k (sampleFault m.position) s1
    let s3 :=
      match valveAt s2.vs k with
      | some r =>
        match r.target with
        | some t => if m.tag = r.tag ∧ reaches t m then completeCommand k t m s2 else s2
        | none => s2
      | none => s2
    judgeAdoption k m s3

/-- The command in force is accepted: the stroke starts (R132). -/
def commandAccepted (k : NodeKey) (limit : Nat) (s : State) : State :=
  changeFault k (fun r =>
    { r with phase := .stroking, attempts := 0, start := some s.clock, limit := some limit,
             fault := if r.fault = .unreachable then .none else r.fault }) s

/-- An attempt at the command in force fails (R133). -/
def attemptFailed (k : NodeKey) (s : State) : State :=
  match valveAt s.vs k with
  | none => s
  | some r =>
    match r.target with
    | none => s
    | some t =>
      let n := r.attempts + 1
      if n < 3 then
        { s with vs := placeCommand k t r.tag (setValve k (fun r => { r with attempts := n }) s.vs) }
      else
        changeFault k (fun r => { r with attempts := n, phase := .abandoned, fault := orMissing r.fault .unreachable }) s

/-- The outcome of a VALVE SET that carried `sentTag` and `limit`: an acknowledgement's tag and whether it accepts,
or a miss (R132 to R134). -/
def valveOutcome (k : NodeKey) (sentTag : Byte) (limit : Nat) (ack : Option (Byte × Bool)) (s : State) : State :=
  match valveAt s.vs k with
  | none => s
  | some r =>
    if r.target = none ∨ r.tag ≠ sentTag then s
    else
      match ack with
      | some (tag, true) => if tag = sentTag then commandAccepted k limit s else attemptFailed k s
      | _ => attemptFailed k s

end Sys2Proof.Machine
end

