-- ==== Sys2Proof/Machine/Nodes.lean ====
section
/-! DEFINITION. The Node Directory: presence, samples, wetness, flood, drop report material and mirroring
(section 1.4, chapter 2). -/

namespace Sys2Proof.Machine

open Sys2Proof

/-! ### Records -/

/-- A node runtime record that begins (Table 2-2). -/
def freshNode : NodeRun :=
  { presence := .unseen, misses := 0, last := none, usableLevel := none, wet := false, floodMark := false,
    evPending := false, pendDrops := 0, pendOnset := false, pendLevel := 0, pendStamp := 0, tail := .out,
    mirrorPending := false, lastMirrored := none }

/-- Changes the record of a node. -/
def setNode (k : NodeKey) (f : NodeRun → NodeRun) (s : State) : State :=
  { s with nd := { s.nd with nodes := assocMap k f s.nd.nodes } }

/-! ### Presence (R11) -/

/-- A node's presence after an outcome (R11). -/
def presenceAfter (reply : Bool) (n : NodeRun) : NodeRun :=
  if reply then { n with presence := .present, misses := 0 }
  else
    let m := heldAt 3 (n.misses + 1)
    { n with misses := m, presence := if 3 ≤ m then .missing else n.presence }

/-- A presence outcome for the node `k`, its NODE_BACK mark and its presence event (R11, R12). -/
def nodeOutcome (k : NodeKey) (reply : Bool) (s : State) : State :=
  match assocGet k s.nd.nodes, nodeByKey s.ts.active k with
  | some n, some (i, r) =>
    let n' := presenceAfter reply n
    let s1 := setNode k (fun _ => n') s
    let s2 :=
      if n.presence = .missing ∧ n'.presence = .present ∧ k ∉ s1.nd.backNow then
        { s1 with nd := { s1.nd with backNow := s1.nd.backNow ++ [k] } }
      else s1
    if n'.presence = n.presence then s2
    else
      match nodeKind r with
      | .valve => valvePresence k n'.presence s2
      | .drip => rowPresence i n'.presence s2
      | .flow => s2
  | _, _ => s

/-! ### Verdicts (R28) -/

/-- Node status codes (Table 10-2). -/
def statusOk (b : Byte) : Option Bool :=
  match b.toNat with
  | 0 => some true
  | 1 => some false
  | 2 => some false
  | _ => none

/-- The verdict of a sample of a node of this kind (R28). -/
def verdictOf (k : NodeKind) (payload : List Byte) : Verdict :=
  match k, payload with
  | .drip, [_, _, st, _] =>
    match statusOk st with
    | none => .malformed
    | some ok => if ok then .usable else .notOk
  | .flow, [lo, hi, st, _] =>
    match statusOk st with
    | none => .malformed
    | some ok => if ok then (if ofBytes2 lo hi = 65535 then .noReading else .usable) else .notOk
  | .valve, [po, ta, _, _, _, st] =>
    if (positionOf po).isNone ∨ (targetOf ta).isNone then .malformed
    else
      match statusOk st with
      | none => .malformed
      | some ok => if ok then .usable else .notOk
  | _, _ => .malformed

/-! ### Wetness, activity and flood (R32 to R37) -/

/-- The re-arm point (R32). -/
def rearmPoint (d : DripFields) : Nat := d.wet - d.hyst

/-- A wet onset: an ARMED node at or above its threshold (R33). -/
def wetOnset (d : DripFields) (wet : Bool) (level : Nat) : Bool := !wet && decide (d.wet ≤ level)

/-- The wet state after a usable sample (R33). -/
def wetAfter (d : DripFields) (wet : Bool) (level : Nat) : Bool :=
  if wet then !(decide (level < rearmPoint d)) else decide (d.wet ≤ level)

/-- The lowest Node Table index among the marked nodes (R34). -/
def lowestFlooded (b : Bank) (nodes : List (NodeKey × NodeRun)) : Option Nat :=
  (b.nodes.find? fun p =>
    match assocGet p.2.key nodes with
    | some n => decide (nodeKind p.2 = .drip) && n.floodMark
    | none => false).map (·.1)

/-- FLOOD follows the marks, and a mark newly set raises a flood event (R36). -/
def floodMarksChanged (newlySet : Bool) (s : State) : State :=
  let s1 := { s with nd := { s.nd with flood := follow s.nd.flood (lowestFlooded s.ts.active s.nd.nodes) } }
  if newlySet then floodEvent s1 else s1

/-- Sets or clears a node's flood mark by its level (R35, R36). -/
def judgeFlood (k : NodeKey) (d : DripFields) (level : Nat) (s : State) : State :=
  match assocGet k s.nd.nodes with
  | none => s
  | some n =>
    let mark := decide (d.flood ≤ level)
    if mark = n.floodMark then s
    else floodMarksChanged mark (setNode k (fun n => { n with floodMark := mark }) s)

/-! ### DROP REPORT material (R39, R40) -/

/-- The report tail after a usable sample, and whether the sample is merged (R40). -/
def reportTail (active : Bool) (t : Tail) : Bool × Tail :=
  match t, active with
  | _, true => (true, .inside 0)
  | .out, false => (false, .out)
  | .inside _, false => (true, tailUp t)

/-- Merges a sample into the pending material (R39). -/
def mergeSample (drops level : Nat) (onset : Bool) (stamp : Half) (n : NodeRun) : NodeRun :=
  { n with
    evPending := true
    pendDrops := heldAt 255 (n.pendDrops + drops)
    pendOnset := n.pendOnset || onset
    pendLevel := level
    pendStamp := stamp.toNat % 256 }

/-- A usable sample of a node whose row another unit holds (R39, R40). -/
def remoteSample (drops level : Nat) (onset : Bool) (stamp : Half) (n : NodeRun) : NodeRun :=
  let t := reportTail (decide (1 ≤ drops) || onset) n.tail
  let n' := { n with tail := t.2 }
  if t.1 then mergeSample drops level onset stamp n' else n'

/-! ### Handling by kind (R29 to R31) -/

/-- A DRIP sample (R31): level, wetness, flood, activity, and its route (R38, R39). -/
def dripSample (k : NodeKey) (i : Nat) (d : DripFields) (v : Verdict) (payload : List Byte) (s : State) : State :=
  let here := decide (resolveUnit s.ti.position d.evUnit = 0)
  match v, payload, assocGet k s.nd.nodes with
  | .usable, [lv, dr, _, _], some n =>
    let level := lv.toNat
    let drops := dr.toNat
    let onset := wetOnset d n.wet level
    let s1 := setNode k (fun n => { n with usableLevel := some level, wet := wetAfter d n.wet level }) s
    let s2 := judgeFlood k d level s1
    if here then localSample i (some (decide (1 ≤ drops) || onset)) s2
    else setNode k (remoteSample drops level onset s.rt.number) s2
  | _, _, _ => if here then localSample i none s else s

/-- The value a FLOW sample hands to Flow Accounting (R29). -/
def flowValue (v : Verdict) (payload : List Byte) : SideValue :=
  match v, payload with
  | .usable, lo :: hi :: _ => .reading (ofBytes2 lo hi)
  | _, _ => .noReading

/-- The fields of a VALVE sample (R30). -/
def valveFields (payload : List Byte) : Option ValveSample :=
  match payload with
  | [po, ta, tag, lo, hi, _] =>
    match positionOf po, targetOf ta with
    | some p, some t => some ⟨p, t, tag, ofBytes2 lo hi⟩
    | _, _ => none
  | _ => none

/-- The handling of a sample by the node's kind (R27, step 3). -/
def sampleByKind (k : NodeKey) (i : Nat) (r : NodeRec) (v : Verdict) (payload : List Byte) (s : State) : State :=
  match r.body with
  | .drip d => dripSample k i d v payload s
  | .flow => flowSample i s.rt.number (flowValue v payload) s
  | .valve _ =>
    match v, valveFields payload with
    | .usable, some m => valveSample k m s
    | _, _ => s

/-! ### Mirroring (R43, R44) -/

/-- The value a MIRROR of a sample carries, none for a sample that is not usable (R43, R44). -/
def mirrorValue (k : NodeKind) (v : Verdict) (payload : List Byte) : Option MirrorValue :=
  match v, k, payload with
  | .noReading, _, _ => some .noReading
  | .usable, .flow, lo :: hi :: _ => some (.reading (ofBytes2 lo hi))
  | .usable, _, b :: _ => some (.reading b.toNat)
  | _, _, _ => none

/-- The change from the last mirrored value sets mirror pending (R43). -/
def mirrorMoved (k : NodeKind) (delta : Nat) (old new : MirrorValue) : Bool :=
  match old, new with
  | .reading x, .reading y =>
    match k with
    | .valve => decide (x ≠ y)
    | _ => decide (delta ≤ ((x : Int) - (y : Int)).natAbs)
  | .noReading, .noReading => decide (delta = 0)
  | _, _ => true

/-- A node's mirror mode is judged for a sample (R43). -/
def mirrorDue (r : NodeRec) (v : Verdict) (payload : List Byte) (last : Option MirrorValue) : Bool :=
  match r.mirror with
  | .off => false
  | .every => true
  | .change =>
    match mirrorValue (nodeKind r) v payload with
    | none => false
    | some x =>
      match last with
      | none => true
      | some y => mirrorMoved (nodeKind r) r.delta y x

/-- Sets mirror pending when it is due (R43). -/
def judgeMirror (r : NodeRec) (v : Verdict) (payload : List Byte) (n : NodeRun) : NodeRun :=
  if mirrorDue r v payload n.lastMirrored then { n with mirrorPending := true } else n

/-! ### Taking a sample (R27) -/

/-- A valid SAMPLE of the node `k`, handled whole (R27); a node that is not in the table in force is discarded
(R10). -/
def takeSample (k : NodeKey) (payload : List Byte) (s : State) : State :=
  match nodeByKey s.ts.active k with
  | none => s
  | some (i, r) =>
    let s1 := nodeOutcome k true s
    let v := verdictOf (nodeKind r) payload
    let s2 := setNode k (fun n => { n with last := some ⟨payload, v, s.rt.number⟩ }) s1
    let s3 := sampleByKind k i r v payload s2
    setNode k (judgeMirror r v payload) s3

/-! ### The bank switch (R12, R26) -/

/-- A record carried over, adjusted to the node's new record (R26). -/
def carryNode (pos : Option Nat) (old new : NodeRec) (n : NodeRun) : NodeRun :=
  let n1 := if new.mirror = .off then { n with mirrorPending := false } else n
  match old.body, new.body with
  | .drip a, .drip b =>
    let n2 :=
      if resolveUnit pos a.evUnit ≠ resolveUnit pos b.evUnit then
        { n1 with evPending := false, pendDrops := 0, pendOnset := false, tail := .out }
      else n1
    { n2 with floodMark :=
        match n2.usableLevel with
        | some l => decide (b.flood ≤ l)
        | none => false }
  | _, _ => n1

/-- The record of a node of the incoming bank: carried over for the same key and kind, else begun (R12, R26). -/
def carriedNode (pos : Option Nat) (outgoing : Bank) (old : List (NodeKey × NodeRun)) (r : NodeRec) : NodeRun :=
  match nodeByKey outgoing r.key, assocGet r.key old with
  | some (_, o), some n => if nodeKind o = nodeKind r then carryNode pos o r n else freshNode
  | _, _ => freshNode

/-- The node runtime records at a bank switch. -/
def carryNodes (pos : Option Nat) (outgoing incoming : Bank) (old : List (NodeKey × NodeRun)) : List (NodeKey × NodeRun) :=
  incoming.nodes.map fun p => (p.2.key, carriedNode pos outgoing old p.2)

/-- The flood mark of node `k`, clear where no record stands. -/
def floodMarkOf (k : NodeKey) (nodes : List (NodeKey × NodeRun)) : Bool :=
  match assocGet k nodes with
  | some n => n.floodMark
  | none => false

/-- A node is marked in `new` that is not marked in `old`: from before a switch to after it a mark newly set, and the
other way round a mark cleared or removed with its record (R36). -/
def floodNewlySet (old new : List (NodeKey × NodeRun)) : Bool := new.any fun p => p.2.floodMark && !floodMarkOf p.1 old

/-- The detail follows the index of a marked node that the switch has moved; nothing is owed for it (R34). -/
def floodMoved (now : Option Nat) (c : Condition) : Condition :=
  match now with
  | some d => { c with detail := d }
  | none => c

/-- FLOOD at a bank switch, judged once by the marks before and after (R36, notes/assumptions/24.md).  With no mark set
or cleared nothing is raised. -/
def floodAtSwitch (old : List (NodeKey × NodeRun)) (s : State) : State :=
  if floodNewlySet old s.nd.nodes || floodNewlySet s.nd.nodes old then floodMarksChanged (floodNewlySet old s.nd.nodes) s
  else { s with nd := { s.nd with flood := floodMoved (lowestFlooded s.ts.active s.nd.nodes) s.nd.flood } }

end Sys2Proof.Machine
end

