-- ==== Sys2Proof/Machine/Reports.lean ====
section
/-! DEFINITION. What reports and replies carry, read from the state (sections 10.3 and 10.4). -/

namespace Sys2Proof.Machine

open Sys2Proof

/-! ### Command codes (Table 10-5) -/

def codeStatus : Byte := 0x01#8
def codeLoadTable : Byte := 0x02#8
def codeReadTable : Byte := 0x03#8
def codeCommit : Byte := 0x04#8
def codeDiscard : Byte := 0x05#8
def codeProtect : Byte := 0x06#8
def codeReadIncidents : Byte := 0x10#8
def codeReadIncident : Byte := 0x11#8
def codeIsolate : Byte := 0x12#8
def codeRelease : Byte := 0x13#8
def codeHeaderClose : Byte := 0x20#8
def codeHeaderOpen : Byte := 0x21#8
def codeExerciseStart : Byte := 0x30#8
def codeExerciseSuspend : Byte := 0x31#8
def codeExerciseResume : Byte := 0x32#8
def codeExerciseAbort : Byte := 0x33#8
def codeReadExercise : Byte := 0x34#8
def codeDiscover : Byte := 0x40#8
def codeReadPresence : Byte := 0x41#8
def codeReadValves : Byte := 0x42#8
def codeUnitReset : Byte := 0x7F#8
/-- The reply to NUMBER carries the command code 0x10 (section 10.1). -/
def codeNumber : Byte := 0x10#8

/-! ### Small parts -/

/-- A branch as its index in the bank in force (R91). -/
def branchByte (s : State) (b : BranchId) : Byte := optByte (indexOf s.ts.active b)

/-- A branch that may be absent. -/
def optBranchByte (s : State) (o : Option BranchId) : Byte :=
  match o with
  | some b => branchByte s b
  | none => 255

/-- A list as a count byte followed by its entries (R189). -/
def counted {α : Type} (f : α → List Byte) (l : List α) : List Byte := byte l.length :: l.flatMap f

/-- A round number, or two bytes of 255 when absent. -/
def optRound (o : Option Half) : List Byte :=
  match o with
  | some r => bytes2 r.toNat
  | none => [255, 255]

/-- A two-byte value, 65 535 when absent. -/
def optBytes2 (o : Option Nat) : List Byte :=
  match o with
  | some n => bytes2 n
  | none => [255, 255]

/-! ### STATUS (R188, Table 10-7) -/

/-- The data of STATUS. -/
def statusData (s : State) : List Byte :=
  [unitByte s.ti.position] ++
    bytes2 (if s.rt.running then s.rt.number.toNat else 0) ++
    bytes2 (if s.rt.running then s.rt.period.getD 0 else 0) ++
    [guardCode s.ts.guard, flagByte s.ts.commitPending, flagByte (!s.ti.lost.active), headerCode s.vs.header.state,
      exStateCode s.xc.state, byte s.ie.incidents.length, byte (closedCount s)] ++
    bytes2 (conditionBits s) ++
    [errorCode s.ti.errorKind, portCode s.ti.errorPort]

/-! ### READ TABLE (R162) -/

/-- Bank codes: active, staging (Table 10-2). -/
def bankOf (s : State) (b : Byte) : Option Bank :=
  match b.toNat with
  | 0 => some s.ts.active
  | 1 => some s.ts.staging
  | _ => none

/-- The five bytes of the commit outcome (section 10.3). -/
def outcomeBytes : CommitOutcome → List Byte
  | .none => [0, 0, 0, 0, 0]
  | .switched r => [1] ++ bytes2 r.toNat ++ [0, 0]
  | .cancelled => [2, 0, 0, 0, 0]
  | .refusedAtSwitch r d1 d2 d3 => [3, resultCode r, d1, d2, d3]

/-- Whole records from index `i` upward: at most `count`, not past `last`, while they fit in `room` bytes (R162). -/
def tablePage (b : Bank) (t : TableId) (last : Nat) : Nat → Nat → Nat → List (List Byte)
  | 0, _, _ => []
  | count + 1, i, room =>
    if last < i then []
    else
      let r := tableRecordBytes b t i
      if r.length ≤ room then r :: tablePage b t last count (i + 1) (room - r.length) else []

/-- The data of READ TABLE; its fixed part and the reply's code and result take 12 of the 240 payload bytes. -/
def readTableData (s : State) (bank table first count : Byte) : List Byte :=
  match bankOf s bank, tableOf table with
  | some b, some t =>
    let page := tablePage b t (lastIndex t) count.toNat first.toNat 228
    [bank, table, first, byte page.length, flagByte s.ts.commitPending] ++ outcomeBytes s.ts.outcome ++ page.flatten
  | _, _ => []

/-! ### Incidents (R125, R189) -/

/-- The data of READ INCIDENTS. -/
def incidentsData (s : State) : List Byte := counted (fun i => [byte i.id, incStateCode i.state]) s.ie.incidents

/-- A member row entry: 10 bytes (R189). -/
def rowEntryBytes (e : RowEntry) : List Byte :=
  [byte e.key.unit, byte e.key.node, byte e.index, optByte (e.report.result.map rowResultNum), byte e.report.activeRun,
    byte e.report.quietRun, byte e.heldRun, flagByte e.report.blind, byte e.report.staleRun, flagByte e.report.stale]

/-- The full record of an incident, in the order of Table 5-2 (R125, R189). -/
def incidentBytes (s : State) (i : Incident) : List Byte :=
  [byte i.id, originCode i.origin, incStateCode i.state, reasonCode i.reason] ++
    counted (fun b => [branchByte s b]) i.members ++
    counted rowEntryBytes i.rows ++
    [optBranchByte s i.target] ++
    (match i.probeRow with | some k => [byte k.unit, byte k.node] | none => [255, 255]) ++
    [optBranchByte s i.probeBranch, probePhaseCode i.probePhase] ++
    counted (fun b => [branchByte s b]) i.probed ++
    [optBranchByte s i.reopening] ++
    counted (fun b => [branchByte s b]) i.held ++
    optRound i.closing ++ [byte i.settle, byte i.probeQuiet] ++
    bytes2 i.opened.toNat ++ bytes2 i.changed.toNat ++ [flagByte i.headerReq, flagByte i.pending]

/-- The data of READ INCIDENT. -/
def incidentData (s : State) (id : Byte) : List Byte :=
  match incidentById s id.toNat with
  | some i => incidentBytes s i
  | none => []

/-- The state of an incident after a command: FREED when no open incident has the id (R115). -/
def incidentStateByte (s : State) (id : Byte) : Byte :=
  match incidentById s id.toNat with
  | some i => incStateCode i.state
  | none => freedCode

/-! ### Exercise (R155, R189) -/

/-- A results entry: 8 bytes. -/
def resultBytes (r : ExResult) : List Byte :=
  [byte r.branch, exVerdictCode r.verdict, optByte (r.cause.map exCauseNum)] ++ optBytes2 r.stroke ++ [optByte r.limit] ++
    bytes2 r.round.toNat

/-- The data of READ EXERCISE. -/
def exerciseData (s : State) : List Byte :=
  let x := s.xc
  [exStateCode x.state, flagByte x.autoCause, flagByte x.manualCause, flagByte x.abortPending, endKindCode x.endKind] ++
    (match x.range with | none => [255, 0] | some .all => [255, 24] | some (.span f c) => [byte f, byte c]) ++
    [byte x.plan.length, optByte (x.plan[x.cursor]?)] ++
    (match x.test with
      | some t => [byte t.branch, placeByte t.key, byte t.limit] ++ bytes2 t.round.toNat
      | none => [255, 0, 0, 0, 0]) ++
    counted resultBytes x.results

/-! ### Presence and valves (R23, R144, R189) -/

/-- The data of READ PRESENCE. -/
def presenceData (s : State) (leg : Byte) : List Byte :=
  match legOfNat leg.toNat with
  | some l =>
    let e := quadGet s.le.legs l
    [flagByte e.discovering, byte e.nextAddress] ++
      counted (fun p => [byte p.node, identKindCode p.kind] ++ p.serial) e.presence
  | none => []

/-- A READ VALVES entry: 13 bytes (R189). -/
def valveBytes (i : Nat) (k : NodeKey) (r : ValveRec) : List Byte :=
  [byte i, placeByte k, (match r.position with | some p => positionCode p | none => 255), targetCode r.target, r.tag,
    byte r.attempts, phaseCode r.phase, ownerCode r.owner, (match r.owner with | .incident id => byte id | _ => 255),
    faultCode r.fault, flagByte r.unreliable] ++ optBytes2 r.lastStroke

/-- The Valve Status records in Node Table index order, from index `first`. -/
def valveList (s : State) (first : Nat) : List (Nat × NodeKey × ValveRec) :=
  s.ts.active.nodes.filterMap fun p =>
    if first ≤ p.1 then (valveAt s.vs p.2.key).map fun r => (p.1, p.2.key, r) else none

/-- The data of READ VALVES: at most 18 entries; the next index is 255 when the last record has been given. -/
def valvesData (s : State) (first : Byte) : List Byte :=
  let all := valveList s first.toNat
  let page := all.take 18
  let next : Byte :=
    if all.length ≤ 18 then 255
    else match page.getLast? with | some p => byte (p.1 + 1) | none => 255
  next :: counted (fun p => valveBytes p.1 p.2.1 p.2.2) page

/-! ### Replies (R181, R186, R187) -/

/-- The data of a reply with result OK, as it stands when the reply is built (Table 10-5). -/
def okData (s : State) (c : Carried) : List Byte :=
  if c.code = codeStatus then statusData s
  else if c.code = codeReadTable then
    match c.args with
    | [b, t, f, n] => readTableData s b t f n
    | _ => []
  else if c.code = codeProtect then [guardCode s.ts.guard]
  else if c.code = codeReadIncidents ∧ c.args = [] then incidentsData s
  else if c.code = codeReadIncident then
    match c.args with
    | [id] => incidentData s id
    | _ => []
  else if c.code = codeRelease then
    match c.args with
    | [id] => [incidentStateByte s id]
    | _ => []
  else if c.code = codeHeaderClose then [headerCode s.vs.header.state]
  else if c.code = codeHeaderOpen then [headerCode s.vs.header.state]
  else if c.code = codeExerciseStart then [byte s.xc.plan.length]
  else if c.code = codeExerciseSuspend then [exStateCode s.xc.state]
  else if c.code = codeExerciseResume then [exStateCode s.xc.state]
  else if c.code = codeExerciseAbort then [exStateCode s.xc.state]
  else if c.code = codeReadExercise then exerciseData s
  else if c.code = codeReadPresence then
    match c.args with
    | [l] => presenceData s l
    | _ => []
  else if c.code = codeReadValves then
    match c.args with
    | [f] => valvesData s f
    | _ => []
  else c.detail

/-- The payload of a REPLY: the command code, the result, and the data (R186). -/
def replyPayload (s : State) (c : Carried) : List Byte :=
  c.code :: resultCode c.result :: (if c.result = .ok then okData s c else c.detail)

/-- Builds the frame of a reply that is due (R181, R185). -/
def buildReply (s : State) (r : DueReply) : Frame :=
  match r with
  | .reply c => unitFrame s.ti.position kindReply (replyPayload s c)
  | .relayReply payload => unitFrame s.ti.position kindRelayReply payload

/-! ### Reports (Table 10-6, R190, R191) -/

/-- The detail of INCIDENT_OVERFLOW (R99).  The spec gives none for a request that no branch's confirm set
(notes/assumptions/8.md). -/
def overflowDetail (s : State) : Nat :=
  if s.ie.overflowReq then
    match s.ie.overflowBy.bind (indexOf s.ts.active) with
    | some i => 100 + i
    | none => (Config.freeHalf s.free).toNat
  else
    match lowest (unhousedList s) with
    | some i => i
    | none => 255

/-- The detail of a condition as it stands at the grant (R191). -/
def conditionDetail (s : State) (u : UnitCondition) : Nat :=
  match u with
  | .roundOverrun => s.rt.late
  | .incidentOverflow => overflowDetail s
  | _ => (conditionOf s u).detail

/-- The payload of a UNIT CONDITION. -/
def conditionPayload (s : State) (u : UnitCondition) : List Byte :=
  [byte (conditionCode u), flagByte (conditionOf s u).active] ++ bytes2 (conditionDetail s u)

/-- The payload of an INCIDENT REPORT for an open incident (R122, R190). -/
def incidentPayload (s : State) (i : Incident) : List Byte :=
  [byte i.id, incStateCode i.state, originCode i.origin, reasonCode i.reason, optBranchByte s i.target,
    optBranchByte s i.probeBranch, flagByte i.headerReq, 255] ++
    counted (fun b => [branchByte s b]) i.members ++
    counted (fun e => [byte e.key.unit, byte e.key.node]) i.rows ++
    counted (fun b => [branchByte s b,
      match valveAt s.vs b.valve with | some r => faultCode r.fault | none => 0]) i.held

/-- The payload of an INCIDENT REPORT for a freed incident (R121, R190).  DESIGN CHOICE: header requested is sent as 0
(notes/assumptions/36.md). -/
def clearedPayload (c : Cleared) : List Byte := [byte c.id, freedCode, 255, 0, 255, 255, 0, optByte c.into, 0, 0, 0]

/-- The payload of a COOLING NOTICE (R120). -/
def noticePayload (s : State) (b : BranchId) (n : Notice) : List Byte :=
  [branchByte s b] ++ bytes2 (match recOf s.ts.active b with | some r => r.loadTag | none => 0) ++ [noticeCode n.state]

/-- The payload of a DROP REPORT (R41). -/
def dropPayload (i : Nat) (n : NodeRun) : List Byte :=
  [byte i, byte n.pendDrops, flagByte n.pendOnset, byte n.pendLevel, byte n.pendStamp]

/-- The payload of a MIRROR (R44, R190). -/
def mirrorPayload (i : Nat) (k : NodeKind) (m : LastSample) : List Byte :=
  [byte i, nodeKindCode k, verdictCode m.verdict] ++ bytes2 m.stamp.toNat ++ [byte m.payload.length] ++ m.payload.take 234

/-- One branch entry of the ROUND SUMMARY: 8 bytes (R65, R87, R190). -/
def summaryBranch (s : State) (i : Nat) : List Byte :=
  match identAt s.ts.active i with
  | none => bytes2 65535 ++ bytes2 65535 ++ [0, 0, 0, 0]
  | some b =>
    let f := (assocGet b s.fa.branches).getD freshFlow
    let last : Bool := match assocGet b s.de.branches with | some d => d.creditedLast | none => false
    bytes2 f.endedSupply ++ bytes2 f.endedReturn ++ bytes2 f.loss ++
      [byte (scoreOf s b), byte ((if f.unmetered then 1 else 0) + (if f.skew then 2 else 0) + (if last then 4 else 0))]

/-- The indexes of the nodes marked NODE_BACK in the ended round, lowest first, at most 39 (R190). -/
def backList (s : State) : List Nat :=
  ((s.ts.active.nodes.filter fun p => decide (p.2.key ∈ s.nd.backEnded)).map (·.1)).take 39

/-- The payload of the ROUND SUMMARY (R179, R190). -/
def summaryPayload (s : State) : List Byte :=
  (match s.rt.ended with
    | some e => bytes2 e.number.toNat ++ bytes2 (heldAt 65535 e.elapsed)
    | none => [0, 0, 0, 0]) ++
    optBytes2 s.fa.supplyMeter.flow ++ optBytes2 s.fa.returnMeter.flow ++
    (List.range 24).flatMap (summaryBranch s) ++ counted (fun i => [byte i]) (backList s)

end Sys2Proof.Machine
end

