-- ==== Sys2Proof/Machine/Trunk.lean ====
section
/-! DEFINITION. The Trunk Interface's own acts (chapter 9): the controller-presence timer, the last frame error, the
forward FIFOs, the reply place and the command slot. -/

namespace Sys2Proof.Machine

open Sys2Proof

/-! ### Controller presence (R184) -/

/-- A checked frame on the upper port restarts the timer; during absence CONTROLLER_LOST clears. -/
def presenceRestart (s : State) : State :=
  { s with ti := { s.ti with
      presenceTimer := 0
      lost := if s.ti.lost.active then settleClear s.ti.lost else s.ti.lost } }

/-- Absence begins: CONTROLLER_LOST becomes active and the header policy is applied again (R110). -/
def beginAbsence (s : State) : State :=
  policyAgain { s with ti := { s.ti with lost := raise (settings s).absenceLimit } }

/-- Absence is judged against the limit now in force, as at a bank switch.  During an absence that goes on, the
detail follows the limit (notes/assumptions/18.md). -/
def judgeAbsence (s : State) : State :=
  let limit := (settings s).absenceLimit
  if 1000 * limit < s.ti.presenceTimer then
    if s.ti.lost.active then { s with ti := { s.ti with lost := { s.ti.lost with detail := limit } } } else beginAbsence s
  else if s.ti.lost.active then { s with ti := { s.ti with lost := settleClear s.ti.lost } }
  else s

/-- The timer passes its limit. -/
def presenceTimeout (s : State) : State :=
  if s.ti.lost.active then s
  else
    let limit := 1000 * (settings s).absenceLimit
    beginAbsence (elapse (limit + 1 - s.ti.presenceTimer) s)

/-- A checked frame has been received at a port: on the upper port it is a sign of the controller. -/
def heard (port : Port) (s : State) : State :=
  match port with
  | .upper => presenceRestart s
  | .lower => s

/-! ### The last frame error (R172) -/

/-- Records a discarded frame. -/
def recordError (e : FrameError) (port : Port) (s : State) : State :=
  { s with ti := { s.ti with errorKind := e, errorPort := port } }

/-! ### The forward FIFOs (R176) -/

/-- A frame completes for DF. -/
def forwardDown (port : Port) (f : Frame) (s : State) : State :=
  if s.ti.df.length < 8 then { s with ti := { s.ti with df := s.ti.df ++ [f] } } else recordError .fifoFull port s

/-- A frame completes for UF or UR, by its class. -/
def forwardUp (port : Port) (f : Frame) (s : State) : State :=
  if urgentKind f.kind then
    if s.ti.uf.length < 8 then { s with ti := { s.ti with uf := s.ti.uf ++ [f] } } else recordError .fifoFull port s
  else if s.ti.ur.length < 8 then { s with ti := { s.ti with ur := s.ti.ur ++ [f] } }
  else recordError .fifoFull port s

/-! ### The reply place and the command slot (R181) -/

/-- The reply is that of a UNIT RESET that is carried out. -/
def isReset (d : DueReply) : Bool :=
  match d with
  | .reply c => decide (c.code = codeUnitReset ∧ c.result = .ok)
  | .relayReply _ => false

/-- What holds the slot once a reply stands in the reply place: UNIT RESET keeps it. -/
def slotAfter (d : DueReply) : Slot := if isReset d then .unitReset else .empty

/-- A reply is built from the state as it stands and put in the reply place, which frees the slot. -/
def fillPlace (d : DueReply) (s : State) : State :=
  { s with ti := { s.ti with reply := some ⟨buildReply s d, isReset d⟩, slot := slotAfter d } }

/-- A command has been carried out: its reply is built into the reply place, or the command keeps the slot until the
place is freed. -/
def placeDue (d : DueReply) (s : State) : State :=
  match s.ti.reply with
  | none => fillPlace d s
  | some _ => { s with ti := { s.ti with slot := .due d } }

/-- A reply the Trunk Interface makes itself, for BUSY and NUMBER: it takes the reply place or is not made. -/
def placeOwn (d : DueReply) (s : State) : State :=
  match s.ti.reply with
  | none => { s with ti := { s.ti with reply := some ⟨buildReply s d, false⟩ } }
  | some _ => s

/-- The reply to a COMMAND. -/
def commandReply (code : Byte) (args : List Byte) (r : Result) (detail : List Byte) : DueReply :=
  .reply ⟨code, args, r, detail⟩

/-- A RELAY REPLY without an inner frame. -/
def relayResult (r : Result) : DueReply := .relayReply [resultCode r]

/-- The slot holds nothing. -/
def slotFree (s : State) : Bool := decide (s.ti.slot = .empty)

/-- A consumed COMMAND: with the slot occupied it is answered BUSY; else `carry` carries it out and its reply is
due (R181, R186). -/
def takeCommand (code : Byte) (args : List Byte) (carry : State → State × Result × List Byte) (s : State) : State :=
  if slotFree s then placeDue (commandReply code args (carry s).2.1 (carry s).2.2) (carry s).1
  else placeOwn (commandReply code args .busy []) s

/-! ### Numbering (R182) -/

/-- The case of R182 that applies to `p`: position afterwards, result, onward NUMBER. -/
def numberCase (s : State) (p : Byte) : Option Nat × Result × Option Byte :=
  let n := p.toNat
  if n = 0 then (s.ti.position, .badArgument, none)
  else if s.ts.activeFlag then
    (s.ti.position, .positionHeld, s.ti.position.map fun q => byte (q + 1))
  else if n ≤ 4 then (some n, .ok, some (byte (n + 1)))
  else (none, .chainTooLong, some (byte (min 255 (n + 1))))

/-- NUMBER with the byte `p` (R182).  DESIGN CHOICE: a case without an onward NUMBER leaves a pending one as it stands
(notes/assumptions/34.md). -/
def numberUnit (p : Byte) (s : State) : State :=
  let c := numberCase s p
  let s1 : State := { s with ti := { s.ti with
    position := c.1
    onward := match c.2.2 with | some q => some q | none => s.ti.onward } }
  placeOwn (commandReply codeNumber [p] c.2.1 [unitByte c.1]) s1

end Sys2Proof.Machine
end

