-- ==== Sys2Proof/Machine/Tables.lean ====
section
/-! DEFINITION. The Table Store (chapter 8): guard, staging, the checks of a commit, and the bank switch with what
each block carries over. -/

namespace Sys2Proof.Machine

open Sys2Proof

/-! ### The guard (R171) -/

/-- The guard level forbids table changes as the SERVICE pin now reads. -/
def guardForbids (s : State) : Bool :=
  match s.ts.guard with
  | .opened => false
  | .service => !s.pins.service
  | .fixed => true

/-- The rank of a guard level. -/
def guardRank : Guard → Nat
  | .opened => 0
  | .service => 1
  | .fixed => 2

/-- PROTECT: the result, and the state with the level taken. -/
def protectUnit (level : Byte) (s : State) : State × Result :=
  match guardOf level with
  | none => (s, .badArgument)
  | some g =>
    if guardRank g < guardRank s.ts.guard then (s, .guarded) else ({ s with ts := { s.ts with guard := g } }, .ok)

/-! ### Staging (R159) -/

/-- Replaces entry `i` of a table of a bank by a record's content; a NONE record empties it. -/
def putRecord (t : TableId) (i : Nat) (r : RecordBody) (b : Bank) : Bank :=
  match r with
  | .node x => { b with nodes := entryPut i x b.nodes }
  | .branch x => { b with branches := entryPut i x b.branches }
  | .row x => { b with rows := entryPut i x b.rows }
  | .settings x => { b with settings := some x }
  | .empty =>
    match t with
    | .node => { b with nodes := entryDrop i b.nodes }
    | .branch => { b with branches := entryDrop i b.branches }
    | .drip => { b with rows := entryDrop i b.rows }
    | .settings => { b with settings := none }

/-! ### Validity checks (Table 8-2) -/

/-- The first entry whose key an earlier entry has. -/
def firstRepeat {α κ : Type} [DecidableEq κ] (key : α → κ) : List κ → List (Nat × α) → Option Nat
  | _, [] => none
  | seen, (i, x) :: rest => if key x ∈ seen then some i else firstRepeat key (key x :: seen) rest

/-- The kind of the node entry at index `i`. -/
def kindAt (b : Bank) (i : Nat) : Option NodeKind := (entryAt b.nodes i).map nodeKind

/-- A branch names two FLOW entries and a VALVE entry. -/
def rightKinds (b : Bank) (r : BranchRec) : Bool :=
  decide (kindAt b r.supply = some .flow ∧ kindAt b r.ret = some .flow ∧ kindAt b r.valve = some .valve)

/-- The first branch that names a node twice, or a node an earlier branch names. -/
def firstShared : List Nat → List (Nat × BranchRec) → Option Nat
  | _, [] => none
  | seen, (i, r) :: rest =>
    if r.supply = r.ret ∨ r.supply = r.valve ∨ r.ret = r.valve ∨ r.supply ∈ seen ∨ r.ret ∈ seen ∨ r.valve ∈ seen then
      some i
    else firstShared (r.supply :: r.ret :: r.valve :: seen) rest

/-- A row is remote, or names a DRIP entry whose evidence unit resolves to this unit. -/
def goodLocalKey (pos : Option Nat) (b : Bank) (r : RowRec) : Bool :=
  decide (resolveUnit pos r.unit ≠ 0) ||
    match (entryAt b.nodes r.node).bind dripFields with
    | some d => decide (resolveUnit pos d.evUnit = 0)
    | none => false

/-- The index of the first entry for which a test fails. -/
def firstFailing {α : Type} (ok : α → Bool) (t : List (Nat × α)) : Option Nat := (t.find? fun p => !ok p.2).map (·.1)

/-- An offence against Table 8-2: table, index, reason. -/
structure Offence where
  table  : TableId
  index  : Nat
  reason : Nat
  deriving DecidableEq, Repr

/-- The eight checks in order, each with its first offence. -/
def offences (pos : Option Nat) (b : Bank) : List (Option Offence) :=
  [ if b.settings.isNone then some ⟨.settings, 0, 1⟩ else none,
    (firstRepeat (fun (r : NodeRec) => r.key) [] b.nodes).map fun i => ⟨.node, i, 2⟩,
    (firstFailing (rightKinds b) b.branches).map fun i => ⟨.branch, i, 3⟩,
    (firstShared [] b.branches).map fun i => ⟨.branch, i, 4⟩,
    (firstRepeat (rowKey pos) [] b.rows).map fun i => ⟨.drip, i, 5⟩,
    (firstFailing (goodLocalKey pos b) b.rows).map fun i => ⟨.drip, i, 6⟩,
    (firstFailing (fun (r : RowRec) => r.cands.all fun c => (entryAt b.branches c.branch).isSome) b.rows).map
      fun i => ⟨.drip, i, 7⟩,
    (firstFailing (fun (r : RowRec) => decide (r.cands.map (·.branch)).Nodup) b.rows).map fun i => ⟨.drip, i, 8⟩ ]

/-- The first offence that Table 8-2 finds. -/
def firstOffence (pos : Option Nat) (b : Bank) : Option Offence := (offences pos b).findSome? id

/-! ### Round budget and IN_USE (R165, R166) -/

/-- The cost of one poll in microseconds. -/
def pollCost (w : Nat) (k : NodeKind) : Nat :=
  match k with
  | .valve => 120 + 1000 * w + 280
  | _ => 120 + 1000 * w + 240

/-- The plan of a leg: its nodes' polls and 8 valve commands. -/
def legPlan (b : Bank) (w : Nat) (l : Leg) : Nat :=
  ((legNodes b l).map fun p => pollCost w (nodeKind p.2)).sum + 8 * (220 + 1000 * w + 200)

/-- The lowest leg with a node whose plan exceeds 80 % of the round period. -/
def overBudget (b : Bank) : Option Leg :=
  let c := settingsOf b
  allLegs.find? fun l => decide (legNodes b l ≠ [] ∧ c.period * 800 < legPlan b c.window l)

/-- A branch that is a member of an open incident, or whose valve one holds. -/
def inUse (s : State) (b : BranchId) : Bool :=
  s.ie.incidents.any fun i => decide (b ∈ i.members) || decide (b ∈ i.held)

/-- The first branch in use, by the active bank's index, without a match in the staging bank. -/
def inUseOffence (s : State) : Option Nat :=
  ((branchList s.ts.active).find? fun p => inUse s p.2 && (indexOf s.ts.staging p.2).isNone).map (·.1)

/-- Steps 3 to 5 of R164: the refusal of the staging bank and its detail. -/
def commitRefusal (s : State) : Option (Result × List Byte) :=
  match firstOffence s.ti.position s.ts.staging with
  | some o => some (.invalid, [tableCode o.table, byte o.index, byte o.reason])
  | none =>
    match overBudget s.ts.staging with
    | some l => some (.roundBudget, [byte l.val])
    | none =>
      match inUseOffence s with
      | some i => some (.inUse, [byte i])
      | none => none

/-- The outcome of a refusal at the switch: three detail bytes, zeros in front of a single one (R187). -/
def refusedOutcome (r : Result) (detail : List Byte) : CommitOutcome :=
  match detail with
  | [a, b, c] => .refusedAtSwitch r a b c
  | [a] => .refusedAtSwitch r 0 0 a
  | _ => .refusedAtSwitch r 0 0 0

/-! ### The bank switch (R168) -/

/-- A valve of the bank has the key `k`. -/
def isValve (b : Bank) (k : NodeKey) : Bool :=
  match nodeByKey b k with
  | some (_, r) => decide (nodeKind r = .valve)
  | none => false

/-- The Valve Status records at a bank switch, and the commands the switch removes (R126, R130). -/
def carryValves (incoming : Bank) (v : ValveBlock) : ValveBlock :=
  let kept := (incoming.nodes.filter fun p => decide (nodeKind p.2 = .valve)).map fun p =>
    (p.2.key, (assocGet p.2.key v.valves).getD freshValve)
  let sift := fun (q : List ActionEntry) => q.filter fun e => isValve incoming e.key
  let siftKeys := fun (d : List NodeKey) => d.filter fun k => isValve incoming k
  let v' : ValveBlock :=
    { v with
      valves := kept
      queues := ⟨sift v.queues.l0, sift v.queues.l1, sift v.queues.l2, sift v.queues.l3⟩
      deferred := ⟨siftKeys v.deferred.l0, siftKeys v.deferred.l1, siftKeys v.deferred.l2, siftKeys v.deferred.l3⟩ }
  allLegs.foldl (fun v l => refill l 8 v) v'

/-- The cooling notices at a bank switch (R120). -/
def carryNotices (incoming : Bank) (old : List (BranchId × Notice)) : List (BranchId × Notice) :=
  (branchList incoming).map fun p => (p.2, (assocGet p.2 old).getD ⟨.none, false⟩)

/-- The records of every block, carried over by identity to the staging bank, which becomes the active bank
(R168). -/
def carryOver (s : State) : State :=
  let old := s.ts.active
  let new := s.ts.staging
  let pos := s.ti.position
  let nodes := carryNodes pos old new s.nd.nodes
  { s with
    ts := { s.ts with active := new, activeFlag := true, commitPending := false }
    nd := { s.nd with nodes := nodes }
    fa := { s.fa with branches := carryFlows new s.fa.branches }
    de := { s.de with branches := carryDrips new s.de.branches, rows := carryRows pos new nodes s.de.rows }
    ie := { s.ie with notices := carryNotices new s.ie.notices }
    vs := carryValves new s.vs
    ti := { s.ti with
      summaryDue := s.ti.summaryDue && ((settingsOf new).summary || !(settingsOf old).summary) } }

/-- The staging bank becomes the active bank, and the blocks adjust to it (R26, R36, R92, R110, R184).  DESIGN CHOICE:
the incidents are adjusted first; then FLOOD is judged, and a FLOOD incident may open; then auto_header turned on has
the header policy applied again; absence is judged against the new limit last (notes/assumptions/27.md). -/
def installBank (s : State) : State :=
  let s2 := adjustIncidents (carryOver s)
  let s3 := floodAtSwitch s.nd.nodes s2
  let s4 := if (settings s3).autoHeader && !(settings s).autoHeader then policyAgain s3 else s3
  judgeAbsence s4

/-- The switch of a pending commit at a round start whose number is now in force (R168). -/
def switchBank (s : State) : State :=
  match commitRefusal s with
  | none =>
    let s1 := installBank s
    { s1 with ts := { s1.ts with outcome := .switched s1.rt.number } }
  | some (r, d) => { s with ts := { s.ts with commitPending := false, outcome := refusedOutcome r d } }

/-- DISCARD (R163). -/
def discardStaging (s : State) : State :=
  { s with ts := { s.ts with
      staging := s.ts.active
      commitPending := false
      outcome := if s.ts.commitPending then .cancelled else s.ts.outcome } }

end Sys2Proof.Machine
end

