-- ==== Sys2Proof/Machine/Rounds.lean ====
section
/-! DEFINITION. The Round Timer and what a round start brings to every block (section 1.1, R5, R16, R168, R179). -/

namespace Sys2Proof.Machine

open Sys2Proof

/-! ### The legs at a round start (R5, R16) -/

/-- Changes every Leg Engine. -/
def mapLegs (f : Leg → LegEngine → LegEngine) (q : Quad LegEngine) : Quad LegEngine :=
  ⟨f 0 q.l0, f 1 q.l1, f 2 q.l2, f 3 q.l3⟩

/-- A Leg Engine with its poll list built afresh (R5). -/
def buildPollList (b : Bank) (l : Leg) (e : LegEngine) : LegEngine :=
  let list := (legNodes b l).map (·.1)
  { e with pollList := list, cursor := 0, finished := decide (list = []) }

/-- Every Leg Engine builds its poll list from the bank in force (R5). -/
def buildPollLists (s : State) : State :=
  { s with le := { s.le with legs := mapLegs (buildPollList s.ts.active) s.le.legs } }

/-- The lowest leg whose stuck flag is set. -/
def lowestStuck (q : Quad LegEngine) : Option Nat :=
  (allLegs.find? fun l => (quadGet q l).stuck).map (·.val)

/-- ALERT_STUCK follows the stuck flags (R16). -/
def updateStuck (b : LegBlock) : LegBlock := { b with stuck := follow b.stuck (lowestStuck b.legs) }

/-- A leg's sweep count of the ended round is judged and set to 0 (R16). -/
def judgeSweepCount (e : LegEngine) : LegEngine :=
  { e with stuck := e.stuck && decide (4 < e.sweepCount), sweepCount := 0, alertsIgnored := false }

/-- Every leg's sweep count is judged (R16). -/
def judgeSweepCounts (s : State) : State :=
  { s with le := updateStuck { s.le with legs := mapLegs (fun _ e => judgeSweepCount e) s.le.legs } }

/-- All four legs have reported finished. -/
def allFinished (s : State) : Bool := allLegs.all fun l => (quadGet s.le.legs l).finished

/-! ### Round close and round start -/

/-- A round that closes before its tick passes is not late (R4). -/
def closeOnTime (s : State) : State :=
  { s with rt := { s.rt with
      late := 0
      overrun := if s.rt.overrun.active then settleClear s.rt.overrun else s.rt.overrun } }

/-- A round whose poll lists are all empty closes as it starts (R5). -/
def closeIfDone (s : State) : State := if allFinished s then closeOnTime s else s

/-- The round number advances and the ended round is noted (R2, R3). -/
def advanceRound (s : State) : State :=
  { s with rt := { s.rt with
      number := s.rt.number + 1
      start := some s.clock
      tickPassed := false
      ended := some ⟨s.rt.number, s.clock - s.rt.start.getD 0⟩ } }

/-- The elapsed time of the latest ended round. -/
def endedElapsed (s : State) : Nat :=
  match s.rt.ended with
  | some e => e.elapsed
  | none => 0

/-- The number of the latest ended round. -/
def endedNumber (s : State) : Half :=
  match s.rt.ended with
  | some e => e.number
  | none => 0

/-- The NODE_BACK marks of the current round become those of the ended round (R190). -/
def shiftBack (s : State) : State := { s with nd := { s.nd with backEnded := s.nd.backNow, backNow := [] } }

/-- A pending commit is judged and switched (R168). -/
def switchIfPending (s : State) : State := if s.ts.commitPending then switchBank s else s

/-- The period of the bank in force governs the new round (R2). -/
def takePeriod (s : State) : State := { s with rt := { s.rt with period := some (settings s).period } }

/-- The ROUND SUMMARY becomes pending when summary is on for the new round (R179). -/
def summaryStart (s : State) : State :=
  if (settings s).summary then { s with ti := { s.ti with summaryDue := true } } else s

/-- A round start after the first (R2).  The blocks that judge the ended round do so against the outgoing bank; then
a pending commit switches; then the new round is prepared (notes/assumptions/10.md). -/
def startRound (s : State) : State :=
  let s1 := judgeSweepCounts (advanceRound s)
  let s2 := dripRoundStart (endedNumber s1) (flowRoundStart (endedElapsed s1) s1)
  closeIfDone (summaryStart (buildPollLists (takePeriod (switchIfPending (shiftBack s2)))))

/-- The first commit after a reset takes effect: the bank switches at once and round 0 starts (R1, R59, R167). -/
def firstRound (s : State) : State :=
  let s1 : State := { s with rt := { s.rt with running := true, start := some s.clock } }
  let s2 := installBank s1
  let s3 : State := { s2 with ts := { s2.ts with outcome := .switched s2.rt.number } }
  closeIfDone (buildPollLists (takePeriod (firstMeters s3)))

/-- The last leg has reported finished: the round closes, and the next starts at once when the tick has passed
(R2, R4). -/
def closeRound (s : State) : State :=
  if s.rt.running then (if s.rt.tickPassed then startRound s else closeOnTime s) else s

/-- The moment of the current round's period tick. -/
def tickTime (s : State) : Nat := s.rt.start.getD 0 + s.rt.period.getD 0

/-- The period tick of an open round: it is late (R4). -/
def lateTick (s : State) : State :=
  let late := heldAt 15 (s.rt.late + 1)
  { s with rt := { s.rt with
      late := late
      tickPassed := true
      overrun := if (settings s).overrunRounds ≤ late ∧ ¬ s.rt.overrun.active then raise late else s.rt.overrun } }

/-- The period tick falls due (R4).  On a closed round the tick is the moment of the next ROUND_START. -/
def periodTick (s : State) : State :=
  if s.rt.running ∧ ¬ s.rt.tickPassed then
    let s1 := reachTime (tickTime s) s
    if allFinished s then s1 else lateTick s1
  else s

/-- The next round starts at the tick of a round that has closed (R2). -/
def nextRound (s : State) : State :=
  if s.rt.running ∧ allFinished s then startRound (reachTime (tickTime s) s) else s

end Sys2Proof.Machine
end

