-- ==== Sys2Proof/Machine/Legs.lean ====
section
/-! DEFINITION. The Leg Engines: transaction boundaries, transactions and their outcomes, ALERT and sweeps, the relay
in progress, and discovery (sections 1.2, 1.3, 1.5, 1.6, 1.7). -/

namespace Sys2Proof.Machine

open Sys2Proof

/-! ### One engine -/

/-- The engine of a leg. -/
def legAt (s : State) (l : Leg) : LegEngine := quadGet s.le.legs l

/-- Changes the engine of a leg. -/
def setLeg (l : Leg) (f : LegEngine → LegEngine) (s : State) : State :=
  { s with le := { s.le with legs := quadMap s.le.legs l f } }

/-- The engine starts a request (R7). -/
def startTxn (l : Leg) (p : Purpose) (k : NodeKey) (f : Frame) (s : State) : State :=
  setLeg l (fun e => { e with txn := some ⟨p, k, f, .sending⟩ }) s

/-- A POLL to a node. -/
def pollFrame (s : State) (k : NodeKey) : Frame := legFrame s.ti.position k kindPoll []

/-! ### Transaction boundaries (R6) -/

/-- 5: the next IDENT REQUEST of a discovery.  The next address stays 30 once 30 has been asked
(notes/assumptions/16.md). -/
def boundaryDiscovery (l : Leg) (s : State) : State :=
  let e := legAt s l
  if e.discovering then
    let k : NodeKey := ⟨l, e.nextAddress⟩
    setLeg l (fun e => { e with nextAddress := heldAt 30 (e.nextAddress + 1) })
      (startTxn l .discovery k (legFrame s.ti.position k kindIdentRequest []) s)
  else s

/-- 4: the poll list entry at the cursor. -/
def boundaryPoll (l : Leg) (s : State) : State :=
  let e := legAt s l
  match (e.pollList[e.cursor]?).bind (keyAt s.ts.active) with
  | some k =>
    setLeg l (fun e => { e with cursor := e.cursor + 1 }) (startTxn l .poll k (pollFrame s k) s)
  | none => boundaryDiscovery l s

/-- The inner frame is a VALVE SET to a valve of the Node Table in force (R18). -/
def relayHeld (s : State) (k : NodeKey) (inner : Frame) : Bool := decide (inner.kind = kindValveSet) && isValve s.ts.active k

/-- 3: the relay slot.  A relay refused HELD sends no frame, and the boundary goes on (R18). -/
def boundaryRelay (l : Leg) (s : State) : State :=
  match s.ti.slot with
  | .relay k inner false =>
    if k.leg = l then
      if relayHeld s k inner then boundaryPoll l (placeDue (relayResult .held) s)
      else startTxn l (.relay false) k inner { s with ti := { s.ti with slot := .relay k inner true } }
    else boundaryPoll l s
  | _ => boundaryPoll l s

/-- The addresses of a leg's alert-capable DRIP nodes in poll list order (R15). -/
def sweepList (b : Bank) (l : Leg) : List Nat :=
  ((legNodes b l).filter fun p =>
    match dripFields p.2 with
    | some d => d.alertCapable
    | none => false).map fun p => p.2.key.node

/-- A sweep begins: the alert flag is cleared, the sweep counted and its list taken (R15); a fifth sweep of a round
has ALERT ignored and the leg stuck (R16). -/
def beginSweep (b : Bank) (l : Leg) (e : LegEngine) : LegEngine :=
  let count := heldAt 5 (e.sweepCount + 1)
  let list := sweepList b l
  { e with
    alertFlag := false
    sweepAgain := e.sweepAgain && !decide (count = 5)
    sweepCount := count
    sweep := if list = [] then none else some ⟨list, 0⟩
    alertsIgnored := e.alertsIgnored || decide (count = 5)
    stuck := e.stuck || decide (count = 5) }

/-- The next POLL of the sweep in progress; `none` when no sweep waits. -/
def sweepPoll (l : Leg) (s : State) : Option State :=
  match (legAt s l).sweep with
  | some w =>
    match w.list[w.cursor]? with
    | some n =>
      let k : NodeKey := ⟨l, n⟩
      some (setLeg l (fun e => { e with sweep := some { w with cursor := w.cursor + 1 } })
        (startTxn l .sweep k (pollFrame s k) s))
    | none => none
  | none => none

/-- The state in which the sweep that this boundary begins, when it begins one, has begun (R15, R16). -/
def sweepBegun (l : Leg) (s : State) : State :=
  let e := legAt s l
  if e.sweep.isNone ∧ e.alertFlag then
    let s1 := setLeg l (beginSweep s.ts.active l) s
    { s1 with le := updateStuck s1.le }
  else s

/-- 2: the next poll of a sweep in progress, or the first poll of a new sweep.  A sweep whose list is empty ends at
the boundary that began it, which goes on (R15). -/
def boundarySweep (l : Leg) (s : State) : State :=
  let s1 := sweepBegun l s
  match sweepPoll l s1 with
  | some s2 => s2
  | none => boundaryRelay l s1

/-- A VALVE SET (R131). -/
def valveSetFrame (s : State) (a : ActionEntry) (limit : Nat) : Frame :=
  legFrame s.ti.position a.key kindValveSet [targetCode (some a.target), a.tag, byte limit]

/-- 1: the head entry of the Action Queue (R131). -/
def boundaryQueue (l : Leg) (s : State) : State :=
  match takeHead l s.vs with
  | some (a, v) =>
    let limit := strokeLimitOf s.ts.active a.key
    startTxn l (.valveSet a.tag limit) a.key (valveSetFrame s a limit) { s with vs := v }
  | none => boundarySweep l s

/-- The engine may start a request: no transaction in flight, the line neither held in ALERT nor disregarded
(R6, R7, R13). -/
def legReady (e : LegEngine) : Bool := e.txn.isNone && !e.alertHeld && !e.disregard

/-- A boundary of the leg; an engine that may not start a request does nothing (R6). -/
def boundary (l : Leg) (s : State) : State := if legReady (legAt s l) then boundaryQueue l s else s

/-- A boundary of every leg that is idle, in leg order: work that has arrived is taken at once (R6). -/
def boundaries (s : State) : State := allLegs.foldl (fun s l => boundary l s) s

/-! ### Outcomes (R8, R9, R19, R22) -/

/-- The kind a request expects; a relay takes any. -/
def expectedKind : Purpose → Option Byte
  | .poll => some kindSample
  | .sweep => some kindSample
  | .valveSet _ _ => some kindValveAck
  | .relay _ => none
  | .discovery => some kindIdentReply

/-- A valid reply to a transaction, with its bytes (R8). -/
def validReply (t : Txn) (bytes : List Byte) : Option (Frame × List Byte) :=
  match checkFrame bytes with
  | .good f =>
    if f.place = placeByte t.key ∧ (expectedKind t.purpose).all (fun k => decide (f.kind = k)) then some (f, bytes) else none
  | _ => none

/-- Byte `i` of a payload; one the spec gives no value for where the payload is too short
(notes/assumptions/8.md). -/
def openByte (free i : Nat) (payload : List Byte) : Byte := payload.getD i (Config.freeByte free i)

/-- Uses an open value when `b` holds. -/
def useFreeIf (b : Bool) (s : State) : State := if b then useFree s else s

/-- The payload of a VALVE ACK leaves its meaning open: it is shorter than two bytes, or its result code is
undefined. -/
def ackOpen (payload : List Byte) : Bool :=
  match payload with
  | _ :: r :: _ => (flagOf r).isNone
  | _ => true

/-- The tag of a VALVE ACK and whether it accepts (Table 10-3).  DESIGN CHOICE: of a payload longer than two bytes the
first two are read (notes/assumptions/8.md). -/
def ackOf (free : Nat) (payload : List Byte) : Byte × Bool :=
  (openByte free 0 payload,
    match flagOf (openByte free 1 payload) with
    | some refused => !refused
    | none => Config.freeFlag free)

/-- The outcome of a VALVE SET, handed to the Valve Supervisor and then to the Node Directory
(R9, notes/assumptions/11.md). -/
def setOutcome (k : NodeKey) (tag : Byte) (limit : Nat) (reply : Option Frame) (s : State) : State :=
  match reply with
  | some f =>
    nodeOutcome k true (valveOutcome k tag limit (some (ackOf s.free f.payload)) (useFreeIf (ackOpen f.payload) s))
  | none => nodeOutcome k false (valveOutcome k tag limit none s)

/-- The payload of the RELAY REPLY to a relay that ends (R19). -/
def relayPayload (reply : Option (Frame × List Byte)) : List Byte :=
  match reply with
  | some (_, bytes) =>
    if bytes.length ≤ 239 then resultCode .ok :: bytes else resultCode .partialLoad :: bytes.take 239
  | none => [resultCode .timeout]

/-- The Presence List entry of a valid IDENT REPLY (R22).  DESIGN CHOICE: of a payload longer than five bytes the first
five are read (notes/assumptions/8.md). -/
def presenceEntry (free node : Nat) (payload : List Byte) : PresenceEntry :=
  ⟨node, identKindOf (openByte free 0 payload), [1, 2, 3, 4].map fun i => openByte free i payload⟩

/-- The outcome of a discovery transaction (R22). -/
def discoveryOutcome (k : NodeKey) (reply : Option Frame) (s : State) : State :=
  let s1 :=
    match reply with
    | some f =>
      useFreeIf (decide (f.payload.length < 5))
        (setLeg k.leg (fun e => { e with presence := e.presence ++ [presenceEntry s.free k.node f.payload] }) s)
    | none => s
  if k.node = 30 then setLeg k.leg (fun e => { e with discovering := false }) s1 else s1

/-- The outcome of an ended transaction goes to the block that owns its purpose (R9). -/
def deliver (t : Txn) (reply : Option (Frame × List Byte)) (s : State) : State :=
  match t.purpose with
  | .poll => match reply with | some (f, _) => takeSample t.key f.payload s | none => nodeOutcome t.key false s
  | .sweep => match reply with | some (f, _) => takeSample t.key f.payload s | none => nodeOutcome t.key false s
  | .valveSet tag limit => setOutcome t.key tag limit (reply.map (·.1)) s
  | .relay dropped => if dropped then s else placeDue (.relayReply (relayPayload reply)) s
  | .discovery => discoveryOutcome t.key (reply.map (·.1)) s

/-! ### The end of a transaction (R5, R7, R15) -/

/-- The last transaction of a poll list has ended: the leg reports finished (R5). -/
def finishPoll (e : LegEngine) : LegEngine := { e with finished := decide (e.pollList.length ≤ e.cursor) }

/-- The last transaction of a sweep has ended: the sweep ends, and a set sweep-again flag sets the alert flag
(R15). -/
def finishSweep (e : LegEngine) : LegEngine :=
  match e.sweep with
  | some w =>
    if w.list.length ≤ w.cursor then { e with sweep := none, sweepAgain := false, alertFlag := e.alertFlag || e.sweepAgain }
    else e
  | none => e

/-- The transaction of a leg ends with a valid reply or a miss; the next boundaries follow. -/
def endTxn (l : Leg) (t : Txn) (reply : Option (Frame × List Byte)) (s : State) : State :=
  let s1 := deliver t reply (setLeg l (fun e => { e with txn := none }) s)
  match t.purpose with
  | .poll =>
    let s2 := setLeg l finishPoll s1
    if allFinished s2 then closeRound s2 else s2
  | .sweep => setLeg l finishSweep s1
  | _ => s1

/-- The moment at which the response window of a transaction expires, once it has opened (R7). -/
def windowEnd (t : Txn) : Option Nat :=
  match t.phase with
  | .sending => none
  | .window opened limit => some (opened + limit)

/-- The transaction of a leg whose response window has opened. -/
def windowTxn (s : State) (l : Leg) : Option Txn := (legAt s l).txn.filter fun t => (windowEnd t).isSome

/-- The response window of a transaction opens at the clock reading `now`, for `w` milliseconds; an open one stays as
it is. -/
def openWindow (now w : Nat) (t : Txn) : Txn :=
  match t.phase with
  | .sending => { t with phase := .window now w }
  | .window _ _ => t

/-- The last request byte has been sent: the response window opens for the W in force (R7). -/
def requestSent (l : Leg) (s : State) : State :=
  setLeg l (fun e => { e with txn := e.txn.map (openWindow s.clock (settings s).window) }) s

/-- A reply that began within the window reaches its last byte.  A line that carries a reply is not held in ALERT
(notes/assumptions/12.md). -/
def replyEnd (l : Leg) (bytes : List Byte) (s : State) : State :=
  match windowTxn s l with
  | some t => endTxn l t (validReply t bytes) (setLeg l (fun e => { e with alertHeld := false }) s)
  | none => s

/-- Bytes that are no reply begin on the line: the engine disregards them, and starts no request before the line has
been idle (R6, R7).  A line held in ALERT carries no bytes. -/
def strayBytes (e : LegEngine) : LegEngine := { e with disregard := e.disregard || !e.alertHeld }

/-- The moment W after its opening, the window expires with no reply begun.  `stray` bytes begin now; on a leg that is
idle, its window expired before, they are all that happens (R7, notes/assumptions/26.md). -/
def windowExpiry (l : Leg) (stray : Bool) (s : State) : State :=
  let begun := fun (s : State) => if stray then setLeg l strayBytes s else s
  match (legAt s l).txn with
  | none => begun s
  | some t =>
    match windowEnd t with
    | some m => endTxn l t none (begun (reachTime m s))
    | none => s

/-- The line has been idle for more than 2 byte times: it ends the disregarding of the line, or a broken or overlong
reply (R7). -/
def lineIdle (l : Leg) (after : LineEnd) (s : State) : State :=
  if (legAt s l).disregard then setLeg l (fun e => { e with disregard := false }) s
  else
    match after, windowTxn s l with
    | .strayBytes, _ => s
    | _, some t => endTxn l t none (setLeg l (fun e => { e with alertHeld := false }) s)
    | _, none => s

/-! ### ALERT (R13, R14) -/

/-- The effect of a recognized ALERT on the engine's flags (R14). -/
def alertFlags (e : LegEngine) : LegEngine :=
  if e.alertsIgnored then e
  else if e.sweep.isNone then { e with alertFlag := true }
  else { e with sweepAgain := true }

/-- The leg is idle or in a turnaround gap, its line neither held already nor carrying bytes: an ALERT can be
recognized (R13).  DESIGN CHOICE: while the engine waits for the line to go idle (R7) none is, and a hold that begins then
is not registered (notes/assumptions/12.md). -/
def alertSeen (arriving : Bool) (e : LegEngine) : Bool :=
  !arriving && !e.alertHeld && !e.disregard &&
    match e.txn with
    | none => true
    | some t => (windowEnd t).isSome

/-- Both wires are held low (R13); while rounds are not running the flags do not move. -/
def alertBegins (h : WireHold) (s : State) : State :=
  if alertSeen h.arriving (legAt s h.leg) then
    setLeg h.leg (fun e => { (if s.rt.running then alertFlags e else e) with alertHeld := true }) s
  else s

/-- The line is released (R13). -/
def alertEnds (l : Leg) (s : State) : State := setLeg l (fun e => { e with alertHeld := false }) s

/-! ### DISCOVER (R21) -/

/-- DISCOVER of a leg: the result, and the state in which discovery has begun. -/
def discoverLeg (leg : Byte) (s : State) : State × Result :=
  match legOfNat leg.toNat with
  | none => (s, .badArgument)
  | some l =>
    if (legAt s l).discovering then (s, .busy)
    else (setLeg l (fun e => { e with presence := [], nextAddress := 1, discovering := true }) s, .ok)

end Sys2Proof.Machine
end

