-- ==== Sys2Proof/Machine/Arbiters.lean ====
section
/-! DEFINITION. The transmit arbiters of the two trunk ports, the HOLD outputs and ALARM (R123, R177 to R180). -/

namespace Sys2Proof.Machine

open Sys2Proof

/-- A grant: the frame the transmitter sends, and the state with the item taken from its source. -/
abbrev Grant := Sending × State

/-- A local report granted to the rack controller. -/
def granted (f : Frame) (s : State) : Option Grant := some (⟨f, false⟩, s)

/-- Another choice when there is no grant. -/
def orGrant (a b : Option Grant) : Option Grant :=
  match a with
  | some g => some g
  | none => b

/-! ### Source A: local alarm items -/

/-- The cleared queue's oldest entry (R121). -/
def grantCleared (s : State) : Option Grant :=
  match s.ie.cleared with
  | c :: rest =>
    granted (unitFrame s.ti.position kindIncidentReport (clearedPayload c)) { s with ie := { s.ie with cleared := rest } }
  | [] => none

/-- The oldest open incident whose report is pending (R121, R122). -/
def grantIncident (s : State) : Option Grant :=
  match s.ie.incidents.find? (·.pending) with
  | some i =>
    granted (unitFrame s.ti.position kindIncidentReport (incidentPayload s i))
      (modIncident i.id (fun j => { j with pending := false }) s)
  | none => none

/-- The grant of a condition's report reads an open value (notes/assumptions/8.md). -/
def conditionOpen (s : State) (u : UnitCondition) : Bool :=
  decide (u = .incidentOverflow) && s.ie.overflowReq && (s.ie.overflowBy.bind (indexOf s.ts.active)).isNone

/-- The first pending UNIT CONDITION in code order (R191). -/
def grantCondition (s : State) : Option Grant :=
  match allConditions.find? fun u => (conditionOf s u).pending with
  | some u =>
    granted (unitFrame s.ti.position kindUnitCondition (conditionPayload s u))
      (useFreeIf (conditionOpen s u) (clearConditionPending u s))
  | none => none

/-- The lowest branch with a pending cooling notice (R120). -/
def pendingNotice (s : State) : Option (BranchId × Notice) :=
  (branchList s.ts.active).findSome? fun p =>
    match assocGet p.2 s.ie.notices with
    | some n => if n.pending then some (p.2, n) else none
    | none => none

/-- The first pending COOLING NOTICE (R120). -/
def grantNotice (s : State) : Option Grant :=
  match pendingNotice s with
  | some (b, n) =>
    granted (unitFrame s.ti.position kindCoolingNotice (noticePayload s b n))
      { s with ie := { s.ie with notices := assocMap b (fun n => { n with pending := false }) s.ie.notices } }
  | none => none

/-- Source A.  An unnumbered unit grants no report (R175). -/
def grantAlarm (s : State) : Option Grant :=
  if s.ti.position.isNone then none
  else orGrant (grantCleared s) (orGrant (grantIncident s) (orGrant (grantCondition s) (grantNotice s)))

/-! ### DROP REPORTs (R41) -/

/-- The node with the lowest index whose pending DROP REPORT goes to a position that `dir` admits: its index, record,
runtime and the position. -/
def pendingDrop (dir : Nat → Bool) (s : State) : Option (Nat × NodeRec × NodeRun × Nat) :=
  s.ts.active.nodes.findSome? fun p =>
    match dripFields p.2, assocGet p.2.key s.nd.nodes with
    | some d, some n =>
      let u := resolveUnit s.ti.position d.evUnit
      if n.evPending ∧ u ≠ 0 ∧ dir u then some (p.1, p.2, n, u) else none
    | _, _ => none

/-- The frame of a DROP REPORT. -/
def dropFrame (s : State) (i : Nat) (r : NodeRec) (n : NodeRun) (u : Nat) : Frame :=
  ⟨byte u, unitByte s.ti.position, placeByte r.key, kindDropReport, dropPayload i n⟩

/-- The grant of a DROP REPORT clears its material but for level and stamp. -/
def dropGranted (r : NodeRec) (s : State) : State :=
  setNode r.key (fun n => { n with evPending := false, pendDrops := 0, pendOnset := false }) s

/-- The first pending DROP REPORT in one direction. -/
def grantDrop (dir : Nat → Bool) (s : State) : Option Grant :=
  match pendingDrop dir s with
  | some (i, r, n, u) => granted (dropFrame s i r n u) (dropGranted r s)
  | none => none

/-- Source D: DROP REPORTs to lower positions. -/
def grantDropUp (s : State) : Option Grant :=
  match s.ti.position with
  | some p => grantDrop (fun u => decide (u < p)) s
  | none => none

/-- DROP REPORTs to higher positions. -/
def grantDropDown (s : State) : Option Grant :=
  match s.ti.position with
  | some p => grantDrop (fun u => decide (p < u)) s
  | none => none

/-! ### Source F: local routine items -/

/-- The ROUND SUMMARY (R179). -/
def grantSummary (s : State) : Option Grant :=
  if s.ti.summaryDue then
    granted (unitFrame s.ti.position kindRoundSummary (summaryPayload s)) { s with ti := { s.ti with summaryDue := false } }
  else none

/-- The node with the lowest index whose MIRROR is pending. -/
def pendingMirror (s : State) : Option (Nat × NodeRec × LastSample) :=
  s.ts.active.nodes.findSome? fun p =>
    match assocGet p.2.key s.nd.nodes with
    | some n => if n.mirrorPending then n.last.map fun m => (p.1, p.2, m) else none
    | none => none

/-- The first pending MIRROR (R44). -/
def grantMirror (s : State) : Option Grant :=
  match pendingMirror s with
  | some (i, r, m) =>
    granted ⟨0, unitByte s.ti.position, placeByte r.key, kindMirror, mirrorPayload i (nodeKind r) m⟩
      (setNode r.key
        (fun n => { n with mirrorPending := false, lastMirrored := mirrorValue (nodeKind r) m.verdict m.payload }) s)
  | none => none

/-- Source F. -/
def grantRoutine (s : State) : Option Grant :=
  if s.ti.position.isNone then none else orGrant (grantSummary s) (grantMirror s)

/-! ### Sources B, E and C -/

/-- The head of UF. -/
def grantUf (s : State) : Option Grant :=
  match s.ti.uf with
  | f :: rest => granted f { s with ti := { s.ti with uf := rest } }
  | [] => none

/-- The head of UR. -/
def grantUr (s : State) : Option Grant :=
  match s.ti.ur with
  | f :: rest => granted f { s with ti := { s.ti with ur := rest } }
  | [] => none

/-- A reply that waits for the place is built as the place is freed (R181). -/
def refillPlace (s : State) : State :=
  match s.ti.slot with
  | .due d => fillPlace d s
  | _ => s

/-- The reply place; the reply carries the position at the grant as its source (R179). -/
def grantReply (s : State) : Option Grant :=
  match s.ti.reply with
  | some r =>
    some (⟨{ r.frame with src := unitByte s.ti.position }, r.reset⟩,
      refillPlace { s with ti := { s.ti with reply := none } })
  | none => none

/-! ### The upper arbiter (R178) -/

/-- The toggle of A and B names A. -/
def nameA (b : Bool) (g : Grant) : Grant := (g.1, { g.2 with ti := { g.2.ti with lastWasA := b } })

/-- The toggle of E and F names E. -/
def nameE (b : Bool) (g : Grant) : Grant := (g.1, { g.2 with ti := { g.2.ti with lastWasE := b } })

/-- A pair of sources: when both wait, the one not granted last; `name` moves the toggle. -/
def alternate (lastFirst : Bool) (name : Bool → Grant → Grant) (x y : Option Grant) : Option Grant :=
  match x, y with
  | some g, none => some (name true g)
  | none, some h => some (name false h)
  | some g, some h => if lastFirst then some (name false h) else some (name true g)
  | none, none => none

/-- The upper arbiter's choice: A or B, then C, then D, then E or F. -/
def pickUpper (s : State) : Option Grant :=
  orGrant (alternate s.ti.lastWasA nameA (grantAlarm s) (grantUf s))
    (orGrant (grantReply s)
      (orGrant (grantDropUp s) (alternate s.ti.lastWasE nameE (grantUr s) (grantRoutine s))))

/-- The upper transmitter is free and HOLD from above is released. -/
def upperReady (s : State) : Bool := s.ti.upperTx.isNone && !s.pins.holdFromAbove

/-- The upper arbiter grants a frame whenever it may. -/
def grantUpper (s : State) : State :=
  if upperReady s then
    match pickUpper s with
    | some (x, s') => { s' with ti := { s'.ti with upperTx := some x } }
    | none => s
  else s

/-! ### The lower arbiter (R180) -/

/-- The onward NUMBER (R182). -/
def grantOnward (s : State) : Option Grant :=
  match s.ti.onward with
  | some p =>
    granted ⟨255, unitByte s.ti.position, unitPlace, kindNumber, [p]⟩ { s with ti := { s.ti with onward := none } }
  | none => none

/-- The head of DF. -/
def grantDf (s : State) : Option Grant :=
  match s.ti.df with
  | f :: rest => granted f { s with ti := { s.ti with df := rest } }
  | [] => none

/-- The toggle of DF and the DROP REPORTs names DF. -/
def nameDf (b : Bool) (g : Grant) : Grant := (g.1, { g.2 with ti := { g.2.ti with lastWasDf := b } })

/-- The lower arbiter's choice. -/
def pickLower (s : State) : Option Grant :=
  orGrant (grantOnward s) (alternate s.ti.lastWasDf nameDf (grantDf s) (grantDropDown s))

/-- The lower transmitter is free and HOLD from below is released. -/
def lowerReady (s : State) : Bool := decide (s.ti.lowerTx = .free) && !s.pins.holdFromBelow

/-- The lower arbiter grants a frame whenever it may. -/
def grantLower (s : State) : State :=
  if lowerReady s then
    match pickLower s with
    | some (x, s') => { s' with ti := { s'.ti with lowerTx := .frame x.frame } }
    | none => s
  else s

/-! ### Outputs, and the end of a step -/

/-- ALARM and the HOLD outputs as the state gives them (R123, R177). -/
def setOutputs (s : State) : State :=
  { s with pins := { s.pins with
      alarm := alarmDue s
      holdToAbove := decide (7 ≤ s.ti.df.length)
      holdToBelow := decide (7 ≤ s.ti.uf.length ∨ 7 ≤ s.ti.ur.length) } }

/-- The end of a step: each free transmitter is granted a frame, and the outputs follow
(notes/assumptions/9.md). -/
def settle (s : State) : State := setOutputs (grantLower (grantUpper s))

/-- The end of a step that may bring work to the legs. -/
def settleAll (s : State) : State := settle (boundaries s)

end Sys2Proof.Machine
end

