-- ==== Sys2Proof/Machine/Loading.lean ====
section
/-! DEFINITION. The records of a LOAD TABLE as they arrive (R158 to R161). -/

namespace Sys2Proof.Machine

open Sys2Proof

/-! ### First bytes (R158) -/

/-- The judgement of a LOAD TABLE's first bytes: the table it loads, or the result that refuses it; `short` of a frame
that passes addressing and guard and ends before the rest can be judged. -/
inductive LoadJudgement where
  | accept (t : TableId)
  | short
  | refuse (r : Result)
  deriving DecidableEq, Repr

/-- Table id and first index, as far as they arrive, in this order. -/
def judgeTable (table first : Option Byte) : LoadJudgement :=
  match table with
  | none => .short
  | some b =>
    match tableOf b with
    | none => .refuse .badArgument
    | some t =>
      match first with
      | none => .short
      | some i => if lastIndex t < i.toNat then .refuse .badArgument else .accept t

/-- Addressing, guard, table id and first index, in this order; the first two are judged at the command code, whatever
arrives after it. -/
def judgeLoad (s : State) (dest : Byte) (table first : Option Byte) : LoadJudgement :=
  if dest = 255 then .refuse .badArgument
  else if guardForbids s then .refuse .guarded
  else judgeTable table first

/-- A load whose first bytes have arrived. -/
def freshLoad (hdr : Header) (mode : LoadMode) (table first : Option Byte) : Load :=
  { hdr := hdr, mode := mode, table := table, first := first,
    payload := codeLoadTable :: (table.toList ++ first.toList), applied := 0, clamped := 0,
    next := (first.getD 0).toNat, stop := none }

/-! ### Records (R159, R160) -/

/-- Processing ends early. -/
def stopLoad (why : LoadStop) (p : Load × Bank) : Load × Bank := ({ p.1 with stop := some why }, p.2)

/-- Judges one whole record, its CRC-8 included, against the load and the staging bank.  DESIGN CHOICE: a refused
record adds nothing to the count of clamped fields (notes/assumptions/31.md). -/
def judgeRecord (t : TableId) (rec : List Byte) (p : Load × Bank) : Load × Bank :=
  let content := rec.dropLast
  if rec.getLast? ≠ some (crc8 content) then stopLoad .checkFailed p
  else if lastIndex t < p.1.next then stopLoad .badRecord p
  else
    match parseRecord t content with
    | none => stopLoad .badRecord p
    | some (r, c) =>
      ({ p.1 with applied := p.1.applied + 1, clamped := p.1.clamped + c, next := p.1.next + 1 },
        putRecord t p.1.next r p.2)

/-- Takes whole records from bytes that begin at a record's first byte; `fuel` bounds their number.  A record cut
part way is not applied. -/
def takeRecords (t : TableId) : Nat → List Byte → Load × Bank → Load × Bank
  | 0, _, p => p
  | fuel + 1, bs, p =>
    if p.1.stop.isSome then p
    else
      match recordSize t bs with
      | .unknown => p
      | .bad => stopLoad .badRecord p
      | .bytes n =>
        if bs.length < n then p else takeRecords t fuel (bs.drop n) (judgeRecord t (bs.take n) p)

/-- The bytes of a load in reception are taken: kept for the payload CRC, and as records when it is accepted. -/
def feedLoad (bytes : List Byte) (p : Load × Bank) : Load × Bank :=
  let q : Load × Bank := ({ p.1 with payload := p.1.payload ++ bytes }, p.2)
  match p.1.mode with
  | .accepted t => takeRecords t (bytes.length + 1) bytes q
  | _ => q

/-- Bytes of the LOAD TABLE in reception arrive. -/
def loadBytes (bytes : List Byte) (s : State) : State :=
  match s.ti.load with
  | none => s
  | some l =>
    let p := feedLoad bytes (l, s.ts.staging)
    { s with ti := { s.ti with load := some p.1 }, ts := { s.ts with staging := p.2 } }

/-! ### The end of the frame (R161) -/

/-- How the frame ended as the reply carries it: whole, and the payload CRC verdict.  The verdict on a broken frame,
whose CRC has not arrived, is an open value (notes/assumptions/8.md). -/
def loadVerdict (free : Nat) (payload : List Byte) (e : LoadEnding) : Bool × Bool :=
  match e with
  | .whole c => (true, decide (c ≠ crc16 payload))
  | .broken => (false, Config.freeFlag free)
  | .overlong c => (false, decide (c ≠ crc16 payload))

/-- The frame ended whole with a good payload CRC. -/
def loadGood (payload : List Byte) (e : LoadEnding) : Bool :=
  match e with
  | .whole c => decide (c = crc16 payload)
  | _ => false

/-- The result of a LOAD TABLE in the slot (R161). -/
def loadResult (stop : Option LoadStop) (whole failed : Bool) : Result :=
  match stop with
  | some .badRecord => .badRecord
  | some .checkFailed => .partialLoad
  | none => if whole && !failed then .ok else .partialLoad

/-- The LOAD TABLE data of Table 10-5.  A table id or first index that never arrived is an open value
(notes/assumptions/8.md).  DESIGN CHOICE: processing ended early when a record was refused or failed its
check, and not by the way the frame ended, so the end index is 255 for any other PARTIAL (notes/assumptions/32.md). -/
def loadData (free : Nat) (l : Load) (whole failed : Bool) : List Byte :=
  [l.table.getD (Config.freeByte free 0), l.first.getD (Config.freeByte free 1), byte l.applied, flagByte whole, flagByte failed, byte l.clamped,
    if l.stop.isSome then byte l.next else 255]

/-- The reply of R161, built on an open value or on none. -/
def loadOpen (l : Load) (e : LoadEnding) : Bool := decide (e = .broken) || l.table.isNone || l.first.isNone

/-- The reply of a LOAD TABLE in the slot, by R161. -/
def loadReply (free : Nat) (l : Load) (e : LoadEnding) : DueReply :=
  let v := loadVerdict free l.payload e
  commandReply codeLoadTable [] (loadResult l.stop v.1 v.2) (loadData free l v.1 v.2)

/-- The frame error of a LOAD TABLE that does not end whole and good (R172). -/
def loadError (payload : List Byte) (e : LoadEnding) : Option FrameError :=
  match e with
  | .whole c => if c = crc16 payload then none else some .payloadCrc
  | .broken => some .broken
  | .overlong _ => some .overlong

end Sys2Proof.Machine
end

