-- ==== Sys2Proof/Machine/Resets.lean ====
section
/-! DEFINITION. Resets and BREAK (R1, R139, R145, R157, R171, R176, R183, sections 1.2 and 8.1). -/

namespace Sys2Proof.Machine

open Sys2Proof

/-- A Leg Engine after a pin or command reset: a transaction in flight is abandoned, and the line is disregarded until
it has been idle (section 1.2).  A hold of the line goes on. -/
def resetLeg (e : LegEngine) : LegEngine :=
  { LegEngine.reset with alertHeld := e.alertHeld, disregard := e.disregard || e.txn.isSome }

/-- The guard level after a pin or command reset (R171). -/
def resetGuard (g : Guard) : Guard := if g = .fixed then .fixed else .opened

/-- A meter after a reset: the levels of its signals are what the pins show. -/
def resetMeter (m : MeterState) : MeterState := { MeterState.reset with a := m.a, b := m.b }

/-- The pins after a reset: inputs as they stand, outputs released. -/
def resetPins (p : Pins) : Pins := { p with holdToAbove := false, holdToBelow := false, alarm := false }

/-- The Trunk Interface after a pin or command reset: a frame that has begun to leave is sent to its end (R176), and a
BREAK sent or held goes on (notes/assumptions/15.md).  DESIGN CHOICE: a UNIT RESET whose reply is being sent has no
effect of its own after the reset (notes/assumptions/15.md); a LOAD TABLE in reception ends with the reset, one that
passes to another unit too (notes/assumptions/35.md). -/
def resetTrunk (t : TrunkBlock) : TrunkBlock :=
  { TrunkBlock.reset with
    upperTx := t.upperTx.map fun x => { x with reset := false }
    lowerTx := t.lowerTx
    upperBreak := t.upperBreak }

/-- Every block takes its reset values, but for what `keepGuard`, the legs' lines and the trunk's transmitters keep. -/
def resetBlocks (guard : Guard) (legs : LegEngine → LegEngine) (trunk : TrunkBlock) (s : State) : State :=
  { State.reset with
    clock := s.clock
    pins := resetPins s.pins
    le := ⟨mapLegs (fun _ e => legs e) s.le.legs, .clear⟩
    fa := { FlowBlock.reset with supplyMeter := resetMeter s.fa.supplyMeter, returnMeter := resetMeter s.fa.returnMeter }
    vs := { ValveBlock.reset with header := headerReset s.vs.header }
    ts := { TableBlock.reset with guard := guard }
    ti := trunk
    free := s.free
    pending := s.pending }

/-- A pin reset, and a command reset (R1, R181). -/
def resetUnit (s : State) : State := resetBlocks (resetGuard s.ts.guard) resetLeg (resetTrunk s.ti) s

/-- Power-on: also the guard level, the transmitters, the lines and the clock begin anew. -/
def powerUp (s : State) : State := { resetBlocks .opened (fun _ => .reset) .reset s with clock := 0 }

/-! ### BREAK (R183) -/

/-- A relay in progress loses its reply (R20). -/
def dropRelay (e : LegEngine) : LegEngine :=
  { e with txn := e.txn.map fun t =>
      match t.purpose with
      | .relay _ => { t with purpose := .relay true }
      | _ => t }

/-- A UNIT RESET reply stands in the reply place or waits for it. -/
def resetReplyWaits (t : TrunkBlock) : Bool :=
  t.reply.any (·.reset) ||
    match t.slot with
    | .due d => isReset d
    | _ => false

/-- What BREAK on the upper port at the clock reading `now` clears and starts (R183).  DESIGN CHOICE: the slot of a UNIT
RESET whose reply is being sent is cleared too, and its reset still takes effect when the reply has been sent
(notes/assumptions/15.md). -/
def breakTrunk (now : Nat) (t : TrunkBlock) : TrunkBlock :=
  { t with
    uf := [], ur := [], df := [], slot := .empty, load := none, reply := none, lowerTx := .breaking now, upperBreak := true }

/-- BREAK on the upper port; a dropped UNIT RESET reply lets the reset take effect at once. -/
def breakUpper (s : State) : State :=
  if s.ti.upperBreak then s
  else
    let s1 : State := { s with
      ti := breakTrunk s.clock s.ti
      le := { s.le with legs := mapLegs (fun _ e => dropRelay e) s.le.legs } }
    if resetReplyWaits s.ti then resetUnit s1 else s1

/-- The upper transmitter finishes a frame; a UNIT RESET takes effect at the end of its reply (R181). -/
def upperSent (s : State) : State :=
  match s.ti.upperTx with
  | none => s
  | some x =>
    let s1 : State := { s with ti := { s.ti with upperTx := none } }
    if x.reset then resetUnit s1 else s1

/-- The lower transmitter is free again. -/
def freeLower (s : State) : State := { s with ti := { s.ti with lowerTx := .free } }

/-- The lower transmitter finishes a frame. -/
def lowerSent (s : State) : State :=
  match s.ti.lowerTx with
  | .frame _ => freeLower s
  | _ => s

/-- The BREAK sent downward ends 2 ms after its start (R183). -/
def lowerBreakEnd (s : State) : State :=
  match s.ti.lowerTx with
  | .breaking start => freeLower (reachTime (start + 2) s)
  | _ => s

end Sys2Proof.Machine
end

