-- ==== Sys2Proof/Machine/Commands.lean ====
section
/-! DEFINITION. What each command of Table 10-5 does when the command slot hands it to its owning block: the state
after it, its result, and the data fixed then (R186). -/

namespace Sys2Proof.Machine

open Sys2Proof

/-- What carrying out a command gives: the state after it, its result, and the data fixed at that moment. -/
abbrev Carry := State × Result × List Byte

/-- A result without data of its own. -/
def plain (p : State × Result) : Carry := (p.1, p.2, [])

/-- A command that changes nothing and is answered OK. -/
def readOnly (s : State) : Carry := (s, .ok, [])

/-- A command that changes nothing and is answered BAD_ARGUMENT unless its arguments are good. -/
def readWhen (good : Bool) (s : State) : Carry := (s, if good then .ok else .badArgument, [])

/-- STATUS (R188). -/
def carryStatus (s : State) : Carry := readOnly s

/-- The arguments of READ TABLE are accepted (R162). -/
def readTableGood (bank table first count : Byte) : Bool :=
  decide (bank.toNat ≤ 1) && decide (count ≠ 0) &&
    match tableOf table with
    | some t => decide (first.toNat ≤ lastIndex t)
    | none => false

/-- READ TABLE (R162). -/
def carryReadTable (bank table first count : Byte) (s : State) : Carry := readWhen (readTableGood bank table first count) s

/-- COMMIT (R164, R167). -/
def carryCommit (s : State) : Carry :=
  if guardForbids s then (s, .guarded, [])
  else if s.xc.state ≠ .idle ∨ s.ts.commitPending then (s, .busy, [])
  else
    match commitRefusal s with
    | some (r, d) => (s, r, d)
    | none =>
      if s.rt.running then ({ s with ts := { s.ts with commitPending := true } }, .ok, []) else (firstRound s, .ok, [])

/-- DISCARD (R163). -/
def carryDiscard (s : State) : Carry := if guardForbids s then (s, .guarded, []) else (discardStaging s, .ok, [])

/-- PROTECT (R171). -/
def carryProtect (level : Byte) (s : State) : Carry := plain (protectUnit level s)

/-- READ INCIDENTS (R125). -/
def carryReadIncidents (s : State) : Carry := readOnly s

/-- READ INCIDENT (R125). -/
def carryReadIncident (id : Byte) (s : State) : Carry := readWhen (incidentById s id.toNat).isSome s

/-- ISOLATE (R114). -/
def carryIsolate (branch : Byte) (s : State) : Carry := isolateBranch branch.toNat s

/-- RELEASE (R115). -/
def carryRelease (id : Byte) (s : State) : Carry := plain (releaseIncident id.toNat s)

/-- The header drive answers a request. -/
def driveHeader (f : HeaderDrive → HeaderDrive × Result) (s : State) : State × Result :=
  (setHeader (fun h => (f h).1) s, (f s.vs.header).2)

/-- HEADER CLOSE (R140). -/
def carryHeaderClose (s : State) : Carry := plain (driveHeader (closeHeader s.clock (settings s).hdrStroke) s)

/-- An open incident is ESCALATED. -/
def anyEscalated (s : State) : Bool := s.ie.incidents.any fun i => decide (i.state = .escalated)

/-- HEADER OPEN (R141). -/
def carryHeaderOpen (s : State) : Carry :=
  if anyEscalated s then (s, .wrongState, []) else plain (driveHeader (openHeader s.clock (settings s).hdrStroke) s)

/-- The range EXERCISE START asks for, when it is good (R146). -/
def rangeOf (first count : Byte) : Option ExRange :=
  if first = 255 then some .all
  else if first.toNat ≤ 23 ∧ 1 ≤ count.toNat ∧ count.toNat ≤ 24 then some (.span first.toNat count.toNat)
  else none

/-- An exercise at its beginning, its state set from its causes (R146). -/
def newExercise (s : State) (r : ExRange) : ExerciseBlock :=
  resettle
    { state := .running, autoCause := closingIncident s, manualCause := false, abortPending := false, range := some r,
      plan := planOf s.ts.active r, cursor := 0, test := none, results := [], endKind := .none }

/-- The exercise begins: an empty plan ends it at once; a RUNNING one takes its first test (R146). -/
def beginExercise (r : ExRange) (s : State) : State :=
  let s1 : State := { s with xc := newExercise s r }
  if s1.xc.plan = [] then { s1 with xc := endExercise .finished s1.xc } else takeNext s1

/-- EXERCISE START (R146). -/
def carryExerciseStart (first count : Byte) (s : State) : Carry :=
  if s.xc.state ≠ .idle then (s, .busy, [])
  else if s.ts.commitPending then (s, .busy, [])
  else
    match rangeOf first count with
    | none => (s, .badArgument, [])
    | some r => (beginExercise r s, .ok, [])

/-- The manual cause is set or cleared, and the state set again (R153). -/
def manualExercise (b : Bool) (s : State) : Carry :=
  if s.xc.state = .idle then (s, .wrongState, []) else (causesChanged { s.xc with manualCause := b } s, .ok, [])

/-- EXERCISE SUSPEND (R153). -/
def carryExerciseSuspend (s : State) : Carry := manualExercise true s

/-- EXERCISE RESUME (R153). -/
def carryExerciseResume (s : State) : Carry := manualExercise false s

/-- The abort of an exercise that is not IDLE (R154). -/
def abortExercise (x : ExerciseBlock) : ExerciseBlock :=
  let y := { x with cursor := x.plan.length }
  if x.test.isSome then { y with abortPending := true } else endExercise .aborted y

/-- EXERCISE ABORT (R154). -/
def carryExerciseAbort (s : State) : Carry :=
  if s.xc.state = .idle then (s, .wrongState, []) else ({ s with xc := abortExercise s.xc }, .ok, [])

/-- READ EXERCISE (R155). -/
def carryReadExercise (s : State) : Carry := readOnly s

/-- DISCOVER (R21). -/
def carryDiscover (leg : Byte) (s : State) : Carry := plain (discoverLeg leg s)

/-- READ PRESENCE (R23). -/
def carryReadPresence (leg : Byte) (s : State) : Carry := readWhen (decide (leg.toNat < 4)) s

/-- READ VALVES (R144). -/
def carryReadValves (s : State) : Carry := readOnly s

/-- UNIT RESET is carried out in two parts: here its reply is placed (R181). -/
def carryUnitReset (s : State) : Carry := readOnly s

/-- A command that Table 10-5 does not list, or one of a wrong length (R186). -/
def carryUndefined (s : State) : Carry := (s, .badArgument, [])

end Sys2Proof.Machine
end

