-- ==== Sys2Proof/Machine/Receive.lean ====
section
/-! DEFINITION. The way of a checked frame at a port: misrouted, consumed, forwarded or both (R173 to R175, R181,
R182), and the way of a LOAD TABLE (R158, R161, R181). -/

namespace Sys2Proof.Machine

open Sys2Proof

/-! ### Routing -/

/-- What becomes of a checked frame. -/
inductive Route where
  /-- the upper pair is held in BREAK: nothing is received (R183) -/
  | ignored
  | misrouted
  /-- a NUMBER (R182) -/
  | number
  | consumed
  | consumedAndForwarded
  | forwarded
  deriving DecidableEq, Repr

/-- The way of a checked frame of kind `kind` for `dest` on the upper port.  NUMBER is taken whatever its
Destination (R174). -/
def routeUpper (t : TrunkBlock) (kind dest : Byte) : Route :=
  if t.upperBreak then .ignored
  else if upwardKind kind then .misrouted
  else if kind = kindNumber then .number
  else
    match t.position with
    | none => .forwarded
    | some p =>
      if dest.toNat < p then .misrouted
      else if dest.toNat = p then .consumed
      else if dest = 255 then .consumedAndForwarded
      else .forwarded

/-- The way of a checked frame on the lower port. -/
def routeLower (t : TrunkBlock) (kind dest : Byte) : Route :=
  if downwardKind kind then .misrouted
  else
    match t.position with
    | none => .forwarded
    | some p =>
      if dest = 255 ∨ p < dest.toNat then .misrouted else if dest.toNat = p then .consumed else .forwarded

/-- The way of a checked frame (R173 to R175). -/
def routeOf (t : TrunkBlock) (port : Port) (kind dest : Byte) : Route :=
  match port with
  | .upper => routeUpper t kind dest
  | .lower => routeLower t kind dest

/-- A frame is forwarded from a port. -/
def forward (port : Port) (f : Frame) (s : State) : State :=
  match port with
  | .upper => forwardDown port f s
  | .lower => forwardUp port f s

/-- A NUMBER frame is taken.  Of another length than one byte it has no effect (notes/assumptions/13.md). -/
def takeNumber (payload : List Byte) (s : State) : State :=
  match payload with
  | [p] => numberUnit p s
  | _ => s

/-- A checked frame at a port; `consume` is what the unit does with it when it is for this unit.  DESIGN CHOICE: a frame
for all units is consumed before it is forwarded (notes/assumptions/39.md). -/
def receive (port : Port) (f : Frame) (consume : State → State) (s : State) : State :=
  match routeOf s.ti port f.kind f.dest with
  | .ignored => s
  | .misrouted => recordError .misrouted port (heard port s)
  | .number => takeNumber f.payload (heard port s)
  | .consumed => consume (heard port s)
  | .consumedAndForwarded => forward port f (consume (heard port s))
  | .forwarded => forward port f (heard port s)

/-! ### RELAY (R17) -/

/-- The node and inner frame of a RELAY payload that passes both checks of R17. -/
def relayTarget (payload : List Byte) : Option (NodeKey × Frame) :=
  match checkFrame payload with
  | .good f => (placeKey f.place).map fun k => (k, f)
  | _ => none

/-- A consumed RELAY: refused BAD_ARGUMENT, or handed to its leg; with the slot occupied it is answered BUSY. -/
def takeRelay (payload : List Byte) (s : State) : State :=
  if slotFree s then
    match relayTarget payload with
    | some (k, f) => { s with ti := { s.ti with slot := .relay k f false } }
    | none => placeDue (relayResult .badArgument) s
  else placeOwn (relayResult .busy) s

/-! ### LOAD TABLE as it arrives (R158, R161, R181) -/

/-- A LOAD TABLE frame. -/
def loadFrame (hdr : Header) (payload : List Byte) : Frame := ⟨hdr.dest, hdr.src, hdr.place, kindCommand, payload⟩

/-- A load takes the command slot. -/
def enterLoad (l : Load) (s : State) : State := { s with ti := { s.ti with slot := .loading, load := some l } }

/-- A LOAD TABLE addressed to this unit has its first bytes judged; a refused one is answered at once
(notes/assumptions/14.md), any other holds the slot to its end. -/
def startLoad (hdr : Header) (table first : Option Byte) (s : State) : State :=
  if slotFree s then
    match judgeLoad s hdr.dest table first with
    | .accept t => enterLoad (freshLoad hdr (.accepted t) table first) s
    | .short => enterLoad (freshLoad hdr .short table first) s
    | .refuse r =>
      placeDue (commandReply codeLoadTable [] r [])
        { s with ti := { s.ti with load := some (freshLoad hdr .refused table first) } }
  else { s with ti := { s.ti with load := some (freshLoad hdr .busy table first) } }

/-- The first bytes of a LOAD TABLE frame have arrived on the upper port. -/
def loadBegins (hdr : Header) (table first : Option Byte) (s : State) : State :=
  if s.ti.load.isSome then s
  else
    match routeOf s.ti .upper kindCommand hdr.dest with
    | .ignored => s
    | .consumed => startLoad hdr table first s
    | .consumedAndForwarded => startLoad hdr table first s
    | _ => { s with ti := { s.ti with load := some (freshLoad hdr .passing table first) } }

/-- The reply of R161 is due for the load in the slot. -/
def answerLoad (l : Load) (e : LoadEnding) (s : State) : State :=
  if s.ti.slot = .loading then useFreeIf (loadOpen l e) (placeDue (loadReply s.free l e) s) else s

/-- A LOAD TABLE that ends before its first index is answered by R161 unless it ends whole and good.  DESIGN CHOICE: then
it is answered BAD_ARGUMENT, as a command of the wrong length (notes/assumptions/33.md). -/
def answerShort (l : Load) (e : LoadEnding) (s : State) : State :=
  if loadGood l.payload e then
    if s.ti.slot = .loading then placeDue (commandReply codeLoadTable [] .badArgument []) s else s
  else answerLoad l e s

/-- What a LOAD TABLE whose frame has ended does at this unit, its routing onward left aside. -/
def concludeLoad (l : Load) (e : LoadEnding) (s : State) : State :=
  match l.mode with
  | .accepted _ => answerLoad l e s
  | .short => answerShort l e s
  | .busy => if loadGood l.payload e then placeOwn (commandReply codeLoadTable [] .busy []) s else s
  | .refused => s
  | .passing => s

/-- A LOAD TABLE frame ends; a whole and good one is a checked frame, and is forwarded where R174 says so.  DESIGN CHOICE:
an overlong one is not forwarded (notes/assumptions/38.md). -/
def loadEnds (tail : List Byte) (e : LoadEnding) (s : State) : State :=
  match (loadBytes tail s).ti.load with
  | none => s
  | some l =>
    let s1 : State := { loadBytes tail s with ti := { (loadBytes tail s).ti with load := none } }
    match loadError l.payload e with
    | some k => concludeLoad l e (recordError k .upper s1)
    | none => receive .upper (loadFrame l.hdr l.payload) (concludeLoad l e) s1

/-! ### A whole COMMAND, RELAY or other frame -/

/-- A LOAD TABLE for this unit taken as one whole frame with the Payload CRC `crc`; one in reception meanwhile goes on
(notes/assumptions/24.md). -/
def wholeLoad (f : Frame) (table first : Option Byte) (records : List Byte) (crc : Half) (s : State) : State :=
  let s1 := startLoad ⟨f.dest, f.src, f.place⟩ table first s
  match (loadBytes records s1).ti.load with
  | none => s1
  | some l =>
    concludeLoad l (.whole crc)
      { loadBytes records s1 with ti := { (loadBytes records s1).ti with load := s.ti.load } }

/-- What a command payload asks, by Table 10-5; `none` for a payload that is not one of its commands or is a LOAD
TABLE. -/
def carryOf (payload : List Byte) : Option (State → Carry) :=
  match payload with
  | [c] =>
    if c = codeStatus then some carryStatus
    else if c = codeCommit then some carryCommit
    else if c = codeDiscard then some carryDiscard
    else if c = codeReadIncidents then some carryReadIncidents
    else if c = codeHeaderClose then some carryHeaderClose
    else if c = codeHeaderOpen then some carryHeaderOpen
    else if c = codeExerciseSuspend then some carryExerciseSuspend
    else if c = codeExerciseResume then some carryExerciseResume
    else if c = codeExerciseAbort then some carryExerciseAbort
    else if c = codeReadExercise then some carryReadExercise
    else if c = codeUnitReset then some carryUnitReset
    else none
  | [c, x] =>
    if c = codeProtect then some (carryProtect x)
    else if c = codeReadIncident then some (carryReadIncident x)
    else if c = codeIsolate then some (carryIsolate x)
    else if c = codeRelease then some (carryRelease x)
    else if c = codeDiscover then some (carryDiscover x)
    else if c = codeReadPresence then some (carryReadPresence x)
    else if c = codeReadValves then some carryReadValves
    else none
  | [c, x, y] => if c = codeExerciseStart then some (carryExerciseStart x y) else none
  | [c, x, y, z, w] => if c = codeReadTable then some (carryReadTable x y z w) else none
  | _ => none

/-- The table id and first index of a LOAD TABLE payload, where it reaches them, and its records. -/
def loadArgs (payload : List Byte) : Option (Option Byte × Option Byte × List Byte) :=
  match payload with
  | c :: rest => if c = codeLoadTable then some (rest[0]?, rest[1]?, rest.drop 2) else none
  | [] => none

/-- A payload that is a LOAD TABLE of any length, or another command of Table 10-5 with arguments of its length
(R186). -/
def commandDefined (payload : List Byte) : Bool := (carryOf payload).isSome || (loadArgs payload).isSome

/-- An undefined command: its code is repeated, and a payload without a code leaves the reply's code open
(notes/assumptions/8.md). -/
def takeUndefined (payload : List Byte) (s : State) : State :=
  takeCommand (openByte s.free 0 payload) (payload.drop 1) carryUndefined (useFreeIf (decide (payload = [])) s)

/-- A consumed COMMAND frame, judged by its payload (R186). -/
def takeCommandFrame (f : Frame) (s : State) : State :=
  match carryOf f.payload, loadArgs f.payload with
  | some carry, _ => takeCommand (f.payload.headD 0) (f.payload.drop 1) carry s
  | none, some (t, i, records) => wholeLoad f t i records (crc16 f.payload) s
  | none, none => takeUndefined f.payload s

/-- A consumed frame is dispatched by its kind (R174). -/
def consumeFrame (f : Frame) (s : State) : State :=
  if f.kind = kindCommand then takeCommandFrame f s
  else if f.kind = kindRelay then takeRelay f.payload s
  else if f.kind = kindDropReport then dropReport f.src f.payload s
  else s

/-- A checked frame of any kind at a port. -/
def receiveAny (port : Port) (f : Frame) (s : State) : State := receive port f (consumeFrame f) s

/-- The frame and the Payload CRC received of a frame whose last byte has been reached, its checks left aside. -/
def rawFrame (bytes : List Byte) : Option (Frame × Half) :=
  match bytes with
  | d :: sr :: p :: k :: len :: _ :: rest =>
    match rest.drop len.toNat with
    | [lo, hi] => some (⟨d, sr, p, k, rest.take len.toNat⟩, hi ++ lo)
    | _ => none
  | _ => none

/-- A frame whose header check is good and whose payload CRC failed is discarded (R172), but that a LOAD TABLE for this
unit has taken effect as it arrived and is answered (R161). -/
def takeDamaged (f : Frame) (crc : Half) (s : State) : State :=
  if f.kind = kindCommand ∧
      (routeOf s.ti .upper f.kind f.dest = .consumed ∨ routeOf s.ti .upper f.kind f.dest = .consumedAndForwarded) then
    match loadArgs f.payload with
    | some (t, i, records) => wholeLoad f t i records crc s
    | none => s
  else s

/-- A frame that fails its payload CRC (R172, R161). -/
def failsPayload (port : Port) (bytes : List Byte) (s : State) : State :=
  match port, rawFrame bytes with
  | .upper, some (f, crc) => takeDamaged f crc s
  | _, _ => s

/-- A frame reaches its end at a port and is to be judged by its checks (R172).  A LOAD TABLE for this unit that breaks
off or runs overlong is no such frame: it comes by the LOAD_TABLE rows and is answered at its end (R161).  DESIGN CHOICE:
a frame that more bytes follow is recorded OVERLONG and never routed (notes/assumptions/38.md). -/
def receptionEnds (port : Port) (rx : Reception) (s : State) : State :=
  if port = .upper ∧ s.ti.upperBreak then s
  else
    match rx with
    | .broken => recordError .broken port s
    | .overlong => recordError .overlong port s
    | .whole bytes =>
      match checkFrame bytes with
      | .badHeader => recordError .headerCheck port s
      | .badPayload => failsPayload port bytes (recordError .payloadCrc port s)
      | .good f => receiveAny port f s

/-- A frame of a given kind with the sender's header fields. -/
def frameOf (hdr : Header) (kind : Byte) (payload : List Byte) : Frame := ⟨hdr.dest, hdr.src, hdr.place, kind, payload⟩

/-- A COMMAND of Table 10-5 with its code and arguments, on the upper port. -/
def receiveCommand (hdr : Header) (code : Byte) (args : List Byte) (carry : State → Carry) (s : State) : State :=
  receive .upper (frameOf hdr kindCommand (code :: args)) (takeCommand code args carry) s

/-- The SERVICE pin reads `b`. -/
def withService (b : Bool) (s : State) : State := { s with pins := { s.pins with service := b } }

end Sys2Proof.Machine
end

