-- ==== Sys2Proof/Machine/Events.lean ====
section
/-! DEFINITION. The meanings of the rows that are events: resets, BREAK, rounds, legs, timers, pins, the transmitters
and the ends of frames.  An event the state rules out has no effect (notes/assumptions/3.md). -/

namespace Sys2Proof.Machine

open Sys2Proof

/-- The outcome of every step. -/
abbrev Out := Host.Outcome State Fault Refusal

/-- POWER_ON (R1). -/
def execPowerOn (s : State) : Out := .next (settle (powerUp s))

/-- PIN_RESET (R1). -/
def execPinReset (s : State) : Out := .next (settle (resetUnit s))

/-- BREAK_UPPER (R183). -/
def execBreakUpper (s : State) : Out := .next (settle (breakUpper s))

/-- BREAK_LOWER (R183): ignored, but for the frame it cuts short. -/
def execBreakLower (cut : Bool) (s : State) : Out := .next (settle (if cut then recordError .broken .lower s else s))

/-- UPPER_BREAK_RELEASE (R183). -/
def execUpperBreakRelease (s : State) : Out := .next (settle { s with ti := { s.ti with upperBreak := false } })

/-- LOWER_BREAK_SENT_END (R183), 2 ms after the BREAK began. -/
def execLowerBreakSentEnd (s : State) : Out := .next (settle (lowerBreakEnd s))

/-- PERIOD_TICK (R4). -/
def execPeriodTick (s : State) : Out := .next (settle (periodTick s))

/-- ROUND_START (R2). -/
def execRoundStart (s : State) : Out := .next (settleAll (nextRound s))

/-- LEG_REQUEST_SENT (R7). -/
def execLegRequestSent (leg : Leg) (s : State) : Out := .next (settle (requestSent leg s))

/-- LEG_REPLY_END (R8). -/
def execLegReplyEnd (leg : Leg) (bytes : List Byte) (s : State) : Out := .next (settleAll (replyEnd leg bytes s))

/-- RESPONSE_WINDOW_EXPIRY (R7). -/
def execResponseWindowExpiry (leg : Leg) (stray : Bool) (s : State) : Out := .next (settleAll (windowExpiry leg stray s))

/-- LEG_LINE_IDLE (R7). -/
def execLegLineIdle (leg : Leg) (after : LineEnd) (s : State) : Out := .next (settleAll (lineIdle leg after s))

/-- ALERT (R13, R14). -/
def execAlert (hold : WireHold) (s : State) : Out := .next (settleAll (alertBegins hold s))

/-- ALERT_RELEASE (R13). -/
def execAlertRelease (leg : Leg) (s : State) : Out := .next (settleAll (alertEnds leg s))

/-- The moment at which the stroke timer of a valve expires, while it runs (R132, R136). -/
def strokeEnd (s : State) (k : NodeKey) : Option Nat :=
  match valveAt s.vs k with
  | some r =>
    match r.phase, r.start, r.limit with
    | .stroking, some t, some l => some (t + 1000 * l)
    | _, _, _ => none
  | none => none

/-- STROKE_TIMER_EXPIRY (R136). -/
def execStrokeTimerExpiry (k : NodeKey) (s : State) : Out :=
  .next (settleAll (match strokeEnd s k with | some t => strokeExpired k (reachTime t s) | none => s))

/-- A meter of the state changes. -/
def setMeter (m : Meter) (f : MeterState → MeterState) (s : State) : State :=
  match m with
  | .supply => { s with fa := { s.fa with supplyMeter := f s.fa.supplyMeter } }
  | .ret => { s with fa := { s.fa with returnMeter := f s.fa.returnMeter } }

/-- METER_COUNT (R58). -/
def execMeterCount (m : Meter) (a b : Bool) (s : State) : Out := .next (settle (setMeter m (meterStep a b) s))

/-- HEADER_LIMIT_CHANGE (R139, R142). -/
def execHeaderLimitChange (atClosed atOpen : Bool) (s : State) : Out :=
  .next (settle (setHeader (headerLimits atClosed atOpen) s))

/-- HEADER_STROKE_TIMER_EXPIRY (R142). -/
def execHeaderStrokeTimerExpiry (s : State) : Out :=
  .next (settle
    (match s.vs.header.timer with
      | some t => setHeader headerExpiry (reachTime (t.start + 1000 * t.limit) s)
      | none => s))

/-- CONTROLLER_PRESENCE_TIMEOUT (R184). -/
def execControllerPresenceTimeout (s : State) : Out := .next (settle (presenceTimeout s))

/-- A HOLD input changes. -/
def setHold (port : Port) (held : Bool) (s : State) : State :=
  match port with
  | .upper => { s with pins := { s.pins with holdFromAbove := held } }
  | .lower => { s with pins := { s.pins with holdFromBelow := held } }

/-- HOLD_CHANGE (R177). -/
def execHoldChange (port : Port) (held : Bool) (s : State) : Out := .next (settle (setHold port held s))

/-- UPPER_FRAME_SENT (R178, R181). -/
def execUpperFrameSent (s : State) : Out := .next (settle (upperSent s))

/-- LOWER_FRAME_SENT (R180). -/
def execLowerFrameSent (s : State) : Out := .next (settle (lowerSent s))

/-- TRUNK_FRAME_FORWARD (R174). -/
def execTrunkFrameForward (port : Port) (f : Frame) (s : State) : Out := .next (settleAll (receiveAny port f s))

/-- TRUNK_FRAME_DISCARD (R172). -/
def execTrunkFrameDiscard (port : Port) (rx : Reception) (s : State) : Out := .next (settleAll (receptionEnds port rx s))

/-- CONSUMED_FRAME_DISCARDED (R174). -/
def execConsumedFrameDiscarded (port : Port) (f : Frame) (s : State) : Out := .next (settleAll (receiveAny port f s))

/-- DROP_REPORT_RECEIVED (R77, R78). -/
def execDropReportReceived (port : Port) (hdr : Header) (payload : List Byte) (s : State) : Out :=
  .next (settleAll (receive port (frameOf hdr kindDropReport payload) (dropReport hdr.src payload) s))

end Sys2Proof.Machine
end

