-- ==== Sys2Proof/Machine/Frames.lean ====
section
/-! DEFINITION. The meanings of the rows that are frames from the rack controller (R182, R186, Table 10-5). -/

namespace Sys2Proof.Machine

open Sys2Proof

/-- NUMBER (R182). -/
def execNumber (hdr : Header) (p : Byte) (s : State) : Out :=
  .next (settle (receive .upper (frameOf hdr kindNumber [p]) id s))

/-- RELAY (R17). -/
def execRelay (hdr : Header) (payload : List Byte) (s : State) : Out :=
  .next (settleAll (receive .upper (frameOf hdr kindRelay payload) (takeRelay payload) s))

/-- UNDEFINED_COMMAND (R186). -/
def execUndefinedCommand (hdr : Header) (payload : List Byte) (s : State) : Out :=
  .next (settleAll (receiveAny .upper (frameOf hdr kindCommand payload) s))

/-- STATUS (R188). -/
def execStatus (hdr : Header) (s : State) : Out := .next (settle (receiveCommand hdr codeStatus [] carryStatus s))

/-- LOAD_TABLE (R158). -/
def execLoadTable (hdr : Header) (table first : Option Byte) (service : Bool) (s : State) : Out :=
  .next (settle (loadBegins hdr table first (withService service s)))

/-- LOAD_TABLE_RECORD (R159, R160). -/
def execLoadTableRecord (bytes : List Byte) (s : State) : Out := .next (settle (loadBytes bytes s))

/-- LOAD_TABLE_END (R161). -/
def execLoadTableEnd (tail : List Byte) (e : LoadEnding) (s : State) : Out := .next (settle (loadEnds tail e s))

/-- READ_TABLE (R162). -/
def execReadTable (hdr : Header) (bank table first count : Byte) (s : State) : Out :=
  .next (settle
    (receiveCommand hdr codeReadTable [bank, table, first, count] (carryReadTable bank table first count) s))

/-- COMMIT (R164). -/
def execCommit (hdr : Header) (service : Bool) (s : State) : Out :=
  .next (settleAll (receiveCommand hdr codeCommit [] carryCommit (withService service s)))

/-- DISCARD (R163). -/
def execDiscard (hdr : Header) (service : Bool) (s : State) : Out :=
  .next (settle (receiveCommand hdr codeDiscard [] carryDiscard (withService service s)))

/-- PROTECT (R171). -/
def execProtect (hdr : Header) (level : Byte) (s : State) : Out :=
  .next (settle (receiveCommand hdr codeProtect [level] (carryProtect level) s))

/-- READ_INCIDENTS (R125). -/
def execReadIncidents (hdr : Header) (s : State) : Out :=
  .next (settle (receiveCommand hdr codeReadIncidents [] carryReadIncidents s))

/-- READ_INCIDENT (R125). -/
def execReadIncident (hdr : Header) (id : Byte) (s : State) : Out :=
  .next (settle (receiveCommand hdr codeReadIncident [id] (carryReadIncident id) s))

/-- ISOLATE (R114). -/
def execIsolate (hdr : Header) (branch : Byte) (s : State) : Out :=
  .next (settleAll (receiveCommand hdr codeIsolate [branch] (carryIsolate branch) s))

/-- RELEASE (R115). -/
def execRelease (hdr : Header) (id : Byte) (s : State) : Out :=
  .next (settleAll (receiveCommand hdr codeRelease [id] (carryRelease id) s))

/-- HEADER_CLOSE (R140). -/
def execHeaderClose (hdr : Header) (s : State) : Out :=
  .next (settle (receiveCommand hdr codeHeaderClose [] carryHeaderClose s))

/-- HEADER_OPEN (R141). -/
def execHeaderOpen (hdr : Header) (s : State) : Out :=
  .next (settle (receiveCommand hdr codeHeaderOpen [] carryHeaderOpen s))

/-- EXERCISE_START (R146). -/
def execExerciseStart (hdr : Header) (first count : Byte) (s : State) : Out :=
  .next (settleAll (receiveCommand hdr codeExerciseStart [first, count] (carryExerciseStart first count) s))

/-- EXERCISE_SUSPEND (R153). -/
def execExerciseSuspend (hdr : Header) (s : State) : Out :=
  .next (settle (receiveCommand hdr codeExerciseSuspend [] carryExerciseSuspend s))

/-- EXERCISE_RESUME (R153). -/
def execExerciseResume (hdr : Header) (s : State) : Out :=
  .next (settleAll (receiveCommand hdr codeExerciseResume [] carryExerciseResume s))

/-- EXERCISE_ABORT (R154). -/
def execExerciseAbort (hdr : Header) (s : State) : Out :=
  .next (settle (receiveCommand hdr codeExerciseAbort [] carryExerciseAbort s))

/-- READ_EXERCISE (R155). -/
def execReadExercise (hdr : Header) (s : State) : Out :=
  .next (settle (receiveCommand hdr codeReadExercise [] carryReadExercise s))

/-- DISCOVER (R21). -/
def execDiscover (hdr : Header) (leg : Byte) (s : State) : Out :=
  .next (settleAll (receiveCommand hdr codeDiscover [leg] (carryDiscover leg) s))

/-- READ_PRESENCE (R23). -/
def execReadPresence (hdr : Header) (leg : Byte) (s : State) : Out :=
  .next (settle (receiveCommand hdr codeReadPresence [leg] (carryReadPresence leg) s))

/-- READ_VALVES (R144). -/
def execReadValves (hdr : Header) (first : Byte) (s : State) : Out :=
  .next (settle (receiveCommand hdr codeReadValves [first] carryReadValves s))

/-- UNIT_RESET (R181). -/
def execUnitReset (hdr : Header) (s : State) : Out :=
  .next (settle (receiveCommand hdr codeUnitReset [] carryUnitReset s))

end Sys2Proof.Machine
end

