-- ==== Sys2Proof/Machine/Dispatch.lean ====
section
/-! DEFINITION. The dispatch of a command or event to its meaning: one arm per constructor of `Instr`. -/
namespace Sys2Proof.Machine
open Sys2Proof

def exec (i : Instr) (s : State) : Host.Outcome State Fault Refusal :=
  match i with
  | .powerOn => Sys2Proof.Machine.execPowerOn s
  | .pinReset => Sys2Proof.Machine.execPinReset s
  | .breakUpper => Sys2Proof.Machine.execBreakUpper s
  | .breakLower cut => Sys2Proof.Machine.execBreakLower cut s
  | .periodTick => Sys2Proof.Machine.execPeriodTick s
  | .roundStart => Sys2Proof.Machine.execRoundStart s
  | .legRequestSent leg => Sys2Proof.Machine.execLegRequestSent leg s
  | .legReplyEnd leg bytes => Sys2Proof.Machine.execLegReplyEnd leg bytes s
  | .responseWindowExpiry leg stray => Sys2Proof.Machine.execResponseWindowExpiry leg stray s
  | .legLineIdle leg after => Sys2Proof.Machine.execLegLineIdle leg after s
  | .alert hold => Sys2Proof.Machine.execAlert hold s
  | .alertRelease leg => Sys2Proof.Machine.execAlertRelease leg s
  | .strokeTimerExpiry key => Sys2Proof.Machine.execStrokeTimerExpiry key s
  | .meterCount meter a b => Sys2Proof.Machine.execMeterCount meter a b s
  | .dropReportReceived port hdr payload => Sys2Proof.Machine.execDropReportReceived port hdr payload s
  | .headerLimitChange atClosed atOpen => Sys2Proof.Machine.execHeaderLimitChange atClosed atOpen s
  | .headerStrokeTimerExpiry => Sys2Proof.Machine.execHeaderStrokeTimerExpiry s
  | .controllerPresenceTimeout => Sys2Proof.Machine.execControllerPresenceTimeout s
  | .trunkFrameForward port frame => Sys2Proof.Machine.execTrunkFrameForward port frame s
  | .trunkFrameDiscard port rx => Sys2Proof.Machine.execTrunkFrameDiscard port rx s
  | .holdChange port held => Sys2Proof.Machine.execHoldChange port held s
  | .upperFrameSent => Sys2Proof.Machine.execUpperFrameSent s
  | .lowerFrameSent => Sys2Proof.Machine.execLowerFrameSent s
  | .number hdr p => Sys2Proof.Machine.execNumber hdr p s
  | .relay hdr payload => Sys2Proof.Machine.execRelay hdr payload s
  | .undefinedCommand hdr payload => Sys2Proof.Machine.execUndefinedCommand hdr payload s
  | .status hdr => Sys2Proof.Machine.execStatus hdr s
  | .loadTable hdr table first service => Sys2Proof.Machine.execLoadTable hdr table first service s
  | .loadTableRecord bytes => Sys2Proof.Machine.execLoadTableRecord bytes s
  | .loadTableEnd tail ending => Sys2Proof.Machine.execLoadTableEnd tail ending s
  | .readTable hdr bank table first count => Sys2Proof.Machine.execReadTable hdr bank table first count s
  | .commit hdr service => Sys2Proof.Machine.execCommit hdr service s
  | .discard hdr service => Sys2Proof.Machine.execDiscard hdr service s
  | .protect hdr level => Sys2Proof.Machine.execProtect hdr level s
  | .readIncidents hdr => Sys2Proof.Machine.execReadIncidents hdr s
  | .readIncident hdr id => Sys2Proof.Machine.execReadIncident hdr id s
  | .isolate hdr branch => Sys2Proof.Machine.execIsolate hdr branch s
  | .release hdr id => Sys2Proof.Machine.execRelease hdr id s
  | .headerClose hdr => Sys2Proof.Machine.execHeaderClose hdr s
  | .headerOpen hdr => Sys2Proof.Machine.execHeaderOpen hdr s
  | .exerciseStart hdr first count => Sys2Proof.Machine.execExerciseStart hdr first count s
  | .exerciseSuspend hdr => Sys2Proof.Machine.execExerciseSuspend hdr s
  | .exerciseResume hdr => Sys2Proof.Machine.execExerciseResume hdr s
  | .exerciseAbort hdr => Sys2Proof.Machine.execExerciseAbort hdr s
  | .readExercise hdr => Sys2Proof.Machine.execReadExercise hdr s
  | .discover hdr leg => Sys2Proof.Machine.execDiscover hdr leg s
  | .readPresence hdr leg => Sys2Proof.Machine.execReadPresence hdr leg s
  | .readValves hdr first => Sys2Proof.Machine.execReadValves hdr first s
  | .unitReset hdr => Sys2Proof.Machine.execUnitReset hdr s
  | .consumedFrameDiscarded port frame => Sys2Proof.Machine.execConsumedFrameDiscarded port frame s
  | .upperBreakRelease => Sys2Proof.Machine.execUpperBreakRelease s
  | .lowerBreakSentEnd => Sys2Proof.Machine.execLowerBreakSentEnd s

end Sys2Proof.Machine
end

