-- ==== Sys2Proof/Machine/Step.lean ====
section
/-! DEFINITION. One step: the command at the front of the queue, or one millisecond passes. -/

namespace Sys2Proof.Machine

open Sys2Proof

/-- Takes the command at the front of the queue and carries it out with the queue's rest.  On an empty queue one
millisecond passes (notes/assumptions/1.md). -/
def step (s : State) : Host.Outcome State Fault Refusal :=
  match s.pending with
  | [] => .next (elapse 1 s)
  | c :: rest => exec c { s with pending := rest }

/-- Puts the command that a word spells at the front of the queue (notes/assumptions/22.md). -/
def State.withFetchWord (s : State) (nbits w : Nat) : State :=
  match decodeTableWord nbits w with
  | some c => { s with pending := c :: s.pending }
  | none => s

end Sys2Proof.Machine
end

