-- ==== Sys2Proof/Safety.lean ====
section
/-! DEFINITION. What counts as a safe state of the part, in the terms the statements use. -/

namespace Sys2Proof.Machine

open Sys2Proof

/-- Each forward FIFO holds at most 8 whole frames (R176). -/
def FifoBound (s : State) : Prop := s.ti.uf.length ≤ 8 ∧ s.ti.ur.length ≤ 8 ∧ s.ti.df.length ≤ 8

/-- The header outputs are as Table 6-2 gives them for the drive state, never both asserted, and the header stroke
timer runs only in a driven state. -/
def HeaderSafe (s : State) : Prop :=
  s.vs.header.closeReq = decide (s.vs.header.state = .closing) ∧
    s.vs.header.openReq = decide (s.vs.header.state = .opening) ∧
    (s.vs.header.timer.isSome → s.vs.header.state = .closing ∨ s.vs.header.state = .opening)

/-- HEADER_FAULT is active exactly while the drive state is FAULT (R143). -/
def HeaderFaultFollows (s : State) : Prop := s.vs.header.fault.active = decide (s.vs.header.state = .fault)

/-- ALARM and the HOLD outputs read as R123 and R177 give them. -/
def OutputsFollow (s : State) : Prop :=
  s.pins.alarm = alarmDue s ∧ s.pins.holdToAbove = decide (7 ≤ s.ti.df.length) ∧
    s.pins.holdToBelow = decide (7 ≤ s.ti.uf.length ∨ 7 ≤ s.ti.ur.length)

/-- The controller-presence timer holds at 61 000 ms (R184). -/
def PresenceHeld (s : State) : Prop := s.ti.presenceTimer ≤ 61000

/-! ### Bounds of the blocks' collections and quantities -/

/-- The Incident Table holds at most 8 incidents of at most 8 branches and 4 rows, and the cleared queue at most 16
entries (R89, R96, R121). -/
def IncidentBounds (s : State) : Prop :=
  s.ie.incidents.length ≤ 8 ∧ s.ie.cleared.length ≤ 16 ∧
    ∀ i ∈ s.ie.incidents, i.members.length ≤ 8 ∧ i.rows.length ≤ 4

/-- Loss accumulators, remainders and drip scores lie in their ranges (R53, R63, R74). -/
def EvidenceBounds (s : State) : Prop :=
  (∀ p ∈ s.fa.branches, p.2.loss ≤ 65535 ∧ p.2.rem ≤ 59999) ∧ s.fa.hdrLoss ≤ 65535 ∧ s.fa.hdrRem ≤ 59999 ∧
    ∀ p ∈ s.de.branches, p.2.score ≤ 255

/-- Both banks hold their tables in order of index, within the capacities of Table 8-1. -/
def BanksWf (s : State) : Prop := s.ts.active.wf = true ∧ s.ts.staging.wf = true

/-- Each Action Queue holds at most 8 entries (R130). -/
def QueuesBound (s : State) : Prop := ∀ l : Leg, (quadGet s.vs.queues l).length ≤ 8

/-- A leg that may start a request has no work waiting at a boundary (R6). -/
def LegAtRest (s : State) (l : Leg) : Prop :=
  legReady (legAt s l) = true →
    quadGet s.vs.queues l = [] ∧ sweepPoll l s = none ∧ ((legAt s l).sweep = none → (legAt s l).alertFlag = false) ∧
      (∀ k f, s.ti.slot = .relay k f false → k.leg ≠ l) ∧
      (((legAt s l).pollList[(legAt s l).cursor]?).bind (keyAt s.ts.active) = none) ∧ (legAt s l).discovering = false

/-- No idle leg has work waiting. -/
def LegsAtRest (s : State) : Prop := ∀ l : Leg, LegAtRest s l

/-! ### Records as the spec bounds them (Tables 2-1, 3-1, 4-1, 8-3) -/

def goodNode (r : NodeRec) : Prop :=
  1 ≤ r.key.node ∧ r.key.node ≤ 30 ∧ r.delta ≤ 65535 ∧
    match r.body with
    | .drip d => 1 ≤ d.wet ∧ d.wet ≤ 255 ∧ d.hyst ≤ 64 ∧ 1 ≤ d.flood ∧ d.flood ≤ 255 ∧ d.evUnit ≤ 4
    | .flow => True
    | .valve l => 1 ≤ l ∧ l ≤ 60

def goodBranch (r : BranchRec) : Prop :=
  r.supply ≤ 119 ∧ r.ret ≤ 119 ∧ r.valve ≤ 119 ∧ -2048 ≤ r.offset ∧ r.offset ≤ 2047 ∧ r.deadband ≤ 4095 ∧ 1 ≤ r.trip ∧
    r.trip ≤ 65535 ∧ r.forgive ≤ 255 ∧ r.loadTag ≤ 65535

def goodRow (r : RowRec) : Prop :=
  r.unit ≤ 4 ∧ r.node ≤ 119 ∧ r.fall ≤ 15 ∧ 1 ≤ r.quiet ∧ r.quiet ≤ 15 ∧ 1 ≤ r.persist ∧ r.persist ≤ 31 ∧
    1 ≤ r.cands.length ∧ r.cands.length ≤ 6 ∧ ∀ c ∈ r.cands, c.branch ≤ 23 ∧ 1 ≤ c.weight ∧ c.weight ≤ 100

def goodSettings (r : Settings) : Prop :=
  200 ≤ r.period ∧ r.period ≤ 5000 ∧ r.period % 50 = 0 ∧ 1 ≤ r.window ∧ r.window ≤ 20 ∧ 1 ≤ r.isoLimit ∧ r.isoLimit ≤ 24 ∧
    1 ≤ r.absenceLimit ∧ r.absenceLimit ≤ 60 ∧ 1 ≤ r.fade ∧ r.fade ≤ 255 ∧ r.lead ≤ 100 ∧ 1 ≤ r.corroborate ∧
    r.corroborate ≤ 99 ∧ 1 ≤ r.clearRounds ∧ r.clearRounds ≤ 255 ∧ r.holdFirst ≤ 23 ∧ r.holdCount ≤ 24 ∧
    1 ≤ r.kSupply ∧ r.kSupply ≤ 65535 ∧ 1 ≤ r.kReturn ∧ r.kReturn ≤ 65535 ∧ -2048 ≤ r.hdrOffset ∧ r.hdrOffset ≤ 2047 ∧
    r.hdrDeadband ≤ 4095 ∧ 1 ≤ r.hdrTrip ∧ r.hdrTrip ≤ 65535 ∧ r.hdrForgive ≤ 255 ∧ 1 ≤ r.hdrStroke ∧ r.hdrStroke ≤ 120 ∧
    1 ≤ r.backflowRounds ∧ r.backflowRounds ≤ 15 ∧ r.skewLimit ≤ 65535 ∧ 1 ≤ r.overrunRounds ∧ r.overrunRounds ≤ 15

/-- Every record of a bank lies in the ranges its table gives. -/
def goodBank (b : Bank) : Prop :=
  (∀ p ∈ b.nodes, goodNode p.2) ∧ (∀ p ∈ b.branches, goodBranch p.2) ∧ (∀ p ∈ b.rows, goodRow p.2) ∧
    ∀ r, b.settings = some r → goodSettings r

/-- Every record of both banks lies in the ranges its table gives. -/
def BanksGood (s : State) : Prop := goodBank s.ts.active ∧ goodBank s.ts.staging

/-! ### A command and its answer -/

/-- The upper port receives, the unit is numbered, and a frame for `dest` is for it: sent to its position, or to all
units while DF has a free place for the copy that goes on (R174). -/
def ForUnit (s : State) (dest : Byte) : Prop :=
  s.ti.upperBreak = false ∧
    ∃ p, s.ti.position = some p ∧ 1 ≤ p ∧ p ≤ 4 ∧ (dest = byte p ∨ dest = 255 ∧ s.ti.df.length < 8)

/-- The command slot and the reply place are free. -/
def CanAnswer (s : State) : Prop := s.ti.slot = .empty ∧ s.ti.reply = none

/-- The reply frame `f` stands in the reply place, or the upper transmitter has been granted it; `reset` says that it
is the reply of a UNIT RESET. -/
def Answered (t : State) (f : Frame) (reset : Bool) : Prop :=
  t.ti.reply = some ⟨f, reset⟩ ∨ t.ti.reply = none ∧ t.ti.upperTx = some ⟨f, reset⟩

/-- A REPLY of this unit with this payload, and the slot free again. -/
def Replied (t : State) (payload : List Byte) : Prop :=
  Answered t (unitFrame t.ti.position kindReply payload) false ∧ t.ti.slot = .empty

/-! ### What reports and transmitters leave alone -/

/-- A node's record without its MIRROR and DROP REPORT material that a grant takes. -/
def quietNode (n : NodeRun) : NodeRun :=
  { n with mirrorPending := false, lastMirrored := none, evPending := false, pendDrops := 0, pendOnset := false }

/-- An incident's record without its report pending flag. -/
def quietIncident (i : Incident) : Incident := { i with pending := false }

/-- A cooling notice without its pending flag. -/
def quietNotice (n : Notice) : Notice := { n with pending := false }

/-- The Trunk Interface without its FIFOs, slot, reply place, transmitters, arbiters and report flags. -/
def quietTrunk (t : TrunkBlock) : TrunkBlock :=
  { t with
    uf := [], ur := [], df := [], slot := .empty, reply := none, upperTx := none, lowerTx := .free, lastWasA := false,
    lastWasE := false, lastWasDf := false, onward := none, summaryDue := false, lost := unpend t.lost }

/-- A state without what a grant of a transmitter may move: the report pending flags and report material, the trunk's
transmit side, the outputs ALARM and HOLD, and the count of open values used.  Two states with the same `quiet` differ
in nothing else. -/
def quiet (s : State) : State :=
  { s with
    pins := { s.pins with alarm := false, holdToAbove := false, holdToBelow := false }
    rt := { s.rt with overrun := unpend s.rt.overrun }
    le := { s.le with stuck := unpend s.le.stuck }
    nd := { s.nd with nodes := assocAll quietNode s.nd.nodes, flood := unpend s.nd.flood }
    fa := { s.fa with backflow := unpend s.fa.backflow, meterSkew := unpend s.fa.meterSkew }
    de := { s.de with unmappedDrip := unpend s.de.unmappedDrip }
    ie := { s.ie with
      incidents := s.ie.incidents.map quietIncident
      cleared := []
      notices := assocAll quietNotice s.ie.notices
      overflow := unpend s.ie.overflow }
    vs := { s.vs with header := { s.vs.header with fault := unpend s.vs.header.fault } }
    ti := quietTrunk s.ti
    free := 0 }

end Sys2Proof.Machine
end

