-- ==== Sys2Proof/WellFormed.lean ====
section
/-! DEFINITION. Which commands and events the spec's table describes: the bounds of operands, and what tells a row
from its neighbours.  `exec` has a meaning for every term, well formed or not. -/

namespace Sys2Proof

open Sys2Proof.Machine

/-- A node address (Table 2-1). -/
def goodKey (k : NodeKey) : Bool := decide (1 ≤ k.node ∧ k.node ≤ 30)

/-- A payload that fits a frame (Table 10-1). -/
def goodPayload (p : List Byte) : Bool := decide (p.length ≤ 240)

/-- The length of a reply as its Length byte implies it (R7). -/
def wholeReply (bytes : List Byte) : Bool :=
  match bytes with
  | _ :: _ :: _ :: _ :: n :: _ :: rest => decide (rest.length = if n = 0 then 0 else n.toNat + 2)
  | _ => false

/-- The bytes of one record: as many as its first bytes say; of a record whose end cannot be found, at least one. -/
def goodRecord (bytes : List Byte) : Bool :=
  [TableId.node, .branch, .drip, .settings].any fun t =>
    match recordSize t bytes with
    | .bytes n => decide (bytes.length = n)
    | .bad => true
    | .unknown => false

/-- The rows whose operands the spec bounds, or that other rows' frames must not spell. -/
def WellFormed (i : Instr) : Bool :=
  match i with
  | .strokeTimerExpiry k => goodKey k
  | .legReplyEnd _ bytes => wholeReply bytes
  | .dropReportReceived _ _ p => goodPayload p
  | .trunkFrameForward _ f => goodPayload f.payload && decide (f.kind ≠ kindNumber)
  | .consumedFrameDiscarded _ f =>
    goodPayload f.payload &&
      decide (f.kind ≠ kindNumber ∧ f.kind ≠ kindCommand ∧ f.kind ≠ kindRelay ∧ f.kind ≠ kindDropReport)
  | .relay _ p => goodPayload p
  | .undefinedCommand _ p => goodPayload p && !commandDefined p
  | .loadTable _ table first _ => table.isSome || first.isNone
  | .loadTableRecord bytes => goodRecord bytes
  | .powerOn | .pinReset | .breakUpper | .breakLower _ | .periodTick | .roundStart | .legRequestSent _
  | .responseWindowExpiry _ _ | .legLineIdle _ _ | .alert _ | .alertRelease _ | .meterCount _ _ _
  | .headerLimitChange _ _ | .headerStrokeTimerExpiry | .controllerPresenceTimeout | .trunkFrameDiscard _ _
  | .holdChange _ _ | .upperFrameSent | .lowerFrameSent | .number _ _ | .status _
  | .loadTableEnd _ _ | .readTable _ _ _ _ _ | .commit _ _ | .discard _ _ | .protect _ _ | .readIncidents _
  | .readIncident _ _ | .isolate _ _ | .release _ _ | .headerClose _ | .headerOpen _ | .exerciseStart _ _ _
  | .exerciseSuspend _ | .exerciseResume _ | .exerciseAbort _ | .readExercise _ | .discover _ _ | .readPresence _ _
  | .readValves _ _ | .unitReset _ | .upperBreakRelease | .lowerBreakSentEnd => true

end Sys2Proof
end

