-- ==== Sys2Proof/Certificates/Slice0/Obligations.lean ====
section
/-! DEFINITION. The statements for the provers.

`quiet t = quiet u` is the frame: `t` and `u` agree in everything but the report pending flags and report material, the
trunk's transmit side and the outputs ALARM and HOLD, which a grant at the end of the step may have moved.  A statement
about a COMMAND reads the state `presenceRestart s`, the one its frame's arrival leaves. -/

open Sys2Proof Sys2Proof.Machine

/-! ### The queue, idling, and reset -/

/-- A step with the command `c` in front carries out `c` on the state with the queue's rest. -/
def Obligations.StepTakesTheFrontOfTheQueue : Prop :=
  ∀ (c : Instr) (rest : List Instr) (s : State), step { s with pending := c :: rest } = exec c { s with pending := rest }

/-- The model's choice (notes/assumptions/1.md): on an empty queue one millisecond passes, for the clock and for the
controller-presence timer, and nothing else changes. -/
def Obligations.EmptyQueueLetsAMillisecondPass : Prop :=
  ∀ s : State, s.pending = [] →
    step s = .next { s with
      clock := s.clock + 1
      ti := { s.ti with presenceTimer := if s.ti.presenceTimer < 61000 then s.ti.presenceTimer + 1 else 61000 } }

/-- Every command and event completes, and leaves the queue of the others alone. -/
def Obligations.EveryCommandCompletesAndLeavesTheQueue : Prop :=
  ∀ (c : Instr) (s : State), ∃ t, exec c s = .next t ∧ t.pending = s.pending

/-- Every invariant stated below holds at reset. -/
def Obligations.InvariantsHoldAtReset : Prop :=
  FifoBound State.reset ∧ PresenceHeld State.reset ∧ HeaderSafe State.reset ∧ HeaderFaultFollows State.reset ∧
    OutputsFollow State.reset ∧ IncidentBounds State.reset ∧ EvidenceBounds State.reset ∧ BanksWf State.reset ∧
    BanksGood State.reset ∧ QueuesBound State.reset ∧ LegsAtRest State.reset

/-! ### Invariants that every step keeps -/

/-- The forward FIFOs and the Action Queues hold at most 8 entries each, and the controller-presence timer holds at
61 000 ms. -/
def Obligations.QueuesNeverOverflow : Prop :=
  ∀ s t : State, FifoBound s → PresenceHeld s → QueuesBound s → step s = .next t →
    FifoBound t ∧ PresenceHeld t ∧ QueuesBound t

/-- The header outputs are asserted in their own driven states only, the stroke timer runs in those only, and
HEADER_FAULT is active exactly in FAULT. -/
def Obligations.HeaderOutputsAgreeWithItsState : Prop :=
  ∀ s t : State, HeaderSafe s → HeaderFaultFollows s → step s = .next t → HeaderSafe t ∧ HeaderFaultFollows t

/-- ALARM is asserted exactly while an open incident is past WATCH or FLOOD is active, and each HOLD output exactly
while a FIFO it watches has fewer than 2 free places. -/
def Obligations.OutputsFollowTheState : Prop := ∀ s t : State, OutputsFollow s → step s = .next t → OutputsFollow t

/-- The Incident Table, its incidents and the cleared queue keep their capacities, and loss accumulators, remainders and
drip scores their ranges. -/
def Obligations.IncidentsAndEvidenceKeepTheirBounds : Prop :=
  ∀ s t : State, IncidentBounds s → EvidenceBounds s → BanksGood s → step s = .next t → IncidentBounds t ∧ EvidenceBounds t

/-- Both banks keep their tables in index order within their capacities, and every record in the ranges of its table. -/
def Obligations.BanksStayWellFormed : Prop :=
  ∀ s t : State, BanksWf s → BanksGood s → step s = .next t → BanksWf t ∧ BanksGood t

/-- A leg that may start a request never stands with work waiting: work that arrives is taken in the same step. -/
def Obligations.NoIdleLegHasWorkWaiting : Prop := ∀ s t : State, LegsAtRest s → step s = .next t → LegsAtRest t

/-! ### Rules over every command -/

/-- The guard level falls only at power-on, and from SERVICE to OPEN at a reset: by the RESET pin, or by a UNIT RESET
that takes effect when its reply has been sent or is dropped by BREAK. -/
def Obligations.GuardNeverFalls : Prop :=
  ∀ (c : Instr) (s t : State), exec c s = .next t →
    guardRank s.ts.guard ≤ guardRank t.ts.guard ∨ c = .powerOn ∨
      (s.ts.guard = .service ∧ t.ts.guard = .opened ∧
        (c = .pinReset ∨ (c = .upperFrameSent ∧ ∃ f, s.ti.upperTx = some ⟨f, true⟩) ∨
          (c = .breakUpper ∧ s.ti.upperBreak = false ∧ resetReplyWaits s.ti = true)))

/-- While the unit has active tables, its active bank changes only where a round starts or a reset clears it. -/
def Obligations.ActiveBankChangesOnlyAtARoundStart : Prop :=
  ∀ (c : Instr) (s t : State), s.ts.activeFlag = true → s.rt.running = true → exec c s = .next t →
    t.ts.active = s.ts.active ∨ (t.rt.number = s.rt.number + 1 ∧ t.ts.active = s.ts.staging ∧ s.ts.commitPending = true) ∨
      t.ts = { TableBlock.reset with guard := t.ts.guard }

/-- A unit that holds tables keeps its position, but for a reset. -/
def Obligations.PositionHeldWhileTablesAreActive : Prop :=
  ∀ (c : Instr) (s t : State), s.ts.activeFlag = true → exec c s = .next t →
    t.ti.position = s.ti.position ∨ (t.ti.position = none ∧ t.ts.activeFlag = false)

/-- The row brings the frame `f` to the upper port: as a COMMAND, as a frame of any kind, or as the bytes of one that
passes its checks. -/
def bringsUpper (f : Frame) (c : Instr) : Prop :=
  (∃ hdr, c = .headerOpen hdr ∧ f = ⟨hdr.dest, hdr.src, hdr.place, 0x11#8, [0x21#8]⟩) ∨
    (∃ hdr payload, c = .undefinedCommand hdr payload ∧ f = ⟨hdr.dest, hdr.src, hdr.place, 0x11#8, payload⟩) ∨
    c = .trunkFrameForward .upper f ∨ c = .consumedFrameDiscarded .upper f ∨
    ∃ bytes, c = .trunkFrameDiscard .upper (.whole bytes) ∧ checkFrame bytes = .good f

/-- OPEN_REQ is asserted by HEADER OPEN alone, a COMMAND with payload 0x21 for this unit whatever row brings it, and only
while no incident is ESCALATED. -/
def Obligations.OnlyHeaderOpenDrivesTheHeaderOpen : Prop :=
  ∀ (c : Instr) (s t : State), exec c s = .next t → s.vs.header.openReq = false → t.vs.header.openReq = true →
    anyEscalated s = false ∧ s.ti.upperBreak = false ∧
    ∃ (f : Frame) (p : Nat), bringsUpper f c ∧ f.kind = 0x11#8 ∧ f.payload = [0x21#8] ∧ s.ti.position = some p ∧
      (f.dest.toNat = p ∨ f.dest = 255)

/-! ### Resets and BREAK -/

/-- What a pin reset leaves, as a state: every block at its reset values; the inputs, the levels of the meters' signals
and of the header limits as the pins show them; FIXED stays FIXED; a line held or not yet idle, and the frames that
have begun to leave, go on. -/
def resetLeaves (s : State) : State :=
  { State.reset with
    clock := s.clock
    pins := { s.pins with holdToAbove := false, holdToBelow := false, alarm := false }
    le := ⟨mapLegs (fun _ e =>
      { LegEngine.reset with alertHeld := e.alertHeld, disregard := e.disregard || e.txn.isSome }) s.le.legs, .clear⟩
    fa := { FlowBlock.reset with
      supplyMeter := { MeterState.reset with a := s.fa.supplyMeter.a, b := s.fa.supplyMeter.b }
      returnMeter := { MeterState.reset with a := s.fa.returnMeter.a, b := s.fa.returnMeter.b } }
    vs := { ValveBlock.reset with header :=
      { state := headerReading s.vs.header.atClosed s.vs.header.atOpen, closeReq := false, openReq := false,
        atClosed := s.vs.header.atClosed, atOpen := s.vs.header.atOpen, timer := none,
        fault := if s.vs.header.atClosed ∧ s.vs.header.atOpen then ⟨true, 3, true⟩ else .clear } }
    ts := { TableBlock.reset with guard := if s.ts.guard = .fixed then .fixed else .opened }
    ti := { TrunkBlock.reset with
      upperTx := s.ti.upperTx.map fun x => ⟨x.frame, false⟩
      lowerTx := s.ti.lowerTx
      upperBreak := s.ti.upperBreak }
    free := s.free
    pending := s.pending }

/-- PIN RESET and POWER ON: every block takes its reset values.  What of the lines and transmitters goes on at a pin
reset, and that the clock begins anew at power-on, is the model's choice (notes/assumptions/15.md), and so are the next
discovery address 1 and the port beside error kind NONE (notes/assumptions/5.md), and that a LOAD TABLE in reception that
passes to another unit is dropped (notes/assumptions/35.md). -/
def Obligations.ResetsClearTheUnit : Prop :=
  ∀ s : State, exec .pinReset s = .next (resetLeaves s) ∧
    exec .powerOn s = .next { resetLeaves s with clock := 0, le := State.reset.le, ts := .reset, ti := .reset }

/-- BREAK on the upper port, no UNIT RESET reply waiting: the FIFOs, the slot, the reply place and a LOAD TABLE in
reception are cleared, a relay in progress loses its reply, the lower transmitter sends BREAK, and nothing else
changes; a pending onward NUMBER stays.  That a UNIT RESET whose reply is on the wire loses its slot too is the model's
choice (notes/assumptions/15.md).  Its release only lets the upper port receive again.  BREAK on the lower port is
ignored, but a frame it cuts short is recorded as BROKEN. -/
def Obligations.BreakClearsTheTrunk : Prop :=
  (∀ s : State, s.ti.upperBreak = false → resetReplyWaits s.ti = false →
    ∃ t, exec .breakUpper s = .next t ∧
      quiet t = quiet { s with
        ti := { s.ti with load := none, upperBreak := true }
        le := { s.le with legs := mapLegs (fun _ e => dropRelay e) s.le.legs } } ∧
      t.ti.uf = [] ∧ t.ti.ur = [] ∧ t.ti.df = [] ∧ t.ti.slot = .empty ∧ t.ti.reply = none ∧ t.ti.lowerTx = .breaking s.clock ∧
      t.ti.onward = s.ti.onward ∧ t.pins.holdToAbove = false ∧ t.pins.holdToBelow = false) ∧
    (∀ s : State, ∃ t, exec .upperBreakRelease s = .next t ∧
      quiet t = quiet { s with ti := { s.ti with upperBreak := false } }) ∧
    (∀ s : State, ∃ t, exec (.breakLower false) s = .next t ∧ quiet t = quiet s) ∧
    ∀ s : State, ∃ t, exec (.breakLower true) s = .next t ∧
      quiet t = quiet { s with ti := { s.ti with errorKind := .broken, errorPort := .lower } }

/-! ### The transmitters -/

/-- No local alarm item waits: no cleared entry, no pending incident, condition or cooling notice. -/
def noAlarmItem (s : State) : Prop :=
  s.ie.cleared = [] ∧ (∀ i ∈ s.ie.incidents, i.pending = false) ∧ (∀ u ∈ allConditions, (conditionOf s u).pending = false) ∧
    pendingNotice s = none

/-- A report of this unit to the rack controller. -/
def report (s : State) (kind : Byte) (payload : List Byte) : Frame := ⟨0, unitByte s.ti.position, 0xE0#8, kind, payload⟩

/-- The upper transmitter has sent its frame and is granted `f` next; `P` holds of the state after, and nothing changes
but what grants move. -/
def sendsUp (s : State) (f : Frame) (P : State → Prop) : Prop :=
  ∃ t, exec .upperFrameSent s = .next t ∧ quiet t = quiet s ∧ t.ti.upperTx = some ⟨f, false⟩ ∧ P t

/-- The INCIDENT REPORT of an open incident (Table 10-6).  The order of the held valves is the model's choice
(notes/assumptions/42.md). -/
def incidentReport (s : State) (i : Incident) : List Byte :=
  [byte i.id, incStateCode i.state, originCode i.origin, reasonCode i.reason, optBranchByte s i.target,
      optBranchByte s i.probeBranch, flagByte i.headerReq, 255, byte i.members.length] ++ i.members.map (branchByte s) ++
    [byte i.rows.length] ++ (i.rows.flatMap fun e => [byte e.key.unit, byte e.key.node]) ++ [byte i.held.length] ++
    i.held.flatMap fun b => [branchByte s b, match valveAt s.vs b.valve with | some r => faultCode r.fault | none => 0]

/-- The detail `d` of a UNIT CONDITION that is granted; open where INCIDENT_OVERFLOW has a request of no branch
(notes/assumptions/8.md). -/
def detailGranted (s : State) (u : UnitCondition) (d : Nat) : Prop :=
  (u = .roundOverrun → d = s.rt.late) ∧
    (u = .incidentOverflow → s.ie.overflowReq = false → d = (lowest (unhousedList s)).getD 255) ∧
    (u = .incidentOverflow → s.ie.overflowReq = true → ∀ b n, s.ie.overflowBy = some b → indexOf s.ts.active b = some n →
      d = 100 + n) ∧
    (u ≠ .roundOverrun → u ≠ .incidentOverflow → d = (conditionOf s u).detail)

/-- Source A: a freed incident's report, the oldest first; else the INCIDENT REPORT of the oldest incident whose report is
pending; else the pending UNIT CONDITION of the lowest code; else the COOLING NOTICE of the lowest branch.  Its pending
flag is cleared, and no other. -/
def alarmItemsAreSent (s : State) : Prop :=
  (∀ c rest, s.ie.cleared = c :: rest →
    sendsUp s (report s 0x20#8 [byte c.id, 0x07, 255, 0x00, 255, 255, 0x00, optByte c.into, 0, 0, 0]) fun t =>
      t.ti.lastWasA = true ∧ t.ie = { s.ie with cleared := rest }) ∧
  (s.ie.cleared = [] →
    (∀ before i after, s.ie.incidents = before ++ i :: after → (∀ j ∈ before, j.pending = false) → i.pending = true →
      sendsUp s (report s 0x20#8 (incidentReport s i)) fun t => t.ti.lastWasA = true ∧
        t.ie = { s.ie with
          incidents := s.ie.incidents.map fun j => if j.id = i.id then { j with pending := false } else j }) ∧
    ((∀ i ∈ s.ie.incidents, i.pending = false) →
      (∀ u, (conditionOf s u).pending = true →
        (∀ v, conditionCode v < conditionCode u → (conditionOf s v).pending = false) → ∃ d, detailGranted s u d ∧
          sendsUp s (report s 0x22#8 ([byte (conditionCode u), flagByte (conditionOf s u).active] ++ bytes2 d)) fun t =>
            t.ti.lastWasA = true ∧ ∀ v, conditionOf t v = if v = u then unpend (conditionOf s v) else conditionOf s v) ∧
      ((∀ u, (conditionOf s u).pending = false) →
        ∀ before n b after x r, branchList s.ts.active = before ++ (n, b) :: after →
          (∀ p ∈ before, ∀ y, assocGet p.2 s.ie.notices = some y → y.pending = false) →
          assocGet b s.ie.notices = some x → x.pending = true → recOf s.ts.active b = some r →
          sendsUp s (report s 0x21#8 ([byte n] ++ bytes2 r.loadTag ++ [noticeCode x.state])) fun t =>
            t.ti.lastWasA = true ∧
              t.ie = { s.ie with notices := assocMap b (fun y => { y with pending := false }) s.ie.notices })))

/-- The material of the DRIP node `r` waits, its evidence unit a position that `dir` admits. -/
def dropWaits (dir : Nat → Prop) (s : State) (r : NodeRec) : Prop :=
  ∃ d n, r.body = .drip d ∧ assocGet r.key s.nd.nodes = some n ∧ n.evPending = true ∧
    resolveUnit s.ti.position d.evUnit ≠ 0 ∧ dir (resolveUnit s.ti.position d.evUnit)

/-- The DROP REPORT of a node at index `i` to the unit `u`. -/
def dropReportOf (s : State) (u i : Nat) (r : NodeRec) (n : NodeRun) : Frame :=
  ⟨byte u, unitByte s.ti.position, placeByte r.key, 0x23#8,
    [byte i, byte n.pendDrops, flagByte n.pendOnset, byte n.pendLevel, byte n.pendStamp]⟩

/-- A DROP REPORT has taken the material of the record `n`, but for level and stamp. -/
def dropTaken (k : NodeKey) (t : State) : Prop :=
  ∃ n, assocGet k t.nd.nodes = some n ∧ n.evPending = false ∧ n.pendDrops = 0 ∧ n.pendOnset = false

/-- The MIRROR of the node `r` waits. -/
def mirrorWaits (s : State) (r : NodeRec) : Prop :=
  ∃ n m, assocGet r.key s.nd.nodes = some n ∧ n.mirrorPending = true ∧ n.last = some m

/-- One branch entry of the ROUND SUMMARY (R190). -/
def summaryEntry (s : State) (n : Nat) : List Byte :=
  match identAt s.ts.active n with
  | none => [255, 255, 255, 255, 0, 0, 0, 0]
  | some b =>
    let f := (assocGet b s.fa.branches).getD freshFlow
    let d := (assocGet b s.de.branches).getD freshDrip
    bytes2 f.endedSupply ++ bytes2 f.endedReturn ++ bytes2 f.loss ++
      [byte d.score, byte ((if f.unmetered then 1 else 0) + (if f.skew then 2 else 0) + if d.creditedLast then 4 else 0)]

/-- Source F: the ROUND SUMMARY; else the MIRROR of the lowest node whose MIRROR waits.  Its flag is cleared, and the
value last mirrored is that of the sample sent. -/
def routineItemsAreSent (s : State) : Prop :=
  (∀ e, s.ti.summaryDue = true → s.rt.ended = some e →
    let back := ((s.ts.active.nodes.filter fun p => decide (p.2.key ∈ s.nd.backEnded)).map (·.1)).take 39
    sendsUp s
      (report s 0x30#8 (bytes2 e.number.toNat ++ bytes2 (min 65535 e.elapsed) ++ bytes2 (s.fa.supplyMeter.flow.getD 65535) ++
        bytes2 (s.fa.returnMeter.flow.getD 65535) ++ (List.range 24).flatMap (summaryEntry s) ++
        [byte back.length] ++ back.map byte)) fun t => t.ti.lastWasE = false ∧ t.ti.summaryDue = false) ∧
  (s.ti.summaryDue = false → ∀ before i r after n m, s.ts.active.nodes = before ++ (i, r) :: after →
    (∀ q ∈ before, ¬ mirrorWaits s q.2) → assocGet r.key s.nd.nodes = some n → n.mirrorPending = true → n.last = some m →
    sendsUp s
      ⟨0, unitByte s.ti.position, placeByte r.key, 0x31#8,
        [byte i, nodeKindCode (nodeKind r), verdictCode m.verdict] ++ bytes2 m.stamp.toNat ++ [byte m.payload.length] ++
          m.payload.take 234⟩ fun t => t.ti.lastWasE = false ∧
        ∃ n', assocGet r.key t.nd.nodes = some n' ∧ n'.mirrorPending = false ∧
          (m.verdict = .notOk ∨ m.verdict = .malformed → n'.lastMirrored = none) ∧
          (m.verdict = .noReading → n'.lastMirrored = some .noReading) ∧
          (m.verdict = .usable → ∀ a b rest, m.payload = a :: b :: rest →
            n'.lastMirrored = some (.reading (if nodeKind r = .flow then ofBytes2 a b else a.toNat))))

/-- When the upper transmitter has sent a frame and HOLD from above is released, the next in order is granted: an alarm
item or the head of UF, in turn when both wait; else the reply place; else a DROP REPORT to a lower position, the lowest
node first; else the head of UR or a routine item, in turn when both wait.  A report is built from the state as it stands,
and its pending flag is cleared; an unnumbered unit grants none.  With HOLD asserted nothing is granted.  The header
requested byte of a freed incident's report, the order of the held valves in an open one's and the NODE_BACK list's
indices are the model's choice (notes/assumptions/36.md, notes/assumptions/42.md, notes/assumptions/19.md). -/
def Obligations.UpperArbiterGrantsInOrder : Prop :=
  ∀ (s : State) (x : Sending), s.ti.upperTx = some x → x.reset = false →
    (s.pins.holdFromAbove = true → ∃ t, exec .upperFrameSent s = .next t ∧ quiet t = quiet s ∧ t.ti.upperTx = none ∧
      t.ti.uf = s.ti.uf ∧ t.ti.ur = s.ti.ur ∧ t.ti.reply = s.ti.reply) ∧
    (s.pins.holdFromAbove = false →
      (∀ f rest, s.ti.uf = f :: rest → (s.ti.lastWasA = true ∨ noAlarmItem s) →
        ∃ t, exec .upperFrameSent s = .next t ∧ quiet t = quiet s ∧ t.ti.upperTx = some ⟨f, false⟩ ∧ t.ti.uf = rest ∧
          t.ti.lastWasA = false ∧ t.ti.reply = s.ti.reply ∧ t.ti.ur = s.ti.ur) ∧
      (noAlarmItem s → s.ti.uf = [] → ∀ r, s.ti.reply = some r → (∀ d, s.ti.slot ≠ .due d) →
        ∃ t, exec .upperFrameSent s = .next t ∧ quiet t = quiet s ∧
          t.ti.upperTx = some ⟨{ r.frame with src := unitByte s.ti.position }, r.reset⟩ ∧ t.ti.reply = none ∧
          t.ti.ur = s.ti.ur) ∧
      (noAlarmItem s → s.ti.uf = [] → s.ti.reply = none → grantDropUp s = none → ∀ f rest, s.ti.ur = f :: rest →
        (s.ti.lastWasE = true → s.ti.summaryDue = false ∧ pendingMirror s = none) →
        ∃ t, exec .upperFrameSent s = .next t ∧ quiet t = quiet s ∧ t.ti.upperTx = some ⟨f, false⟩ ∧ t.ti.ur = rest ∧
          t.ti.lastWasE = true) ∧
      (s.ti.position.isSome → s.ti.lastWasA = false ∨ s.ti.uf = [] → alarmItemsAreSent s) ∧
      (∀ p, s.ti.position = some p → noAlarmItem s → s.ti.uf = [] → s.ti.reply = none →
        (∀ before i r after d n, s.ts.active.nodes = before ++ (i, r) :: after → (∀ q ∈ before, ¬ dropWaits (· < p) s q.2) →
          r.body = .drip d → assocGet r.key s.nd.nodes = some n → n.evPending = true →
          resolveUnit s.ti.position d.evUnit ≠ 0 → resolveUnit s.ti.position d.evUnit < p →
          sendsUp s (dropReportOf s (resolveUnit s.ti.position d.evUnit) i r n) (dropTaken r.key)) ∧
        ((∀ q ∈ s.ts.active.nodes, ¬ dropWaits (· < p) s q.2) → s.ti.ur = [] ∨ s.ti.lastWasE = true →
          routineItemsAreSent s)) ∧
      (s.ti.position = none → s.ti.uf = [] → s.ti.reply = none → s.ti.ur = [] →
        ∃ t, exec .upperFrameSent s = .next t ∧ quiet t = quiet s ∧ t.ti.upperTx = none))

/-- When the lower transmitter has sent a frame or its BREAK and HOLD from below is released, a pending onward NUMBER
is granted first, else the head of DF or a DROP REPORT to a higher position, the lowest node first, in turn when both
wait.  The DROP REPORT takes its material.  With HOLD asserted nothing is granted.  The BREAK ends 2 ms after its start,
at the clock reading of that moment or, by the model's choice, at a later one (notes/assumptions/2.md). -/
def Obligations.LowerArbiterGrantsInOrder : Prop :=
  ∀ (s u : State) (i : Instr), (i = .lowerFrameSent ∧ (∃ f, s.ti.lowerTx = .frame f) ∧ u = s) ∨
      (i = .lowerBreakSentEnd ∧ ∃ start, s.ti.lowerTx = .breaking start ∧ u = reachTime (start + 2) s) →
    (s.pins.holdFromBelow = true → ∃ t, exec i s = .next t ∧ quiet t = quiet u ∧ t.ti.lowerTx = .free ∧
      t.ti.df = s.ti.df ∧ t.ti.onward = s.ti.onward) ∧
    (s.pins.holdFromBelow = false →
      (∀ p, s.ti.onward = some p → ∃ t, exec i s = .next t ∧ quiet t = quiet u ∧
        t.ti.lowerTx = .frame ⟨255, unitByte s.ti.position, 0xE0#8, 0x10#8, [p]⟩ ∧ t.ti.onward = none ∧ t.ti.df = s.ti.df) ∧
      (s.ti.onward = none → ∀ f rest, s.ti.df = f :: rest → (s.ti.lastWasDf = false ∨ grantDropDown s = none) →
        ∃ t, exec i s = .next t ∧ quiet t = quiet u ∧ t.ti.lowerTx = .frame f ∧ t.ti.df = rest ∧ t.ti.lastWasDf = true) ∧
      (s.ti.onward = none → s.ti.df = [] ∨ s.ti.lastWasDf = true →
        ∀ p before j r after d n, s.ti.position = some p → s.ts.active.nodes = before ++ (j, r) :: after →
          (∀ q ∈ before, ¬ dropWaits (p < ·) s q.2) → (∀ q ∈ s.ts.active.nodes, q.2.key = r.key → q.2 = r) →
          r.body = .drip d → assocGet r.key s.nd.nodes = some n → n.evPending = true →
          p < resolveUnit s.ti.position d.evUnit →
          ∃ t, exec i s = .next t ∧ quiet t = quiet u ∧
            t.ti.lowerTx = .frame (dropReportOf s (resolveUnit s.ti.position d.evUnit) j r n) ∧ dropTaken r.key t ∧
            t.ti.df = s.ti.df ∧ t.ti.lastWasDf = false))

/-- HOLD_CHANGE moves the one input; while HOLD is asserted its transmitter starts no frame, and on its release a
waiting head of UF, respectively of DF, starts at once when nothing goes before it. -/
def Obligations.HoldStopsItsTransmitter : Prop :=
  (∀ (s : State) (b : Bool), ∃ t, exec (.holdChange .upper b) s = .next t ∧
      quiet t = quiet { s with pins := { s.pins with holdFromAbove := b } } ∧
      (b = true → t.ti.upperTx = s.ti.upperTx ∧ t.ti.uf = s.ti.uf ∧ t.ti.ur = s.ti.ur ∧ t.ti.reply = s.ti.reply) ∧
      (b = false → noAlarmItem s → s.ti.upperTx = none → ∀ f rest, s.ti.uf = f :: rest →
        t.ti.upperTx = some ⟨f, false⟩ ∧ t.ti.uf = rest)) ∧
    ∀ (s : State) (b : Bool), ∃ t, exec (.holdChange .lower b) s = .next t ∧
      quiet t = quiet { s with pins := { s.pins with holdFromBelow := b } } ∧
      (b = true → t.ti.lowerTx = s.ti.lowerTx ∧ t.ti.df = s.ti.df ∧ t.ti.onward = s.ti.onward) ∧
      (b = false → s.ti.onward = none → grantDropDown s = none → s.ti.lowerTx = .free → ∀ f rest, s.ti.df = f :: rest →
        t.ti.lowerTx = .frame f ∧ t.ti.df = rest)

/-! ### Reception and routing -/

/-- A frame that passed a FIFO's door stands at its tail, or was granted at once. -/
def enteredDown (s t : State) (f : Frame) : Prop :=
  t.ti.df = s.ti.df ++ [f] ∨ (∃ g, s.ti.df ++ [f] = g :: t.ti.df ∧ t.ti.lowerTx = .frame g)

/-- A checked frame for another unit is forwarded.  On the upper port, for a unit below, it restarts the presence timer
and goes into DF, or is discarded FIFO_FULL.  On the lower port, for a unit above, it goes into UF when it is an INCIDENT
REPORT, COOLING NOTICE, UNIT CONDITION or DROP REPORT, else into UR, or is granted at once. -/
def Obligations.FramesForOtherUnitsAreForwarded : Prop :=
  (∀ (s : State) (f : Frame) (p : Nat), s.ti.upperBreak = false → LegsAtRest s → s.ti.position = some p →
    upwardKind f.kind = false → f.kind ≠ kindNumber → p < f.dest.toNat → f.dest ≠ 255 →
    (s.ti.df.length < 8 → ∃ t, exec (.trunkFrameForward .upper f) s = .next t ∧ quiet t = quiet (presenceRestart s) ∧
      enteredDown s t f) ∧
    (8 ≤ s.ti.df.length → ∃ t, exec (.trunkFrameForward .upper f) s = .next t ∧
      quiet t = quiet { presenceRestart s with
        ti := { (presenceRestart s).ti with errorKind := .fifoFull, errorPort := .upper } })) ∧
  ∀ (s : State) (f : Frame) (p : Nat), LegsAtRest s → s.ti.position = some p → downwardKind f.kind = false →
    f.dest.toNat < p → f.dest ≠ 255 → s.ti.uf.length < 8 → s.ti.ur.length < 8 →
    ∃ t, exec (.trunkFrameForward .lower f) s = .next t ∧ quiet t = quiet s ∧
      (if urgentKind f.kind then
        t.ti.uf = s.ti.uf ++ [f] ∨ ∃ g, s.ti.uf ++ [f] = g :: t.ti.uf ∧ t.ti.upperTx = some ⟨g, false⟩
      else t.ti.ur = s.ti.ur ++ [f] ∨ ∃ g, s.ti.ur ++ [f] = g :: t.ti.ur ∧ t.ti.upperTx = some ⟨g, false⟩)

/-- A frame that is broken, overlong or fails a check is recorded with its kind and port and changes nothing else, but
that a LOAD TABLE for this unit that fails its payload CRC has had its effect as it arrived.  A checked frame for this
unit of a kind no block takes changes nothing at all, but that on the upper port it restarts the presence timer. -/
def Obligations.DiscardedFramesChangeNothingElse : Prop :=
  (∀ (s : State) (port : Port), (port = .upper → s.ti.upperBreak = false) → LegsAtRest s →
    ∀ (rx : Reception) (k : FrameError),
      (rx = .broken ∧ k = .broken) ∨ (rx = .overlong ∧ k = .overlong) ∨
        (∃ bytes, rx = .whole bytes ∧
          ((checkFrame bytes = .badHeader ∧ k = .headerCheck) ∨ (checkFrame bytes = .badPayload ∧ k = .payloadCrc))) →
      ∃ t, exec (.trunkFrameDiscard port rx) s = .next t ∧ t.ti.errorKind = k ∧ t.ti.errorPort = port ∧
        ((∀ bytes p, rx = .whole bytes → checkFrame bytes = .badPayload → port = .upper → s.ti.position = some p →
            bytes[3]? = some 0x11#8 → bytes[6]? = some 0x02#8 → bytes[0]? ≠ some (byte p) ∧ bytes[0]? ≠ some 255) →
          quiet t = quiet { s with ti := { s.ti with errorKind := k, errorPort := port } })) ∧
  ∀ (s : State) (f : Frame) (p : Nat), s.ti.position = some p → p ≤ 4 → f.dest = byte p → LegsAtRest s →
    f.kind ∉ [kindNumber, kindCommand, kindRelay, kindDropReport] → upwardKind f.kind = false →
    (s.ti.upperBreak = false → ∃ t, exec (.consumedFrameDiscarded .upper f) s = .next t ∧
      quiet t = quiet (presenceRestart s)) ∧
    ∃ t, exec (.consumedFrameDiscarded .lower f) s = .next t ∧ quiet t = quiet s

/-- A COMMAND for a unit above arrives misrouted: it is recorded as MISROUTED, it restarts the presence timer, and no
command is carried out.  Stated for every row of Table 10-5 but LOAD TABLE, and for RELAY. -/
def Obligations.MisroutedCommandsAreNotCarriedOut : Prop :=
  ∀ (s : State) (hdr : Header) (p : Nat) (x y z w : Byte) (payload : List Byte), s.ti.upperBreak = false → LegsAtRest s →
    s.ti.position = some p → hdr.dest.toNat < p →
    ∀ i ∈ [Instr.status hdr, .readTable hdr x y z w, .commit hdr s.pins.service, .discard hdr s.pins.service, .protect hdr x,
        .readIncidents hdr, .readIncident hdr x, .isolate hdr x, .release hdr x, .headerClose hdr, .headerOpen hdr,
        .exerciseStart hdr x y, .exerciseSuspend hdr, .exerciseResume hdr, .exerciseAbort hdr, .readExercise hdr,
        .discover hdr x, .readPresence hdr x, .readValves hdr x, .unitReset hdr, .undefinedCommand hdr payload,
        .relay hdr payload],
      ∃ t, exec i s = .next t ∧ quiet t = quiet { presenceRestart s with
        ti := { (presenceRestart s).ti with errorKind := .misrouted, errorPort := .upper } }

/-- While the command slot is occupied by a relay under way, a load or a UNIT RESET, a COMMAND for this unit is not
carried out: with the reply place free it is answered BUSY with its own code, and a RELAY with a RELAY REPLY BUSY. -/
def Obligations.OccupiedSlotAnswersBusy : Prop :=
  ∀ (s : State) (hdr : Header) (x y z w : Byte) (payload : List Byte), ForUnit s hdr.dest → LegsAtRest s →
    (s.ti.slot = .loading ∨ s.ti.slot = .unitReset ∨ ∃ k f, s.ti.slot = .relay k f true) → s.ti.reply = none →
    ∀ p ∈ [(Instr.status hdr, 0x01#8), (.readTable hdr x y z w, 0x03#8), (.commit hdr s.pins.service, 0x04#8),
        (.discard hdr s.pins.service, 0x05#8), (.protect hdr x, 0x06#8), (.readIncidents hdr, 0x10#8),
        (.readIncident hdr x, 0x11#8), (.isolate hdr x, 0x12#8), (.release hdr x, 0x13#8), (.headerClose hdr, 0x20#8),
        (.headerOpen hdr, 0x21#8), (.exerciseStart hdr x y, 0x30#8), (.exerciseSuspend hdr, 0x31#8),
        (.exerciseResume hdr, 0x32#8), (.exerciseAbort hdr, 0x33#8), (.readExercise hdr, 0x34#8), (.discover hdr x, 0x40#8),
        (.readPresence hdr x, 0x41#8), (.readValves hdr x, 0x42#8), (.unitReset hdr, 0x7F#8)],
      (∃ t, exec p.1 s = .next t ∧ quiet t = quiet (presenceRestart s) ∧ t.ti.slot = s.ti.slot ∧
        Answered t (unitFrame s.ti.position kindReply [p.2, 0x01#8]) false) ∧
      ∃ t, exec (.relay hdr payload) s = .next t ∧ quiet t = quiet (presenceRestart s) ∧ t.ti.slot = s.ti.slot ∧
        Answered t (unitFrame s.ti.position kindRelayReply [0x01#8]) false

/-! ### Commands of Table 10-5 -/

/-- The command `c` on `s` completes: it leaves `u`, but for what a grant may move, and is answered by a REPLY with this
payload. -/
def Completes (c : Instr) (s u : State) (payload : List Byte) : Prop :=
  ∃ t, exec c s = .next t ∧ quiet t = quiet u ∧ Replied t payload

/-- A COMMAND with this header is for this unit, and the slot and the reply place are free. -/
def Taken (s : State) (hdr : Header) : Prop := ForUnit s hdr.dest ∧ CanAnswer s

/-- STATUS is answered from the state of each block, and changes none. -/
def Obligations.StatusReportsTheBlocks : Prop :=
  ∀ (hdr : Header) (s : State), Taken s hdr → ∃ bits : Half,
    (∀ u, bits.getLsbD (conditionCode u - 1) = (conditionOf (presenceRestart s) u).active) ∧
    (∀ i, 9 ≤ i → bits.getLsbD i = false) ∧
    Completes (.status hdr) s (presenceRestart s)
      ([0x01, 0x00, unitByte s.ti.position] ++ bytes2 (if s.rt.running then s.rt.number.toNat else 0) ++
        bytes2 (if s.rt.running then s.rt.period.getD 0 else 0) ++
        [guardCode s.ts.guard, flagByte s.ts.commitPending, 0x01, headerCode s.vs.header.state, exStateCode s.xc.state,
          byte s.ie.incidents.length, byte (closedCount s)] ++ bytes2 bits.toNat ++
        [errorCode s.ti.errorKind, portCode s.ti.errorPort])

/-- READ INCIDENTS lists ids and states in table order; READ INCIDENT gives the record in the order of Table 5-2, or
BAD_ARGUMENT; READ PRESENCE gives a leg's discovery and Presence List, or BAD_ARGUMENT; READ EXERCISE gives the exercise.
None changes anything.  The order of an incident's held valves is the model's choice (notes/assumptions/42.md). -/
def Obligations.ReadsAnswerFromTheState : Prop :=
  ∀ (hdr : Header) (s : State), Taken s hdr →
    Completes (.readIncidents hdr) s (presenceRestart s)
      ([0x10, 0x00, byte s.ie.incidents.length] ++ s.ie.incidents.flatMap fun i => [byte i.id, incStateCode i.state]) ∧
    (∀ id, (∀ i ∈ s.ie.incidents, i.id ≠ id.toNat) →
      Completes (.readIncident hdr id) s (presenceRestart s) [0x11, 0x03]) ∧
    (∀ id i, incidentById s id.toNat = some i →
      Completes (.readIncident hdr id) s (presenceRestart s)
        ([0x11, 0x00, byte i.id, originCode i.origin, incStateCode i.state, reasonCode i.reason, byte i.members.length] ++
          i.members.map (branchByte s) ++ [byte i.rows.length] ++ i.rows.flatMap rowEntryBytes ++
          [optBranchByte s i.target] ++ (match i.probeRow with | some k => [byte k.unit, byte k.node] | none => [255, 255]) ++
          [optBranchByte s i.probeBranch, probePhaseCode i.probePhase, byte i.probed.length] ++ i.probed.map (branchByte s) ++
          [optBranchByte s i.reopening, byte i.held.length] ++ i.held.map (branchByte s) ++ optRound i.closing ++
          [byte i.settle, byte i.probeQuiet] ++ bytes2 i.opened.toNat ++ bytes2 i.changed.toNat ++
          [flagByte i.headerReq, flagByte i.pending])) ∧
    (∀ leg : Byte, 4 ≤ leg.toNat → Completes (.readPresence hdr leg) s (presenceRestart s) [0x41, 0x03]) ∧
    (∀ (leg : Byte) (l : Leg), leg.toNat = l.val →
      Completes (.readPresence hdr leg) s (presenceRestart s)
        ([0x41, 0x00, flagByte (legAt s l).discovering, byte (legAt s l).nextAddress, byte (legAt s l).presence.length] ++
          (legAt s l).presence.flatMap fun p => byte p.node :: identKindCode p.kind :: p.serial)) ∧
    Completes (.readExercise hdr) s (presenceRestart s)
      ([0x34, 0x00, exStateCode s.xc.state, flagByte s.xc.autoCause, flagByte s.xc.manualCause, flagByte s.xc.abortPending,
          endKindCode s.xc.endKind] ++
        (match s.xc.range with | none => [255, 0] | some .all => [255, 24] | some (.span f c) => [byte f, byte c]) ++
        [byte s.xc.plan.length, optByte (s.xc.plan[s.xc.cursor]?)] ++
        (match s.xc.test with
          | some x => [byte x.branch, placeByte x.key, byte x.limit] ++ bytes2 x.round.toNat
          | none => [255, 0, 0, 0, 0]) ++
        [byte s.xc.results.length] ++ s.xc.results.flatMap resultBytes)

/-- READ VALVES gives at most 18 whole records from the index asked upward, and where the next begins; READ TABLE gives
whole records from the first index upward, until the count, the table's end, or the REPLY's room is reached.  Neither
changes anything. -/
def Obligations.PagedReadsGiveWholeRecords : Prop :=
  ∀ (hdr : Header) (s : State), Taken s hdr →
    (∀ first : Byte, ∃ page rest, valveList s first.toNat = page ++ rest ∧ page.length ≤ 18 ∧ ∃ next : Byte,
      (rest = [] ∧ next = 255 ∨ rest ≠ [] ∧ page.length = 18 ∧ ∃ p, page.getLast? = some p ∧ next = byte (p.1 + 1)) ∧
      Completes (.readValves hdr first) s (presenceRestart s)
        ([0x42, 0x00, next, byte page.length] ++ page.flatMap fun p => valveBytes p.1 p.2.1 p.2.2)) ∧
    (∀ bank table first count : Byte,
      (1 < bank.toNat ∨ 3 < table.toNat ∨ count = 0 ∨ ∃ x, tableOf table = some x ∧ lastIndex x < first.toNat) →
      Completes (.readTable hdr bank table first count) s (presenceRestart s) [0x03, 0x03]) ∧
    ∀ (bank table first count : Byte) (x : TableId), bank.toNat ≤ 1 → tableOf table = some x → count ≠ 0 →
      first.toNat ≤ lastIndex x → ∃ n,
        let b := if bank = 0 then s.ts.active else s.ts.staging
        let record := fun i => tableRecordBytes b x (first.toNat + i)
        let room := ((List.range n).flatMap record).length
        n ≤ count.toNat ∧ first.toNat + n ≤ lastIndex x + 1 ∧ room ≤ 228 ∧
        (n = count.toNat ∨ first.toNat + n = lastIndex x + 1 ∨ 228 < room + (record n).length) ∧
        Completes (.readTable hdr bank table first count) s (presenceRestart s)
          ([0x03, 0x00, bank, table, first, byte n, flagByte s.ts.commitPending] ++ outcomeBytes s.ts.outcome ++
            (List.range n).flatMap record)

/-- The guard level refuses table changes: FIXED, or SERVICE while the pin reads low. -/
def guardRefuses (s : State) (service : Bool) : Bool :=
  decide (s.ts.guard = .fixed ∨ (s.ts.guard = .service ∧ service = false))

/-- DISCARD, unless the guard refuses it, copies the active bank into staging and cancels a pending commit.  PROTECT
takes a level that is defined and not lower than the one in force. -/
def Obligations.DiscardAndProtectFollowTheGuard : Prop :=
  ∀ (hdr : Header) (s : State), Taken s hdr →
    (∀ b, let u := presenceRestart (withService b s)
      (guardRefuses s b → Completes (.discard hdr b) s u [0x05, 0x02]) ∧
      (¬ guardRefuses s b → Completes (.discard hdr b) s
        { u with ts := { u.ts with staging := s.ts.active, commitPending := false,
                                   outcome := if s.ts.commitPending then .cancelled else s.ts.outcome } } [0x05, 0x00])) ∧
    (∀ level : Byte, 2 < level.toNat → Completes (.protect hdr level) s (presenceRestart s) [0x06, 0x03]) ∧
    (∀ level : Byte, level.toNat < guardRank s.ts.guard → Completes (.protect hdr level) s (presenceRestart s) [0x06, 0x02]) ∧
    ∀ (level : Byte) (g : Guard), guardRank g = level.toNat → guardRank s.ts.guard ≤ level.toNat →
      Completes (.protect hdr level) s { presenceRestart s with ts := { s.ts with guard := g } } [0x06, 0x00, level]

/-! ### COMMIT -/

/-- The checks of Table 8-2 find no offence exactly when the bank has settings, no two nodes have one key, every branch
names two FLOW entries and a VALVE entry, no node stands in two branch slots, no two rows have one resolved key, every
local row names a DRIP entry of this unit's evidence, and every row's candidates are branches, each named once. -/
def Obligations.CommitChecksAreThoseOfTheTable : Prop :=
  ∀ (pos : Option Nat) (b : Bank), firstOffence pos b = none ↔
    b.settings.isSome ∧ (b.nodes.map fun p => p.2.key).Nodup ∧
    (∀ p ∈ b.branches, (entryAt b.nodes p.2.supply).map nodeKind = some .flow ∧
      (entryAt b.nodes p.2.ret).map nodeKind = some .flow ∧ (entryAt b.nodes p.2.valve).map nodeKind = some .valve) ∧
    (b.branches.flatMap fun p => [p.2.supply, p.2.ret, p.2.valve]).Nodup ∧
    (b.rows.map fun p => rowKey pos p.2).Nodup ∧
    (∀ p ∈ b.rows, resolveUnit pos p.2.unit = 0 →
      ∃ r d, entryAt b.nodes p.2.node = some r ∧ r.body = .drip d ∧ resolveUnit pos d.evUnit = 0) ∧
    (∀ p ∈ b.rows, ∀ c ∈ p.2.cands, (entryAt b.branches c.branch).isSome) ∧
    ∀ p ∈ b.rows, (p.2.cands.map (·.branch)).Nodup

/-- COMMIT is judged by the first that holds: GUARDED; BUSY; INVALID with table, index and reason; ROUND_BUDGET with the
lowest leg whose plan exceeds 80 % of the period; IN_USE with the branch; each of these changes nothing.  Else, while
rounds run, the commit is pending. -/
def Obligations.CommitIsJudgedInOrder : Prop :=
  ∀ (hdr : Header) (s : State) (b : Bool), Taken s hdr → LegsAtRest s →
    let u := presenceRestart (withService b s)
    if guardRefuses s b then Completes (.commit hdr b) s u [0x04, 0x02]
    else if s.xc.state ≠ .idle ∨ s.ts.commitPending = true then Completes (.commit hdr b) s u [0x04, 0x01]
    else
      match firstOffence s.ti.position s.ts.staging with
      | some o => Completes (.commit hdr b) s u [0x04, 0x06, tableCode o.table, byte o.index, byte o.reason]
      | none =>
        match overBudget s.ts.staging with
        | some l => Completes (.commit hdr b) s u [0x04, 0x07, byte l.val]
        | none =>
          match inUseOffence s with
          | some i => Completes (.commit hdr b) s u [0x04, 0x08, byte i]
          | none =>
            s.rt.running = true → Completes (.commit hdr b) s { u with ts := { u.ts with commitPending := true } } [0x04, 0x00]

/-- The first accepted COMMIT after a reset switches at once and starts the rounds: the staging bank is the active bank,
the round has the number in force and starts now under the bank's period, and every leg has its poll list. -/
def Obligations.FirstCommitStartsTheRounds : Prop :=
  ∀ (hdr : Header) (s : State) (b : Bool), Taken s hdr → ¬ guardRefuses s b → s.xc.state = .idle → s.ts.commitPending = false →
    commitRefusal s = none → s.rt.running = false →
    ∃ t, exec (.commit hdr b) s = .next t ∧ Replied t [0x04, 0x00] ∧
      quiet t = quiet { presenceRestart (withService b s) with
        rt := t.rt, le := t.le, nd := t.nd, fa := t.fa, de := t.de, ie := t.ie, vs := t.vs, xc := t.xc, ts := t.ts } ∧
      t.ts = { s.ts with active := s.ts.staging, activeFlag := true, commitPending := false, outcome := .switched s.rt.number } ∧
      t.rt.running = true ∧ t.rt.number = s.rt.number ∧ t.rt.start = some s.clock ∧
      t.rt.period = some (settingsOf s.ts.staging).period ∧
      (∀ l, (legAt t l).pollList = (legNodes s.ts.staging l).map (·.1)) ∧
      t.fa.supplyMeter = { s.fa.supplyMeter with snapshot := some s.fa.supplyMeter.count, countError := false } ∧
      t.fa.returnMeter = { s.fa.returnMeter with snapshot := some s.fa.returnMeter.count, countError := false }

/-! ### LOAD TABLE -/

/-- The first bytes of a LOAD TABLE for this unit are judged in order: addressing, guard, table id, first index.  A
refused one is answered; an accepted one takes the slot, and its records follow.  Of a frame that ends before its table
id or first index, addressing and guard are judged all the same; one that passes them, and the table id when it has
arrived, takes the slot to its end. -/
def Obligations.LoadTableIsJudgedOnItsFirstBytes : Prop :=
  ∀ (hdr : Header) (s : State) (table first : Option Byte) (b : Bool), Taken s hdr → s.ti.load = none →
    let refused := fun (code : Byte) => Completes (.loadTable hdr table first b) s
      { withService b s with ti := { s.ti with load := some (freshLoad hdr .refused table first) } } [0x02, code]
    let enters := fun (mode : LoadMode) => ∃ t, exec (.loadTable hdr table first b) s = .next t ∧ t.ti.slot = .loading ∧
      quiet t = quiet { withService b s with ti := { s.ti with load := some (freshLoad hdr mode table first) } }
    if hdr.dest = 255 then refused 0x03
    else if guardRefuses s b then refused 0x02
    else
      match table with
      | none => enters .short
      | some id =>
        match tableOf id with
        | none => refused 0x03
        | some x =>
          match first with
          | none => enters .short
          | some n => if lastIndex x < n.toNat then refused 0x03 else enters (.accepted x)

/-- One whole record of an accepted LOAD TABLE: a failed CRC-8, an index beyond the table and a refused field end the
processing and leave staging; else it replaces the entry at its index.  After an early end, in a load this unit does not
take (refused, busy or passing on), and in one that ends before its first index, bytes only count toward the frame's CRC.  That a refused record's clamped fields
are not counted is the model's choice (notes/assumptions/31.md). -/
def Obligations.LoadRecordsAreAppliedWhole : Prop :=
  ∀ (s : State) (l : Load) (bytes : List Byte), s.ti.load = some l →
    let after := fun (l' : Load) (bank : Bank) => ∃ t, exec (.loadTableRecord bytes) s = .next t ∧
      quiet t = quiet { s with ti := { s.ti with load := some { l' with payload := l.payload ++ bytes } },
                               ts := { s.ts with staging := bank } }
    (l.mode = .refused ∨ l.mode = .busy ∨ l.mode = .passing ∨ l.mode = .short → after l s.ts.staging) ∧
    ∀ x, l.mode = .accepted x →
    (l.stop.isSome → after l s.ts.staging) ∧
    (l.stop = none → recordSize x bytes = .bad → after { l with stop := some .badRecord } s.ts.staging) ∧
    (l.stop = none → recordSize x bytes = .bytes bytes.length →
      if bytes.getLast? ≠ some (crc8 bytes.dropLast) then after { l with stop := some .checkFailed } s.ts.staging
      else if lastIndex x < l.next then after { l with stop := some .badRecord } s.ts.staging
      else
        match parseRecord x bytes.dropLast with
        | none => after { l with stop := some .badRecord } s.ts.staging
        | some (body, n) =>
          after { l with applied := l.applied + 1, clamped := l.clamped + n, next := l.next + 1 }
            (putRecord x l.next body s.ts.staging))

/-- The end of a LOAD TABLE in the slot, sent to this unit's position: its REPLY carries the result, the count applied,
how the frame ended, the CRC verdict, the clamped count and where processing ended early; the slot is freed.  A frame that
does not end whole and good leaves its error; one that ends so before its first index is answered in the same way.  Of a
broken one the CRC verdict is open, and so are a table id and a first index that never arrived (notes/assumptions/8.md).
That the end of the frame alone is no early end of the processing is the model's choice (notes/assumptions/32.md), and so
is the BAD_ARGUMENT for one that ends whole and good before its first index (notes/assumptions/33.md). -/
def Obligations.LoadTableEndIsAnswered : Prop :=
  ∀ (s : State) (l : Load) (p : Nat), s.ti.load = some l → (l.mode = .short ∨ ∃ x, l.mode = .accepted x) →
    s.ti.slot = .loading → s.ti.reply = none → s.ti.upperBreak = false → s.ti.position = some p → p ≤ 4 →
    l.hdr.dest = byte p →
    let answered := fun (e : LoadEnding) (u : State) (ok whole failed : Byte) =>
      ∃ table first : Byte, (∀ b, l.table = some b → table = b) ∧ (∀ b, l.first = some b → first = b) ∧
        Completes (.loadTableEnd [] e) s u
          [0x02, (match l.stop with | some .badRecord => 0x04 | some .checkFailed => 0x05 | none => ok), table, first,
            byte l.applied, whole, failed, byte l.clamped, if l.stop.isSome then byte l.next else 255]
    let checked := { presenceRestart s with ti := { (presenceRestart s).ti with load := none } }
    let ended := fun (e : FrameError) =>
      { s with ti := { s.ti with load := none, errorKind := e, errorPort := .upper } }
    (l.mode ≠ .short → answered (.whole (crc16 l.payload)) checked 0x00 0x01 0x00) ∧
      (l.mode = .short → Completes (.loadTableEnd [] (.whole (crc16 l.payload))) s checked [0x02, 0x03]) ∧
      (∀ c, c ≠ crc16 l.payload → answered (.whole c) (ended .payloadCrc) 0x05 0x01 0x01) ∧
      (∀ c, answered (.overlong c) (ended .overlong) 0x05 0x00 (if c = crc16 l.payload then 0x00 else 0x01)) ∧
      ∃ v, (v = 0x00 ∨ v = 0x01) ∧ answered .broken (ended .broken) 0x05 0x00 v

/-! ### NUMBER, RELAY, UNIT RESET and undefined commands -/

/-- NUMBER with `p`: the position afterwards, the result, and the onward NUMBER, case by case.  With the reply place free
the REPLY states the position; the onward NUMBER waits, or has been granted.  That `p` = 0 leaves one that waits is the
model's choice (notes/assumptions/34.md). -/
def Obligations.NumberingFollowsTheCases : Prop :=
  ∀ (hdr : Header) (s : State) (p : Byte), s.ti.upperBreak = false → s.ti.reply = none → (∀ d, s.ti.slot ≠ .due d) →
    let takes := fun (position : Option Nat) (code : Byte) (onward : Option Byte) =>
      ∃ t, exec (.number hdr p) s = .next t ∧
        quiet t = quiet { presenceRestart s with ti := { (presenceRestart s).ti with position := position } } ∧
        Answered t (unitFrame position kindReply [0x10, code, unitByte position]) false ∧
        (t.ti.onward = onward ∨ t.ti.onward = none ∧
          ∃ q, onward = some q ∧ t.ti.lowerTx = .frame ⟨255, unitByte position, 0xE0#8, 0x10#8, [q]⟩)
    (p = 0 → takes s.ti.position 0x03 s.ti.onward) ∧
    (p ≠ 0 → s.ts.activeFlag = true → ∀ q, s.ti.position = some q → takes (some q) 0x0D (some (byte (q + 1)))) ∧
    (p ≠ 0 → s.ts.activeFlag = false → p.toNat ≤ 4 → takes (some p.toNat) 0x00 (some (p + 1))) ∧
    (s.ts.activeFlag = false → 5 ≤ p.toNat → takes none 0x0E (some (if p = 255 then 255 else p + 1)))

/-- RELAY for this unit: a payload that is not one good inner frame for a node of a leg is answered BAD_ARGUMENT; while
its leg is busy it waits in the slot; on an idle leg a VALVE SET to a VALVE of the active Node Table is answered HELD and
not sent, and any other inner frame is sent.  A COMMAND that Table 10-5 does not list is answered BAD_ARGUMENT with its
code; without a code the reply's code is open (notes/assumptions/8.md).  A relay sent ends with a RELAY REPLY: OK and the
reply frame of any kind from its node, PARTIAL and 239 bytes of a longer one, or TIMEOUT for a miss; the slot is freed.
One whose slot BREAK has cleared ends without.  No block but the Leg Engines and the Valve Supervisor may change with the
outcome: the legs go on, and the whole of the valve state is left free, since a leg may take the head of its Action Queue.
That an expiry has the clock at the window's end or later, and what its stray bytes do, is the model's choice
(notes/assumptions/2.md, notes/assumptions/26.md). -/
def Obligations.RelaysAndUndefinedCommandsAreJudged : Prop :=
  (∀ (s : State) (l : Leg) (x : Txn) (bytes : List Byte) (opened limit : Nat) (dropped : Bool), (legAt s l).txn = some x →
    x.purpose = .relay dropped → x.phase = .window opened limit → (legAt s l).disregard = false →
    let goesOn := fun (i : Instr) (u : State) (answer : Option (List Byte)) =>
      ∃ t, exec i s = .next t ∧ quiet t = quiet { u with le := t.le, vs := t.vs } ∧
        if dropped then
          (∀ k f, s.ti.slot ≠ .relay k f false) → s.ti.reply = none → s.ti.upperTx.isSome → t.ti.reply = none
        else ∀ payload, answer = some payload → s.ti.reply = none →
          t.ti.slot = .empty ∧ Answered t (unitFrame s.ti.position kindRelayReply payload) false
    (∀ f, checkFrame bytes = .good f → f.place = placeByte x.key → goesOn (.legReplyEnd l bytes) s
      (some (if bytes.length ≤ 239 then 0x00 :: bytes else 0x05 :: bytes.take 239))) ∧
    ((∀ f, checkFrame bytes = .good f → f.place ≠ placeByte x.key) → goesOn (.legReplyEnd l bytes) s (some [0x0F])) ∧
    goesOn (.legLineIdle l .brokenReply) s (some [0x0F]) ∧ goesOn (.legLineIdle l .overlongReply) s (some [0x0F]) ∧
    ∀ stray, goesOn (.responseWindowExpiry l stray) (reachTime (opened + limit) s) (some [0x0F])) ∧
  ∀ (hdr : Header) (s : State) (payload : List Byte), Taken s hdr → LegsAtRest s →
    (relayTarget payload = none → ∃ t, exec (.relay hdr payload) s = .next t ∧ quiet t = quiet (presenceRestart s) ∧
      t.ti.slot = .empty ∧ Answered t (unitFrame s.ti.position kindRelayReply [0x03]) false) ∧
    (∀ k f, relayTarget payload = some (k, f) →
      (legReady (legAt s k.leg) = false → ∃ t, exec (.relay hdr payload) s = .next t ∧
        quiet t = quiet (presenceRestart s) ∧ t.ti.slot = .relay k f false) ∧
      (legReady (legAt s k.leg) = true → f.kind = kindValveSet ∧ isValve s.ts.active k = true →
        ∃ t, exec (.relay hdr payload) s = .next t ∧ quiet t = quiet (presenceRestart s) ∧ t.ti.slot = .empty ∧
          Answered t (unitFrame s.ti.position kindRelayReply [0x0A]) false) ∧
      (legReady (legAt s k.leg) = true → ¬ (f.kind = kindValveSet ∧ isValve s.ts.active k = true) →
        ∃ t, exec (.relay hdr payload) s = .next t ∧ t.ti.slot = .relay k f true ∧
          quiet t = quiet (setLeg k.leg (fun e => { e with txn := some ⟨.relay false, k, f, .sending⟩ }) (presenceRestart s)))) ∧
    (commandDefined payload = false → ∀ c args, payload = c :: args →
      Completes (.undefinedCommand hdr payload) s (presenceRestart s) [c, 0x03]) ∧
    ∃ c, Completes (.undefinedCommand hdr []) s (presenceRestart s) [c, 0x03]

/-- UNIT RESET is answered and keeps the slot; it takes effect when its reply's last byte has been sent.  That it does so
when BREAK has cleared the slot meanwhile, and what goes on over the reset, is the model's choice (notes/assumptions/15.md), and so are the next discovery address 1 and the port
beside error kind NONE after it (notes/assumptions/5.md), and that a LOAD TABLE in reception that passes to another unit
is dropped (notes/assumptions/35.md). -/
def Obligations.UnitResetTakesEffectAfterItsReply : Prop :=
  (∀ (hdr : Header) (s : State), Taken s hdr → ∃ t, exec (.unitReset hdr) s = .next t ∧ quiet t = quiet (presenceRestart s) ∧
    t.ti.slot = .unitReset ∧ Answered t (unitFrame s.ti.position kindReply [0x7F, 0x00]) true) ∧
  ∀ (s : State) (f : Frame), s.ti.upperTx = some ⟨f, true⟩ →
    exec .upperFrameSent s = .next (resetLeaves { s with ti := { s.ti with upperTx := none } })

/-! ### The header drive -/

/-- A header drive on its way: the outputs of state `st`, the stroke timer started now, the limits as before, and
HEADER_FAULT inactive. -/
def strokes (s : State) (st : HeaderState) (h : HeaderDrive) : Prop :=
  h.state = st ∧ h.closeReq = decide (st = .closing) ∧ h.openReq = decide (st = .opening) ∧
    h.timer = some ⟨s.clock, (settings s).hdrStroke⟩ ∧ h.atClosed = s.vs.header.atClosed ∧ h.atOpen = s.vs.header.atOpen ∧
    h.fault.active = (s.vs.header.fault.active && decide (s.vs.header.state ≠ .fault)) ∧
    h.fault.detail = s.vs.header.fault.detail

/-- A header drive that stands: both outputs released and no timer, the limits as given. -/
def stands (st : HeaderState) (atClosed atOpen : Bool) (h : HeaderDrive) : Prop :=
  h.state = st ∧ h.closeReq = false ∧ h.openReq = false ∧ h.timer = none ∧ h.atClosed = atClosed ∧ h.atOpen = atOpen

/-- A header command completes with a result code and the header state, having moved the header drive alone, to a
state of the drive for which `P` holds. -/
def movesHeader (c : Instr) (s : State) (code result : Byte) (P : HeaderDrive → Prop) : Prop :=
  ∃ h, P h ∧ Completes c s { presenceRestart s with vs := { s.vs with header := h } }
    [code, result, headerCode h.state]

/-- HEADER CLOSE and HEADER OPEN, by the drive state, the limits and the incidents. -/
def Obligations.HeaderCommandsFollowTheDriveState : Prop :=
  ∀ (hdr : Header) (s : State), Taken s hdr →
    let h := s.vs.header
    (h.state = .closed ∨ h.state = .closing → movesHeader (.headerClose hdr) s 0x20 0x00 (· = h)) ∧
    (h.state = .fault → h.atClosed = true → h.atOpen = true →
      Completes (.headerClose hdr) s (presenceRestart s) [0x20, 0x0C]) ∧
    (h.state ≠ .closed → h.state ≠ .closing → ¬ (h.atClosed = true ∧ h.atOpen = true) →
      movesHeader (.headerClose hdr) s 0x20 0x00 fun h' =>
        if h.atClosed then stands .closed true false h' else strokes s .closing h') ∧
    (anyEscalated s = true → Completes (.headerOpen hdr) s (presenceRestart s) [0x21, 0x0B]) ∧
    (anyEscalated s = false →
      (h.state = .opened ∨ h.state = .opening → movesHeader (.headerOpen hdr) s 0x21 0x00 (· = h)) ∧
      (h.state = .fault → h.atClosed = true → h.atOpen = true →
        Completes (.headerOpen hdr) s (presenceRestart s) [0x21, 0x0C]) ∧
      (h.state ≠ .opened → h.state ≠ .opening → ¬ (h.atClosed = true ∧ h.atOpen = true) →
        movesHeader (.headerOpen hdr) s 0x21 0x00 fun h' =>
          if h.atOpen then stands .opened false true h' else strokes s .opening h'))

/-- The limit inputs and the stroke timer move the header drive as its table says, and nothing else: a limit reached, or
both together, end a stroke; an undriven state follows the limits; FAULT is left by neither; the timer's expiry ends a
stroke in FAULT with its detail. -/
def Obligations.HeaderEventsMoveTheDrive : Prop :=
  (∀ (s : State) (a b : Bool), ∃ t, exec (.headerLimitChange a b) s = .next t ∧
    quiet t = quiet { s with vs := { s.vs with header := t.vs.header } } ∧
    t.vs.header.atClosed = a ∧ t.vs.header.atOpen = b ∧
    (s.vs.header.state = .closing →
      (a = true → stands (if b then .fault else .closed) a b t.vs.header) ∧
      (a = false → t.vs.header.state = .closing ∧ t.vs.header.closeReq = s.vs.header.closeReq ∧
        t.vs.header.timer = s.vs.header.timer)) ∧
    (s.vs.header.state = .opening →
      (b = true → stands (if a then .fault else .opened) a b t.vs.header) ∧
      (b = false → t.vs.header.state = .opening ∧ t.vs.header.openReq = s.vs.header.openReq ∧
        t.vs.header.timer = s.vs.header.timer)) ∧
    (s.vs.header.state = .opened ∨ s.vs.header.state = .closed ∨ s.vs.header.state = .unknown →
      stands (if a then (if b then .fault else .closed) else if b then .opened else .unknown) a b t.vs.header) ∧
    (s.vs.header.state = .fault → t.vs.header.state = .fault) ∧
    (s.vs.header.state ≠ .fault → t.vs.header.state = .fault →
      t.vs.header.fault.active = true ∧ t.vs.header.fault.detail = 3)) ∧
  ∀ (s : State) (x : Timer), s.vs.header.timer = some x → ∀ st ∈ [HeaderState.closing, .opening], s.vs.header.state = st →
    ∃ t, exec .headerStrokeTimerExpiry s = .next t ∧
      quiet t = quiet { reachTime (x.start + 1000 * x.limit) s with vs := { s.vs with header := t.vs.header } } ∧
      stands .fault s.vs.header.atClosed s.vs.header.atOpen t.vs.header ∧ t.vs.header.fault.active = true ∧
      t.vs.header.fault.detail = if st = .closing then 1 else 2

/-! ### Incidents -/

/-- ISOLATE is answered by the first that applies: BAD_ARGUMENT, WRONG_STATE, VALVE_FAULT, LIMIT, BUSY, each without
effect.  For a branch in no incident a MANUAL incident opens in ISOLATING, holding the branch's valve; for a member of a
REPORT_ONLY incident that incident turns to ISOLATING with the branch as target.  The valve, when it was free or under
test, is the incident's with target CLOSE, a test is PREEMPTED, and the cooling notice reads LOST. -/
def Obligations.IsolateClosesTheBranch : Prop :=
  ∀ (hdr : Header) (s : State) (n : Byte), Taken s hdr → LegsAtRest s →
    match identAt s.ts.active n.toNat with
    | none => Completes (.isolate hdr n) s (presenceRestart s) [0x12, 0x03]
    | some b =>
      (∀ i, incidentOf s b = some i → i.state ≠ .reportOnly → Completes (.isolate hdr n) s (presenceRestart s) [0x12, 0x0B]) ∧
      ((∀ i, incidentOf s b = some i → i.state = .reportOnly) →
        if valveFaulted s.vs b.valve = true then Completes (.isolate hdr n) s (presenceRestart s) [0x12, 0x0C]
        else if (settings s).isoLimit ≤ closedCount s then Completes (.isolate hdr n) s (presenceRestart s) [0x12, 0x09]
        else if incidentOf s b = none ∧ 8 ≤ s.ie.incidents.length then
          Completes (.isolate hdr n) s (presenceRestart s) [0x12, 0x01]
        else ∃ t id, exec (.isolate hdr n) s = .next t ∧ Replied t [0x12, 0x00, byte id] ∧
          quiet t = quiet { presenceRestart s with le := t.le, ie := t.ie, vs := t.vs, xc := t.xc } ∧
          (∃ i ∈ t.ie.incidents, i.id = id ∧ i.state = .isolating ∧ i.target = some b ∧ b ∈ i.members ∧ b ∈ i.held ∧
            (incidentOf s b = none → i.origin = .manual ∧ i.members = [b] ∧ i.held = [b])) ∧
          (incidentOf s b = none → id = nextFreeId s) ∧
          (∀ i, incidentOf s b = some i → id = i.id) ∧
          (∀ r, valveAt s.vs b.valve = some r → r.owner = .none → ∃ r', valveAt t.vs b.valve = some r' ∧
            r'.owner = .incident id ∧ r'.target = some .toClose) ∧
          (∀ r x, valveAt s.vs b.valve = some r → r.owner = .exercise → s.xc.test = some x → x.key = b.valve →
            t.xc.test = none ∧
            t.xc.results = s.xc.results ++ [⟨x.branch, .preempted, none, none, some x.limit, s.rt.number⟩] ∧
            ∃ r', valveAt t.vs b.valve = some r' ∧ r'.owner = .incident id ∧ r'.target = some .toClose ∧
              r'.unreliable = r.unreliable) ∧
          ((assocGet b s.ie.notices).isSome → ∃ x, assocGet b t.ie.notices = some x ∧ x.state = .lost))

/-- RELEASE is answered by the incident's state: BAD_ARGUMENT for an id no open incident has; BUSY for ISOLATING, and for
RELEASING with no held valve faulted; else an incident that holds no valve is freed with its members' evidence cleared,
and one that holds valves is RELEASING, a PROBING one with its probe ended and any other with its probe as it stands.
Each valve held, or in RELEASING each one held and faulted, is asked to reopen; in RELEASING no other is asked. -/
def Obligations.ReleaseFollowsTheIncidentState : Prop :=
  ∀ (hdr : Header) (s : State) (id : Byte), Taken s hdr → LegsAtRest s →
    match incidentById s id.toNat with
    | none => Completes (.release hdr id) s (presenceRestart s) [0x13, 0x03]
    | some i =>
      let reopens := fun (t : State) (b : BranchId) =>
        ∀ r, valveAt s.vs b.valve = some r → r.owner = .incident i.id ∨ r.owner = .none →
          ∃ r', valveAt t.vs b.valve = some r' ∧ r'.owner = .incident i.id ∧ r'.target = some .toOpen
      (i.state = .isolating ∨ i.state = .releasing ∧ (∀ b ∈ i.held, valveFaulted s.vs b.valve = false) →
        Completes (.release hdr id) s (presenceRestart s) [0x13, 0x01]) ∧
      (i.state ≠ .isolating → i.state ≠ .releasing →
        ∃ t, exec (.release hdr id) s = .next t ∧
          quiet t = quiet { presenceRestart s with le := t.le, fa := t.fa, de := t.de, ie := t.ie, vs := t.vs, xc := t.xc } ∧
          (i.held = [] → Replied t [0x13, 0x00, 0x07] ∧ (∀ j ∈ t.ie.incidents, j.id ≠ i.id) ∧
            (∀ b ∈ i.members, ∀ d, assocGet b t.de.branches = some d → d.score = 0) ∧
            ∀ b ∈ i.members, ∀ f, assocGet b t.fa.branches = some f → f.loss = 0 ∧ f.rem = 0) ∧
          (i.held ≠ [] → Replied t [0x13, 0x00, 0x06] ∧
            quiet t = quiet { presenceRestart s with le := t.le, ie := t.ie, vs := t.vs, xc := t.xc } ∧
            (∀ b ∈ i.held, reopens t b) ∧
            ∃ j ∈ t.ie.incidents, j.id = i.id ∧ j.state = .releasing ∧ j.members = i.members ∧ j.held = i.held ∧
              if i.state = .probing then j.probeRow = none ∧ j.probeBranch = none ∧ j.probePhase = .none
              else j.probeRow = i.probeRow ∧ j.probeBranch = i.probeBranch ∧ j.probePhase = i.probePhase)) ∧
      (i.state = .releasing → (∃ b ∈ i.held, valveFaulted s.vs b.valve = true) →
        ∃ t, exec (.release hdr id) s = .next t ∧ Replied t [0x13, 0x00, 0x06] ∧
          quiet t = quiet { presenceRestart s with le := t.le, vs := t.vs, xc := t.xc } ∧
          (∀ b ∈ i.held, valveFaulted s.vs b.valve = true → reopens t b) ∧
          ∀ k r, valveAt s.vs k = some r → (∀ b ∈ i.held, valveFaulted s.vs b.valve = true → b.valve ≠ k) →
            ∃ r', valveAt t.vs k = some r' ∧ r'.owner = r.owner ∧ r'.target = r.target ∧ r'.tag = r.tag)

/-! ### Exercise and discovery -/

/-- EXERCISE START is refused BUSY while an exercise runs or a commit is pending, and BAD_ARGUMENT for a bad range.  Else
the exercise begins with its plan: an empty plan finishes it at once; with an incident in ISOLATING or PROBING it is
SUSPENDED; else, when the first branch can be tested, its test is under way and its valve is EXERCISE's. -/
def Obligations.ExerciseStartBeginsThePlan : Prop :=
  ∀ (hdr : Header) (s : State) (first count : Byte), Taken s hdr → LegsAtRest s →
    if s.xc.state ≠ .idle ∨ s.ts.commitPending = true then
      Completes (.exerciseStart hdr first count) s (presenceRestart s) [0x30, 0x01]
    else if first ≠ 255 ∧ (23 < first.toNat ∨ count = 0 ∨ 24 < count.toNat) then
      Completes (.exerciseStart hdr first count) s (presenceRestart s) [0x30, 0x03]
    else
      let range := if first = 255 then ExRange.all else .span first.toNat count.toNat
      let plan := (s.ts.active.branches.map (·.1)).filter fun i =>
        first = 255 || (decide (first.toNat ≤ i) && decide (i < first.toNat + count.toNat) && decide (i ≤ 23))
      let begun : ExerciseBlock :=
        { state := .running, autoCause := false, manualCause := false, abortPending := false, range := some range,
          plan := plan, cursor := 0, test := none, results := [], endKind := .none }
      (plan = [] → Completes (.exerciseStart hdr first count) s
        { presenceRestart s with xc := { begun with state := .idle, endKind := .finished } } [0x30, 0x00, 0x00]) ∧
      (plan ≠ [] → (∃ i ∈ s.ie.incidents, i.state = .isolating ∨ i.state = .probing) →
        Completes (.exerciseStart hdr first count) s
          { presenceRestart s with xc := { begun with state := .suspended, autoCause := true } }
          [0x30, 0x00, byte plan.length]) ∧
      (∀ n rest b r, plan = n :: rest → (∀ i ∈ s.ie.incidents, i.state ≠ .isolating ∧ i.state ≠ .probing) →
        identAt s.ts.active n = some b → incidentOf s b = none → valveAt s.vs b.valve = some r → r.fault = .none →
        r.target = none → r.position = some .opened → r.owner = .none →
        ∃ t, exec (.exerciseStart hdr first count) s = .next t ∧ Replied t [0x30, 0x00, byte plan.length] ∧
          quiet t = quiet { presenceRestart s with
            le := t.le, vs := t.vs
            xc := { begun with cursor := 1, test := some ⟨n, b.valve, strokeLimitOf s.ts.active b.valve, s.rt.number⟩ } } ∧
          ∃ r', valveAt t.vs b.valve = some r' ∧ r'.owner = .exercise ∧ r'.target = some .partialTest ∧ r'.tag = r.tag + 1)

/-- The cause of the first skip test that holds for a branch with this valve record (R147). -/
def skipCause (s : State) (b : BranchId) (r : ValveRec) : Option ExCause :=
  if ∃ i ∈ s.ie.incidents, b ∈ i.members then some .incident
  else if r.fault ≠ .none then some .fault
  else if r.target.isSome then some .command
  else if r.position ≠ some .opened then some .position
  else none

/-- EXERCISE SUSPEND, RESUME and ABORT: WRONG_STATE while IDLE.  SUSPEND sets the manual cause, RESUME clears it, and the
state follows from the two causes, whatever test is under way; a change to RUNNING takes the next plan entry, whose
branch is tested, or skipped with the cause of the first skip test that holds; ABORT moves the cursor past the plan and
ends the exercise, or has it end at the verdict of the test under way. -/
def Obligations.ExerciseIsSuspendedResumedAndAborted : Prop :=
  ∀ (hdr : Header) (s : State), Taken s hdr → LegsAtRest s →
    (s.xc.state = .idle → Completes (.exerciseSuspend hdr) s (presenceRestart s) [0x31, 0x0B] ∧
      Completes (.exerciseResume hdr) s (presenceRestart s) [0x32, 0x0B] ∧
      Completes (.exerciseAbort hdr) s (presenceRestart s) [0x33, 0x0B]) ∧
    (s.xc.state ≠ .idle →
      Completes (.exerciseSuspend hdr) s
        { presenceRestart s with xc := { s.xc with state := .suspended, manualCause := true } } [0x31, 0x00, 0x02] ∧
      (s.xc.autoCause = true → Completes (.exerciseResume hdr) s
        { presenceRestart s with xc := { s.xc with state := .suspended, manualCause := false } } [0x32, 0x00, 0x02]) ∧
      (s.xc.autoCause = false → s.xc.state = .running ∨ s.xc.test.isSome → Completes (.exerciseResume hdr) s
        { presenceRestart s with xc := { s.xc with state := .running, manualCause := false } } [0x32, 0x00, 0x01]) ∧
      (s.xc.autoCause = false → s.xc.state = .suspended → s.xc.test = none → s.xc.abortPending = false →
        s.xc.plan.length ≤ s.xc.cursor → Completes (.exerciseResume hdr) s
          { presenceRestart s with xc := { s.xc with state := .idle, manualCause := false, endKind := .finished } }
          [0x32, 0x00, 0x00]) ∧
      (s.xc.autoCause = false → s.xc.state = .suspended → s.xc.test = none → s.xc.abortPending = false →
        ∀ n b r, s.xc.plan[s.xc.cursor]? = some n → identAt s.ts.active n = some b → valveAt s.vs b.valve = some r →
          match skipCause s b r with
          | some cause => s.xc.plan.length = s.xc.cursor + 1 → Completes (.exerciseResume hdr) s
              { presenceRestart s with xc := { s.xc with
                  state := .idle, manualCause := false, cursor := s.xc.cursor + 1, endKind := .finished
                  results := s.xc.results ++ [⟨n, .skipped, some cause, none, none, s.rt.number⟩] } } [0x32, 0x00, 0x00]
          | none => r.owner = .none →
            ∃ t, exec (.exerciseResume hdr) s = .next t ∧ Replied t [0x32, 0x00, 0x01] ∧
              quiet t = quiet { presenceRestart s with
                le := t.le, vs := t.vs
                xc := { s.xc with
                  state := .running, manualCause := false, cursor := s.xc.cursor + 1
                  test := some ⟨n, b.valve, strokeLimitOf s.ts.active b.valve, s.rt.number⟩ } } ∧
              ∃ r', valveAt t.vs b.valve = some r' ∧ r'.owner = .exercise ∧ r'.target = some .partialTest ∧
                r'.tag = r.tag + 1) ∧
      (s.xc.test.isSome → Completes (.exerciseAbort hdr) s
        { presenceRestart s with xc := { s.xc with cursor := s.xc.plan.length, abortPending := true } }
        [0x33, 0x00, exStateCode s.xc.state]) ∧
      (s.xc.test = none → Completes (.exerciseAbort hdr) s
        { presenceRestart s with xc := { s.xc with
            cursor := s.xc.plan.length, state := .idle, autoCause := false, manualCause := false, abortPending := false,
            endKind := .aborted } } [0x33, 0x00, 0x00]))

/-- DISCOVER: BAD_ARGUMENT for no leg, BUSY while the leg's discovery runs; else the Presence List is emptied and the
discovery runs from address 1, whose IDENT REQUEST an idle leg sends at once.  A valid IDENT REPLY adds an entry at the end
of the Presence List, a miss none; the transaction for address 30 ends the discovery; neither presence nor a table
changes, and the valve state is left free, since a leg may take the head of its Action Queue.  That an expiry has the clock
at the window's end or later, and what its stray bytes do, is the model's choice (notes/assumptions/2.md,
notes/assumptions/26.md). -/
def Obligations.DiscoverBeginsAtAddressOne : Prop :=
  (∀ (s : State) (l : Leg) (x : Txn) (bytes : List Byte) (opened limit : Nat), (legAt s l).txn = some x →
    x.purpose = .discovery → x.phase = .window opened limit → x.key.leg = l → (legAt s l).disregard = false →
    let goesOn := fun (i : Instr) (u : State) (found : List PresenceEntry) =>
      ∃ t, exec i s = .next t ∧ quiet t = quiet { u with le := t.le, vs := t.vs } ∧
        (legAt t l).presence = (legAt s l).presence ++ found ∧
        (legAt t l).discovering = ((legAt s l).discovering && decide (x.key.node ≠ 30))
    (∀ f k a b c d, checkFrame bytes = .good f → f.place = placeByte x.key → f.kind = 0x06#8 → f.payload = [k, a, b, c, d] →
      goesOn (.legReplyEnd l bytes) s
        [⟨x.key.node, if k = 1 then .drip else if k = 2 then .flow else if k = 3 then .valve else .unknown, [a, b, c, d]⟩]) ∧
    (validReply x bytes = none → goesOn (.legReplyEnd l bytes) s []) ∧ goesOn (.legLineIdle l .brokenReply) s [] ∧
    goesOn (.legLineIdle l .overlongReply) s [] ∧
    ∀ stray, goesOn (.responseWindowExpiry l stray) (reachTime (opened + limit) s) []) ∧
  ∀ (hdr : Header) (s : State) (leg : Byte), Taken s hdr → LegsAtRest s →
    (4 ≤ leg.toNat → Completes (.discover hdr leg) s (presenceRestart s) [0x40, 0x03]) ∧
    ∀ l : Leg, leg.toNat = l.val →
      ((legAt s l).discovering = true → Completes (.discover hdr leg) s (presenceRestart s) [0x40, 0x01]) ∧
      ((legAt s l).discovering = false →
        Completes (.discover hdr leg) s
          (setLeg l (fun e =>
            if legReady e then
              { e with presence := [], discovering := true, nextAddress := 2,
                       txn := some ⟨.discovery, ⟨l, 1⟩,
                         ⟨unitByte s.ti.position, unitByte s.ti.position, placeByte ⟨l, 1⟩, 0x05#8, []⟩, .sending⟩ }
            else { e with presence := [], discovering := true, nextAddress := 1 }) (presenceRestart s)) [0x40, 0x00])

/-! ### Rounds -/

/-- PERIOD TICK of the current round, at its moment: a closed round is not late, and nothing changes but the time, since
the next round starts with a ROUND START row (notes/assumptions/24.md); an open one is late, its late count rises, held at
15, and ROUND_OVERRUN becomes active at the limit in force.  The end of the last poll closes the round: before its tick it
is not late, the late count is 0 and ROUND_OVERRUN clears; after it the next round starts at once. -/
def Obligations.PeriodTickJudgesLateness : Prop :=
  (∀ (s : State) (l : Leg) (x : Txn) (bytes : List Byte) (stray : Bool), s.rt.running = true → (legAt s l).txn = some x →
    x.purpose = .poll → x.phase ≠ .sending → (legAt s l).pollList.length ≤ (legAt s l).cursor →
    (∀ k ≠ l, (legAt s k).finished = true) → (legAt s l).disregard = false →
    ∀ i ∈ [Instr.legReplyEnd l bytes, .responseWindowExpiry l stray, .legLineIdle l .brokenReply, .legLineIdle l .overlongReply],
      ∃ t, exec i s = .next t ∧
        (s.rt.tickPassed = false → t.rt = { s.rt with late := 0, overrun := t.rt.overrun } ∧ t.rt.overrun.active = false ∧
          t.rt.overrun.detail = s.rt.overrun.detail ∧ (legAt t l).finished = true) ∧
        (s.rt.tickPassed = true → t.rt.running = true ∧ t.rt.number = s.rt.number + 1 ∧ t.rt.start = some t.clock ∧
          t.rt.ended = some ⟨s.rt.number, t.clock - s.rt.start.getD 0⟩ ∧ t.rt.tickPassed = false ∧
          t.rt.period = some (settings t).period ∧
          ∀ k, (legAt t k).pollList = (legNodes t.ts.active k).map (·.1))) ∧
  ∀ s : State, s.rt.running = true → s.rt.tickPassed = false →
    let u := reachTime (s.rt.start.getD 0 + s.rt.period.getD 0) s
    ((∀ l, (legAt s l).finished = true) → ∃ t, exec .periodTick s = .next t ∧ quiet t = quiet u) ∧
    ((∃ l, (legAt s l).finished = false) → ∃ t, exec .periodTick s = .next t ∧
      quiet t = quiet { u with rt := { s.rt with tickPassed := true, late := min 15 (s.rt.late + 1), overrun := t.rt.overrun } } ∧
      t.rt.overrun.active = (s.rt.overrun.active || decide ((settings s).overrunRounds ≤ min 15 (s.rt.late + 1))))

/-- ROUND START of a closed round, at its tick: the number rises by one, the ended round is noted with its elapsed time,
the new round starts now under the period in force, and every leg has the poll list of the bank in force.  Without a
pending commit the tables stay; a pending one is judged again, and switched or refused with its detail.  That the row takes
effect with the clock at the tick, or at its present reading when later, is the model's choice (notes/assumptions/2.md);
the order of the blocks is notes/assumptions/10.md, and what they judge of the ended round is TheEndedRoundIsJudged. -/
def Obligations.RoundStartAdvancesTheRound : Prop :=
  ∀ (s : State) (start period : Nat), s.rt.running = true → (∀ l, (legAt s l).finished = true) → s.rt.start = some start →
    s.rt.period = some period →
    ∃ t, exec .roundStart s = .next t ∧ t.clock = max s.clock (start + period) ∧ t.rt.running = true ∧
      t.rt.number = s.rt.number + 1 ∧ t.rt.start = some t.clock ∧ t.rt.ended = some ⟨s.rt.number, t.clock - start⟩ ∧
      t.rt.tickPassed = false ∧ t.rt.period = some (settings t).period ∧
      (∀ l, (legAt t l).pollList = (legNodes t.ts.active l).map (·.1)) ∧ t.ti.position = s.ti.position ∧
      (s.ts.commitPending = false → t.ts = s.ts) ∧
      (s.ts.commitPending = true → t.ts.commitPending = false ∧ t.ts.staging = s.ts.staging ∧ t.ts.guard = s.ts.guard ∧
        match firstOffence s.ti.position s.ts.staging with
        | some o => t.ts.active = s.ts.active ∧
            t.ts.outcome = .refusedAtSwitch .invalid (tableCode o.table) (byte o.index) (byte o.reason)
        | none =>
          match overBudget s.ts.staging with
          | some l => t.ts.active = s.ts.active ∧ t.ts.outcome = .refusedAtSwitch .roundBudget 0 0 (byte l.val)
          | none =>
            (t.ts.active = s.ts.active ∧ ∃ i, t.ts.outcome = .refusedAtSwitch .inUse 0 0 (byte i)) ∨
              (t.ts.active = s.ts.staging ∧ t.ts.activeFlag = true ∧ t.ts.outcome = .switched (s.rt.number + 1)))

/-! ### Legs and nodes -/

/-- The poll that is under way on leg `l` is not the last of its list, so that its end does not close the round. -/
def pollsOn (s : State) (l : Leg) : Prop := (legAt s l).cursor < (legAt s l).pollList.length

/-- The transaction `x` is a sweep poll, or a poll whose end does not close the round. -/
def asks (s : State) (l : Leg) (x : Txn) : Prop := x.purpose = .poll ∧ pollsOn s l ∨ x.purpose = .sweep

/-- The rows that end a transaction of leg `l` whose window expires at `e`, each with the state at its moment: the expiry,
with or without stray bytes, at the clock reading `e` or later (notes/assumptions/2.md); a reply that breaks off or runs
on; and a reply that ends with these bytes. -/
def endings (l : Leg) (e : Nat) (bytes : List Byte) (s : State) : List (Instr × State) :=
  [(.responseWindowExpiry l false, reachTime e s), (.responseWindowExpiry l true, reachTime e s),
    (.legLineIdle l .brokenReply, s), (.legLineIdle l .overlongReply, s), (.legReplyEnd l bytes, s)]

/-- LEG REQUEST SENT opens the response window for the W in force.  A poll or sweep poll whose window passes without a
reply, whose reply breaks off or runs on, or whose reply is not valid, is a miss: the node's count rises, held at 3, and at
3 it is MISSING; no other node changes.  Bytes that begin after the window, at its expiry or later on the idle leg, have
the leg start no request until the line has been idle.  That an expiry has the clock at the window's end or later, and
what its stray bytes do, is the model's choice (notes/assumptions/2.md, notes/assumptions/26.md). -/
def Obligations.AnUnansweredPollIsAMiss : Prop :=
  (∀ (s : State) (l : Leg), ∃ t, exec (.legRequestSent l) s = .next t ∧
    quiet t = quiet (setLeg l (fun e => { e with txn := e.txn.map fun x =>
      if x.phase = .sending then { x with phase := .window s.clock (settings s).window } else x }) s)) ∧
  (∀ (s : State) (l : Leg), LegsAtRest s → (legAt s l).txn = none → (legAt s l).alertHeld = false →
    ∃ t, exec (.responseWindowExpiry l true) s = .next t ∧
      quiet t = quiet (setLeg l (fun e => { e with disregard := true }) s)) ∧
  (∀ (s : State) (l : Leg) (after : LineEnd), (∀ k ≠ l, LegAtRest s k) → (legAt s l).disregard = true →
    ∃ t, exec (.legLineIdle l after) s = .next t ∧ quiet t = quiet { s with le := t.le, vs := t.vs } ∧
      (legAt t l).disregard = false ∧ LegAtRest t l ∧ ∀ k ≠ l, legAt t k = legAt s k) ∧
  ∀ (s : State) (l : Leg) (x : Txn) (n : NodeRun) (bytes : List Byte) (opened limit : Nat), (legAt s l).txn = some x →
    asks s l x → x.phase = .window opened limit → assocGet x.key s.nd.nodes = some n →
    (nodeByKey s.ts.active x.key).isSome → (legAt s l).disregard = false → validReply x bytes = none →
    ∀ p ∈ endings l (opened + limit) bytes s,
      ∃ t, exec p.1 s = .next t ∧
        quiet t = quiet { p.2 with le := t.le, nd := t.nd, de := t.de, ie := t.ie, vs := t.vs, xc := t.xc } ∧
        ((legAt s l).alertHeld = false → p.1 = .responseWindowExpiry l true →
          (legAt t l).disregard = true ∧ (legAt t l).txn = none) ∧
        (∃ n', assocGet x.key t.nd.nodes = some n' ∧ n'.misses = min 3 (n.misses + 1) ∧
          n'.presence = if 3 ≤ n.misses + 1 then .missing else n.presence) ∧
        ∀ k ≠ x.key, (assocGet k t.nd.nodes).map quietNode = (assocGet k s.nd.nodes).map quietNode

/-- The verdict of a sample by its status byte: `ok` for OK, NOT_OK for NOT_READY and FAULT, MALFORMED for any other. -/
def statusVerdict (st : Byte) (ok : Verdict) : Verdict :=
  if st = 0 then ok else if st = 1 ∨ st = 2 then .notOk else .malformed

/-- The verdict of a payload for a node of this kind (R28): position codes are 0 to 4, target codes 0 to 3. -/
def sampleVerdict (k : NodeKind) (payload : List Byte) : Verdict :=
  match k, payload with
  | .drip, [_, _, st, _] => statusVerdict st .usable
  | .flow, [lo, hi, st, _] => statusVerdict st (if lo = 255 ∧ hi = 255 then .noReading else .usable)
  | .valve, [po, ta, _, _, _, st] => if 4 < po.toNat ∨ 3 < ta.toNat then .malformed else statusVerdict st .usable
  | _, _ => .malformed

/-- The runtime of a DRIP node whose evidence unit is remote, after a USABLE sample (R39, R40): a sample that is active, or
falls into the tail, is merged. -/
def remoteMaterial (d : DripFields) (n : NodeRun) (level drops : Nat) (stamp : Half) (n' : NodeRun) : Prop :=
  let onset := !n.wet && decide (d.wet ≤ level)
  let active := decide (1 ≤ drops) || onset
  let merged := active || decide (n.tail ≠ .out)
  n'.tail = (if active then .inside 0 else match n.tail with
    | .out => .out
    | .inside c => if c < 14 then .inside (c + 1) else .out) ∧
  (merged = false → n'.evPending = n.evPending ∧ n'.pendDrops = n.pendDrops ∧ n'.pendOnset = n.pendOnset ∧
    n'.pendLevel = n.pendLevel ∧ n'.pendStamp = n.pendStamp) ∧
  (merged = true → n'.evPending = true ∧ n'.pendDrops = min 255 (n.pendDrops + drops) ∧
    n'.pendOnset = (n.pendOnset || onset) ∧ n'.pendLevel = level ∧ n'.pendStamp = stamp.toNat % 256)

/-- The record of a branch after a FLOW sample of one side, USABLE with a flow or with none (R50 to R55). -/
def flowTaken (s : State) (b : BranchRec) (onSupply : Bool) (v : SideValue) (f f' : BranchFlow) : Prop :=
  if (if onSupply then f.supply else f.ret) ≠ .notTaken ∨ f.paired = true then f' = f
  else
    let g := if onSupply then { f with supply := v } else { f with ret := v }
    match g.supply, g.ret with
    | .reading x, .reading y =>
      let elapsed := match f.pairedLast, s.fa.prevInterval with
        | true, some ms => min 10000 ms
        | _, _ => s.rt.period.getD (settings s).period
      let diff : Int := (x : Int) - y - b.offset
      let sum := integrate (if (b.deadband : Int) < diff then (diff - b.deadband).toNat else 0) elapsed b.forgive f.loss f.rem
      let run := if diff < -(b.deadband : Int) then min 255 (f.skewRun + 1) else 0
      f' = { g with paired := true, loss := sum.1, rem := sum.2, skewRun := run, skew := decide (3 ≤ run) }
    | _, _ => f' = g

/-- The command of the record `r` is completed by a sample that shows its tag, this position and this reported target; one
that is EXPIRED or ABANDONED without an owner is given up first (R138). -/
def completes (r : ValveRec) (p : ValvePos) (reported : Option ValveTarget) (tag : Byte) : Prop :=
  tag = r.tag ∧ (r.owner = .none → r.phase ≠ .expired ∧ r.phase ≠ .abandoned) ∧ (r.target = some .toClose ∧ p = .closed ∨ r.target = some .toOpen ∧ p = .opened ∨
    r.target = some .partialTest ∧ p = .opened ∧ reported = none)

/-- No queue or deferral order but those of its own leg holds the valve `k`. -/
def waitsOnItsLeg (s : State) (k : NodeKey) : Prop :=
  ∀ l ≠ k.leg, (∀ e ∈ quadGet s.vs.queues l, e.key ≠ k) ∧ k ∉ quadGet s.vs.deferred l

/-- What a completing sample leaves (R135, R138, R148): the command ended and taken from the queue, the fault cleared, and
the owner told.  An ISOLATING incident whose target closed is ISOLATED; a valve found OPEN leaves its incident, which is
freed when it is RELEASING and holds no other; a test is PASS or SLOW, and its valve returned without the unreliable
mark. -/
def commandEnds (s : State) (k : NodeKey) (r : ValveRec) (p : ValvePos) (stroke : Nat) (t : State) : Prop :=
  let ended := { r with position := some p, lastStroke := some stroke, target := none, phase := .none, start := none,
                        limit := none, attempts := 0, fault := .none }
  (r.owner = .none → p ≠ .closed → s.xc.state = .idle → valveAt t.vs k = some ended) ∧
  (∀ id i b, r.owner = .incident id → incidentById s id = some i → i.held.find? (fun b => decide (b.valve = k)) = some b →
    (r.target = some .toClose → valveAt t.vs k = some ended ∧ (i.state = .isolating → i.target = some b →
      ∃ j ∈ t.ie.incidents, j.id = id ∧ j.state = .isolated ∧ j.closing = some s.rt.number ∧ j.settle = 0)) ∧
    (r.target = some .toOpen → (s.xc.state = .idle → valveAt t.vs k = some { ended with owner := .none }) ∧
      (if i.state = .releasing ∧ i.held.filter (fun c => decide (c ≠ b)) = [] then ∀ j ∈ t.ie.incidents, j.id ≠ id
       else ∃ j ∈ t.ie.incidents, j.id = id ∧ j.state = i.state ∧ j.held = i.held.filter fun c => decide (c ≠ b)))) ∧
  (∀ y, r.owner = .exercise → r.target = some .partialTest → s.xc.test = some y → y.key = k →
    (∃ more, t.xc.results = s.xc.results ++
      [⟨y.branch, if stroke ≤ 75 * y.limit then .pass else .slow, none, some stroke, some y.limit, s.rt.number⟩] ++ more) ∧
    (s.xc.plan.length ≤ s.xc.cursor → valveAt t.vs k = some { ended with owner := .none, unreliable := false } ∧
      t.xc.state = .idle ∧ t.xc.test = none ∧ t.xc.endKind = if s.xc.abortPending then .aborted else .finished))

/-- A valid SAMPLE that answers a poll or sweep poll makes its node PRESENT with no misses, and is its last sample with its
verdict and the round's number.  A USABLE sample of a DRIP node sets its level, its wet state by threshold and re-arm
point, and its flood mark, and, with both transmitters busy, shows the DROP REPORT material it leaves when another unit
holds the row.  A FLOW sample is its branch side's value of the round, and the second of two readings completes the pair.  A
USABLE VALVE sample of a valve that was PRESENT gives its position and stroke time, and may complete its command. -/
def Obligations.ASampleIsTaken : Prop :=
  ∀ (s : State) (l : Leg) (x : Txn) (n : NodeRun) (i : Nat) (r : NodeRec) (f : Frame) (bytes : List Byte),
    (legAt s l).txn = some x → asks s l x → x.phase ≠ .sending →
    assocGet x.key s.nd.nodes = some n → nodeByKey s.ts.active x.key = some (i, r) →
    checkFrame bytes = .good f → f.place = placeByte x.key → f.kind = 0x02#8 →
    ∃ t n', exec (.legReplyEnd l bytes) s = .next t ∧ assocGet x.key t.nd.nodes = some n' ∧
      quiet t = quiet { s with
        le := t.le, nd := t.nd, fa := t.fa, de := t.de, ie := t.ie, vs := t.vs, xc := t.xc } ∧
      (∀ k ≠ x.key, (assocGet k t.nd.nodes).map quietNode = (assocGet k s.nd.nodes).map quietNode) ∧
      n'.presence = .present ∧ n'.misses = 0 ∧
      n'.last = some ⟨f.payload, sampleVerdict (nodeKind r) f.payload, s.rt.number⟩ ∧
      (∀ d, r.body = .drip d → ∀ lv dr tag, f.payload = [lv, dr, 0, tag] →
        n'.usableLevel = some lv.toNat ∧ n'.floodMark = decide (d.flood ≤ lv.toNat) ∧
        (n'.wet = if n.wet then decide (d.wet - d.hyst ≤ lv.toNat) else decide (d.wet ≤ lv.toNat)) ∧
        (s.ti.upperTx.isSome → s.ti.lowerTx ≠ .free → resolveUnit s.ti.position d.evUnit ≠ 0 →
          remoteMaterial d n lv.toNat dr.toNat s.rt.number n')) ∧
      (r.body = .flow → ∀ j b onSupply y g, flowSide s.ts.active i = some (j, b, onSupply) → branchIdent s.ts.active b = some y →
        assocGet y s.fa.branches = some g →
        ∃ g', t.fa.branches = assocMap y (fun _ => g') s.fa.branches ∧
          flowTaken s b onSupply
            (if sampleVerdict .flow f.payload = .usable then .reading (ofBytes2 (f.payload.getD 0 0) (f.payload.getD 1 0))
             else .noReading) g g') ∧
      ∀ c, r.body = .valve c → n.presence = .present → ∀ po ta tag lo hi p reported v, f.payload = [po, ta, tag, lo, hi, 0] →
        positionOf po = some p → targetOf ta = some reported → valveAt s.vs x.key = some v → waitsOnItsLeg s x.key →
        (∃ v', valveAt t.vs x.key = some v' ∧ v'.position = some p ∧ v'.lastStroke = some (ofBytes2 lo hi)) ∧
        (completes v p reported tag →
          (∀ e ∈ quadGet t.vs.queues x.key.leg, e.key = x.key → e.tag ≠ v.tag) ∧
            commandEnds s x.key v p (ofBytes2 lo hi) t)

/-- No Action Queue and no deferral order holds the valve `k`. -/
def notWaiting (s : State) (k : NodeKey) : Prop :=
  ∀ l, (∀ e ∈ quadGet s.vs.queues l, e.key ≠ k) ∧ k ∉ quadGet s.vs.deferred l

/-- A command whose attempt has failed, placed again with its tag: in the queue of leg `l`, deferred, or sent at once. -/
def placedAgain (l : Leg) (k : NodeKey) (target : ValveTarget) (r' : ValveRec) (t : State) : Prop :=
  r'.phase = .queued ∧ ⟨k, target, r'.tag⟩ ∈ quadGet t.vs.queues l ∨ r'.phase = .deferred ∧ k ∈ quadGet t.vs.deferred l ∨
    r'.phase = .sent ∧ ∃ y limit, (legAt t l).txn = some y ∧ y.purpose = .valveSet r'.tag limit ∧ y.key = k

/-- What the third failed attempt leaves (R133, R138): the command ABANDONED and the fault UNREACHABLE, or MISSING; without
an owner it is given up; an incident that was closing the valve escalates; a test is FAILED, its valve unreliable and
returned. -/
def abandons (s : State) (k : NodeKey) (r : ValveRec) (t : State) : Prop :=
  let left := { r with attempts := r.attempts + 1, phase := .abandoned,
                       fault := if r.fault = .missing then .missing else .unreachable }
  (r.owner = .none → valveAt t.vs k = some { left with phase := .none, target := none }) ∧
  (∀ id, r.owner = .incident id → valveAt t.vs k = some left ∧
    ∀ i b, incidentById s id = some i → i.held.find? (fun b => decide (b.valve = k)) = some b → i.state = .isolating →
      i.target = some b → r.fault = .none →
      ∃ j ∈ t.ie.incidents, j.id = id ∧ j.state = .escalated ∧ j.reason = some .valveFault) ∧
  (∀ y, r.owner = .exercise → s.xc.test = some y → y.key = k → r.fault = .none →
    valveAt t.vs k = some { left with phase := .none, target := none, owner := .none, unreliable := true } ∧
    ∃ more, t.xc.results = s.xc.results ++
      [⟨y.branch, .failed, some .unreachable, none, some y.limit, s.rt.number⟩] ++ more)

/-- A VALVE ACK that accepts the command in force starts the stroke: phase STROKING, no failed attempts, the stroke timer
from now with the limit the VALVE SET carried.  A miss, an ACK that refuses, and an ACK of another tag are a failed
attempt: the first two have the command placed again, the third abandons it.  A miss that would make the node MISSING is
left aside.  What a command given up leaves of attempts, start time and limit is the model's choice
(notes/assumptions/29.md), and so is that an expiry has the clock at the window's end or later, and what its stray bytes do
(notes/assumptions/2.md, notes/assumptions/26.md). -/
def Obligations.AnAcceptedCommandStartsTheStroke : Prop :=
  (∀ (s : State) (l : Leg) (x : Txn) (limit : Nat) (r : ValveRec) (target : ValveTarget) (n : NodeRun) (bytes : List Byte)
      (opened w : Nat),
    (legAt s l).txn = some x → x.purpose = .valveSet r.tag limit → x.phase = .window opened w → x.key.leg = l →
    (legAt s l).disregard = false → valveAt s.vs x.key = some r → r.target = some target → notWaiting s x.key →
    assocGet x.key s.nd.nodes = some n → n.presence = .present → n.misses ≤ 1 →
    (validReply x bytes = none ∨ ∃ f tag result, validReply x bytes = some (f, bytes) ∧ f.payload = [tag, result] ∧
      (result = 0x01 ∨ result = 0x00 ∧ tag ≠ r.tag)) →
    ∀ p ∈ endings l (opened + w) bytes s, ∃ t, exec p.1 s = .next t ∧
      quiet t = quiet { p.2 with le := t.le, nd := t.nd, ie := t.ie, vs := t.vs, xc := t.xc } ∧
      (r.attempts + 1 < 3 → ∃ r', valveAt t.vs x.key = some r' ∧
        r' = { r with attempts := r.attempts + 1, phase := r'.phase } ∧ placedAgain l x.key target r' t) ∧
      (3 ≤ r.attempts + 1 → abandons s x.key r t)) ∧
  ∀ (s : State) (l : Leg) (x : Txn) (limit : Nat) (r : ValveRec) (f : Frame) (bytes : List Byte),
    (legAt s l).txn = some x → x.purpose = .valveSet r.tag limit → x.phase ≠ .sending →
    valveAt s.vs x.key = some r → r.target ≠ none → notWaiting s x.key →
    checkFrame bytes = .good f → f.place = placeByte x.key → f.kind = 0x04#8 → f.payload = [r.tag, 0x00] →
    ∃ t r', exec (.legReplyEnd l bytes) s = .next t ∧ valveAt t.vs x.key = some r' ∧
      quiet t = quiet { s with le := t.le, nd := t.nd, de := t.de, ie := t.ie, vs := t.vs, xc := t.xc } ∧
      r'.phase = .stroking ∧ r'.attempts = 0 ∧ r'.start = some s.clock ∧ r'.limit = some limit ∧ r'.target = r.target ∧
      r'.tag = r.tag ∧ r'.owner = r.owner

/-- An ALERT is recognized on a leg that is idle or in a turnaround gap, neither while the engine is sending nor while
bytes are arriving; it holds the line and, while rounds run, moves the flags as their table says.  That none is
recognized while the engine waits for the line to go idle is the model's choice (notes/assumptions/12.md).  Its release
lets the leg go on, and a waiting sweep begins with the first node of its list. -/
def Obligations.AlertsAskForSweeps : Prop :=
  (∀ (s : State) (h : WireHold), LegsAtRest s →
    let e := legAt s h.leg
    let seen := h.arriving = false ∧ e.alertHeld = false ∧ e.disregard = false ∧ ∀ x, e.txn = some x → x.phase ≠ .sending
    (¬ seen → ∃ t, exec (.alert h) s = .next t ∧ quiet t = quiet s) ∧
    (seen → ∃ t, exec (.alert h) s = .next t ∧
      quiet t = quiet (setLeg h.leg (fun e => { e with
        alertHeld := true
        alertFlag := e.alertFlag || (s.rt.running && !e.alertsIgnored && e.sweep.isNone)
        sweepAgain := e.sweepAgain || (s.rt.running && !e.alertsIgnored && e.sweep.isSome) }) s))) ∧
  (∀ (s : State) (l : Leg), LegsAtRest s → (legAt s l).txn.isSome ∨ (legAt s l).disregard = true →
    ∃ t, exec (.alertRelease l) s = .next t ∧ quiet t = quiet (setLeg l (fun e => { e with alertHeld := false }) s)) ∧
  ∀ (s : State) (l : Leg) (n : Nat) (rest : List Nat), (∀ k ≠ l, LegAtRest s k) → (legAt s l).txn = none →
    (legAt s l).disregard = false → (legAt s l).alertFlag = true → (legAt s l).sweep = none → quadGet s.vs.queues l = [] →
    sweepList s.ts.active l = n :: rest → (legAt s l).sweepCount < 4 →
    ∃ t, exec (.alertRelease l) s = .next t ∧
      quiet t = quiet { s with le := t.le } ∧
      legAt t l = { legAt s l with
        alertHeld := false, alertFlag := false, sweepCount := (legAt s l).sweepCount + 1, sweep := some ⟨n :: rest, 1⟩
        txn := some ⟨.sweep, ⟨l, n⟩, pollFrame s ⟨l, n⟩, .sending⟩ } ∧
      ∀ k ≠ l, legAt t k = legAt s k

/-! ### Timers -/

/-- The fault a stroke that runs out leaves: JAMMED, but MISSING stays MISSING. -/
def strokeFault (f : ValveFault) : ValveFault := if f = .missing then .missing else .jammed

/-- The stroke timer and the controller-presence timer.  A stroke that runs out leaves the fault JAMMED, or MISSING; the
command is given up when the valve has no owner, is EXPIRED when an incident owns it, and when EXERCISE owns it the test is
FAILED, the valve marked unreliable and returned, which gives the command up.  When the presence timer passes its limit,
CONTROLLER_LOST becomes active with the limit as detail, and the header is asked to close for what had asked the rack
controller, from whatever state its drive is in; during absence nothing changes.  What a command given up leaves of
attempts, start time and limit, and that one EXPIRED keeps its limit, is the model's choice (notes/assumptions/29.md), and
so is an expiry at a clock reading after its moment (notes/assumptions/2.md). -/
def Obligations.TimersExpire : Prop :=
  (∀ (s : State) (k : NodeKey) (r : ValveRec) (start limit : Nat), valveAt s.vs k = some r → r.phase = .stroking →
    r.start = some start → r.limit = some limit →
    (r.owner = .none → LegsAtRest s → ∃ t, exec (.strokeTimerExpiry k) s = .next t ∧
      quiet t = quiet { reachTime (start + 1000 * limit) s with
        vs := setValve k (fun r => { r with phase := .none, target := none, fault := strokeFault r.fault }) s.vs }) ∧
    (∀ id, r.owner = .incident id → notWaiting s k → ∃ t, exec (.strokeTimerExpiry k) s = .next t ∧
      quiet t = quiet { reachTime (start + 1000 * limit) s with le := t.le, ie := t.ie, vs := t.vs, xc := t.xc } ∧
      valveAt t.vs k = some { r with phase := .expired, fault := strokeFault r.fault }) ∧
    (∀ x, r.owner = .exercise → s.xc.test = some x → x.key = k → r.fault = .none → notWaiting s k →
      ∃ t, exec (.strokeTimerExpiry k) s = .next t ∧
        quiet t = quiet { reachTime (start + 1000 * limit) s with le := t.le, vs := t.vs, xc := t.xc } ∧
        valveAt t.vs k = some { r with phase := .none, target := none, owner := .none, fault := .jammed, unreliable := true } ∧
        ∃ more, t.xc.results = s.xc.results ++
          [⟨x.branch, .failed, some .jammed, none, some x.limit, s.rt.number⟩] ++ more)) ∧
  (∀ s : State, s.ti.lost.active = true → ∃ t, exec .controllerPresenceTimeout s = .next t ∧ quiet t = quiet s) ∧
  ∀ s : State, s.ti.lost.active = false → ∃ t, exec .controllerPresenceTimeout s = .next t ∧
    let limit := (settings s).absenceLimit
    let asked := s.ie.overflowReq = true ∨ ∃ i ∈ s.ie.incidents, i.state = .escalated ∧ i.headerReq = true
    let u := elapse (1000 * limit + 1 - s.ti.presenceTimer) s
    quiet t = quiet { u with
      ti := { u.ti with lost := ⟨true, limit, true⟩ }
      vs := { s.vs with header := t.vs.header } } ∧
    ((¬ asked ∨ s.vs.header.state = .closed ∨ s.vs.header.state = .closing) → unpend t.vs.header.fault = unpend s.vs.header.fault ∧
      { t.vs.header with fault := s.vs.header.fault } = s.vs.header) ∧
    (asked → s.vs.header.state ≠ .closed → s.vs.header.state ≠ .closing →
      if s.vs.header.state = .fault ∧ s.vs.header.atClosed = true ∧ s.vs.header.atOpen = true then
        { t.vs.header with fault := s.vs.header.fault } = s.vs.header ∧ t.vs.header.fault.active = s.vs.header.fault.active
      else if s.vs.header.atClosed = true ∧ s.vs.header.atOpen = false then stands .closed true false t.vs.header
      else strokes u .closing t.vs.header)

/-! ### Meters and DROP REPORTs -/

/-- Where two quadrature levels stand in the forward sequence. -/
def quadrature (a b : Bool) : Nat := if a then (if b then 2 else 1) else (if b then 3 else 0)

/-- A change of a meter's signals: one step forward in the sequence adds one to the counter, one back subtracts one,
both modulo 65 536, and a change of both signals leaves the counter and sets the count-error mark. -/
def Obligations.MetersCountQuadrature : Prop :=
  ∀ (s : State) (m : Meter) (a b : Bool),
    let moved := fun (x : MeterState) =>
      let step := (quadrature a b + 4 - quadrature x.a x.b) % 4
      { x with
        a := a, b := b
        count := if step = 1 then x.count + 1 else if step = 3 then x.count - 1 else x.count
        countError := x.countError || decide (step = 2) }
    ∃ t, exec (.meterCount m a b) s = .next t ∧
      quiet t = quiet { s with fa := match m with
        | .supply => { s.fa with supplyMeter := moved s.fa.supplyMeter }
        | .ret => { s.fa with returnMeter := moved s.fa.returnMeter } }

/-- A DROP REPORT for this unit is accepted when the unit has tables, the source is another unit 1 to 4, the payload has
five bytes, and a row has its key.  An accepted report marks the row's evidence and clears its stale run and mark; an
active one also credits the row, once a round, with its candidates' weights, and starts the row's tail. -/
def Obligations.DropReportsReachTheirRow : Prop :=
  ∀ (s : State) (port : Port) (hdr : Header) (p : Nat) (payload : List Byte), s.ti.position = some p → p ≤ 4 →
    hdr.dest = byte p → (port = .upper → s.ti.upperBreak = false) → LegsAtRest s →
    let key : RowKey → Prop := fun k => ∃ drops onset level stamp, payload = [byte k.node, drops, onset, level, stamp] ∧
      k.unit = hdr.src.toNat ∧ 1 ≤ k.unit ∧ k.unit ≤ 4 ∧ k.unit ≠ p ∧ k.node ≤ 119 ∧
      (rowByKey (some p) s.ts.active k).isSome
    let marked := fun (r : RowRun) => { r with evidence := addMark s.rt.number r.evidence, staleRun := 0, stale := false }
    (s.ts.activeFlag = false ∨ (∀ k, ¬ key k) → ∃ t, exec (.dropReportReceived port hdr payload) s = .next t ∧
      quiet t = quiet (heard port s)) ∧
    (∀ k node level stamp, s.ts.activeFlag = true → key k → payload = [node, 0, 0, level, stamp] →
      ∃ t, exec (.dropReportReceived port hdr payload) s = .next t ∧
        quiet t = quiet { heard port s with de := { s.de with rows := assocMap k marked s.de.rows } }) ∧
    ∀ k node drops onset level stamp run, s.ts.activeFlag = true → key k → payload = [node, drops, onset, level, stamp] →
      drops ≠ 0 ∨ onset = 1 → assocGet k s.de.rows = some run →
      ∃ t run', exec (.dropReportReceived port hdr payload) s = .next t ∧ assocGet k t.de.rows = some run' ∧
        quiet t = quiet { heard port s with le := t.le, de := t.de, ie := t.ie, vs := t.vs, xc := t.xc } ∧
        run' = { marked run with credited := addMark s.rt.number run.credited, tail := .inside 0 } ∧
        ∀ j row, rowByKey (some p) s.ts.active k = some (j, row) → ((rowCandidates s.ts.active row).map (·.1)).Nodup →
          ∀ c ∈ rowCandidates s.ts.active row, ∀ d, assocGet c.1 s.de.branches = some d →
            ∃ d', assocGet c.1 t.de.branches = some d' ∧
              d'.score = if s.rt.number ∈ run.credited then d.score else min 255 (d.score + c.2)

/-! ### Rules of arithmetic and encoding -/

/-- The re-arm point: a WET node becomes ARMED below its threshold less its hysteresis, floored at 0, and not at all when
that is 0; with hysteresis 0 it does at any level below the threshold. -/
def Obligations.RearmPointIsFloored : Prop :=
  ∀ (d : DripFields) (level : Nat), ((rearmPoint d : Int) = max 0 ((d.wet : Int) - d.hyst)) ∧
    (wetAfter d true level = false ↔ level < rearmPoint d) ∧
    (d.wet ≤ d.hyst → wetAfter d true level = true) ∧ (d.hyst = 0 → (wetAfter d true level = false ↔ level < d.wet))

/-- The integral of a positive excess: numerator excess × elapsed + rem, increment and remainder by 60 000, the
accumulator held at 65 535, where the remainder is 0 and both stay while excess continues. -/
def Obligations.ExcessIsIntegrated : Prop :=
  ∀ excess elapsed forgive loss rem : Nat, 0 < excess → excess ≤ 67582 → elapsed ≤ 10000 → loss ≤ 65535 → rem ≤ 59999 →
    let num := excess * elapsed + rem
    let sum := loss + num / 60000
    num ≤ 675879999 ∧
    (sum < 65535 → integrate excess elapsed forgive loss rem = (sum, num % 60000)) ∧
    (65535 ≤ sum → integrate excess elapsed forgive loss rem = (65535, 0)) ∧
    (loss = 65535 → integrate excess elapsed forgive loss rem = (65535, 0)) ∧
    (integrate excess elapsed forgive loss rem).1 ≤ 65535 ∧ (integrate excess elapsed forgive loss rem).2 ≤ 59999

/-- A branch with drip score `d` and loss `l` confirms when `l` is at its trip volume; or `d` is 100 or more and leads every
other member of its incident by the lead margin, which it must reach itself; or `d` is at corroborate and `l` at a quarter
of the trip volume. -/
def Obligations.ConfirmTestsAreThoseOfTheRule : Prop :=
  ∀ (s : State) (b : BranchId) (r : BranchRec) (d l : Nat), recOf s.ts.active b = some r →
    (confirms s b d l = true ↔
      r.trip ≤ l ∨
      (100 ≤ d ∧ (settings s).lead ≤ d ∧
        ∀ i, incidentOf s b = some i → ∀ m ∈ i.members, m ≠ b → scoreOf s m + (settings s).lead ≤ d) ∨
      ((settings s).corroborate ≤ d ∧ r.trip / 4 ≤ l))

/-- A bank switch keeps the flow and drip runtime and the cooling notice of a branch by the identities of its three nodes,
a row's runtime by its resolved key with its blind flag set again, a Valve Status record by the VALVE's key, and a node's
presence by its key and kind; what is new begins afresh, and nothing else has a record.  A flood mark neither set nor
cleared raises nothing, though its node changes index. -/
def Obligations.BankSwitchKeepsRuntimeByIdentity : Prop :=
  ∀ s : State, let t := installBank s
    (∀ x, (assocGet x t.fa.branches).isSome ↔ (indexOf s.ts.staging x).isSome) ∧
    (∀ x, (assocGet x t.de.branches).isSome ↔ (indexOf s.ts.staging x).isSome) ∧
    (∀ x, (assocGet x t.ie.notices).isSome ↔ (indexOf s.ts.staging x).isSome) ∧
    (∀ k, (assocGet k t.de.rows).isSome ↔ (rowByKey s.ti.position s.ts.staging k).isSome) ∧
    (∀ k, (rowByKey s.ti.position s.ts.staging k).isSome → ∃ x, assocGet k t.de.rows = some x ∧
      { x with blind := false } = { (assocGet k s.de.rows).getD (freshRow false) with blind := false } ∧
      (x.blind = false ↔ k.unit ≠ 0 ∨ ∃ j n, keyAt s.ts.staging k.node = some j ∧ assocGet j t.nd.nodes = some n ∧
        n.presence = .present)) ∧
    (∀ k, (valveAt t.vs k).isSome ↔ ∃ p ∈ s.ts.staging.nodes, p.2.key = k ∧ nodeKind p.2 = .valve) ∧
    (∀ k v, valveAt t.vs k = some v →
      let old := (valveAt s.vs k).getD freshValve
      v.position = old.position ∧ v.lastStroke = old.lastStroke ∧ v.fault = old.fault ∧ v.unreliable = old.unreliable ∧
        (s.xc.state = .idle → (∀ i ∈ s.ie.incidents, i.state ≠ .probing) → v = { old with phase := v.phase } ∧
          (v.phase = old.phase ∨ v.phase = .queued ∧ ∃ l, k ∈ quadGet s.vs.deferred l))) ∧
    ((s.nd.nodes.map (·.1)).Nodup → (s.ts.staging.nodes.map (·.2.key)).Nodup →
      (∀ k, (assocGet k t.nd.nodes).any (·.floodMark) = (assocGet k s.nd.nodes).any (·.floodMark)) →
      t.nd.flood.pending = s.nd.flood.pending ∧ t.nd.flood.active = s.nd.flood.active) ∧
    (∀ x, (indexOf s.ts.staging x).isSome →
      assocGet x t.fa.branches = some ((assocGet x s.fa.branches).getD freshFlow) ∧
      assocGet x t.de.branches = some ((assocGet x s.de.branches).getD freshDrip) ∧
      assocGet x t.ie.notices = some ((assocGet x s.ie.notices).getD ⟨.none, false⟩)) ∧
    (∀ k, (assocGet k t.nd.nodes).isSome ↔ (nodeByKey s.ts.staging k).isSome) ∧
    ∀ k j new, nodeByKey s.ts.staging k = some (j, new) → ∃ n, assocGet k t.nd.nodes = some n ∧
      match nodeByKey s.ts.active k, assocGet k s.nd.nodes with
      | some (_, old), some m =>
        if nodeKind old = nodeKind new then n.presence = m.presence ∧ n.misses = m.misses ∧ n.last = m.last
        else n.presence = .unseen ∧ n.misses = 0 ∧ n.last = none
      | _, _ => n.presence = .unseen ∧ n.misses = 0 ∧ n.last = none

/-- An opening incident gets the id the counter holds, or the first one after it that is not in use, from 255 to 1, and
the counter advances past it.  Within the table's and the queue's capacities a free id is always found. -/
def Obligations.OpeningIncidentGetsAFreeId : Prop :=
  ∀ (s t : State) (o : Origin) (st : IncState) (f : Incident → Incident) (id : Nat),
    s.ie.incidents.length ≤ 8 → s.ie.cleared.length ≤ 16 → 1 ≤ s.ie.nextId → s.ie.nextId ≤ 255 →
    openIncident o st f s = some (id, t) →
    1 ≤ id ∧ id ≤ 255 ∧ (∀ i ∈ s.ie.incidents, i.id ≠ id) ∧ (∀ c ∈ s.ie.cleared, c.id ≠ id) ∧
      t.ie.incidents = s.ie.incidents ++ [f (newIncident id o st s.rt.number)] ∧
      t.ie.nextId = (if id = 255 then 1 else id + 1) ∧
      (s.ie.nextId ∉ usedIds s → id = s.ie.nextId) ∧
      ∃ k < 255, id = idAfter^[k] s.ie.nextId ∧ ∀ j < k, idAfter^[j] s.ie.nextId ∈ usedIds s

/-- A frame's bytes pass its checks and give the frame again.  That a Length of 241 to 255 is not rejected is the model's
choice (notes/assumptions/24.md). -/
def Obligations.FramesAreReadBack : Prop :=
  ∀ f : Frame, f.payload.length ≤ 255 → checkFrame (encodeFrame f) = .good f

/-- Every record of the four tables, at every value its fields may have, is read back from the bytes READ TABLE gives for
it: its length is found from its first bytes, its CRC-8 is good, and no field is refused or clamped. -/
def Obligations.RecordsAreReadBack : Prop :=
  let reads := fun (x : TableId) (bytes : List Byte) (body : RecordBody) =>
    recordSize x bytes = .bytes bytes.length ∧ bytes.getLast? = some (crc8 bytes.dropLast) ∧
      parseRecord x bytes.dropLast = some (body, 0)
  (∀ r, goodNode r → reads .node (nodeRecordBytes r) (.node r)) ∧
    (∀ r, goodBranch r → reads .branch (branchRecordBytes r) (.branch r)) ∧
    (∀ r, goodRow r → reads .drip (rowRecordBytes r) (.row r)) ∧
    (∀ r, goodSettings r → reads .settings (settingsRecordBytes r) (.settings r)) ∧
    ∀ x, reads x noneRecord .empty

/-! ### The judgement of the ended round -/

/-- A row's runtime after the round `n` is judged (R81 to R83). -/
def rowJudged (n : Half) (here : Bool) (x y : RowRun) : Prop :=
  let active := n ∈ x.credited
  let evidence := n ∈ x.evidence
  let tailed := x.tail ≠ .out
  let kind : RowResult :=
    if active then .active else if evidence then .quiet
    else if here then (if x.blind then .blind else .silent)
    else if tailed ∨ x.stale = true then .stale else .quiet
  y.result = some kind ∧ y.blind = x.blind ∧
    y.activeRun = (if kind = .active then min 255 (x.activeRun + 1) else if kind = .quiet then 0 else x.activeRun) ∧
    y.quietRun = (if kind = .quiet then min 255 (x.quietRun + 1) else if kind = .active then 0 else x.quietRun) ∧
    (here = true → y.staleRun = x.staleRun ∧ y.stale = x.stale ∧ y.tail = x.tail) ∧
    (here = false →
      (y.staleRun = if kind = .stale then (if tailed then min 255 (x.staleRun + 1) else x.staleRun) else 0) ∧
      y.stale = (x.stale || (decide (kind = .stale) && decide tailed && decide (3 ≤ x.staleRun + 1))) ∧
      y.tail = if active then .inside 0 else match x.tail with
        | .out => .out
        | .inside c => if c < 14 then .inside (c + 1) else .out)

/-- A meter after the round of `ms` milliseconds is judged (R59 to R61). -/
def meterJudged (k ms : Nat) (x y : MeterState) : Prop :=
  let delta := meterDelta x
  y = { x with
    flow := if x.countError then none else some (min 65534 (delta.natAbs * k * 60 / min 10000 ms))
    reverseRun := if x.countError then x.reverseRun else if delta < -4 then min 15 (x.reverseRun + 1) else 0
    snapshot := some x.count
    countError := false }

/-- The ended round is judged at its ROUND START: sweep counts, NODE_BACK marks, both meters and HEADER_BACKFLOW, the header
pair, the skew of the meters, UNMAPPED_DRIP; and, when no commit is pending, the closing of each branch's flow round, the
fade of its drip score and each row's result and runs.  A probe that succeeds clears scores, so the score is said for a
unit with no incident in PROBING. -/
def Obligations.TheEndedRoundIsJudged : Prop :=
  ∀ (s : State) (start : Nat), s.rt.running = true → (∀ l, (legAt s l).finished = true) → s.rt.start = some start →
    LegsAtRest s →
    ∃ t, exec .roundStart s = .next t ∧
      let c := settings s
      let ms := t.clock - start
      let mS := s.fa.supplyMeter
      let mR := s.fa.returnMeter
      let reverse := fun (m : MeterState) => m.countError = false ∧ meterDelta m < -4
      (∀ l, (legAt t l).sweepCount = 0 ∧ (legAt t l).alertsIgnored = false ∧
        (legAt t l).stuck = ((legAt s l).stuck && decide (4 < (legAt s l).sweepCount))) ∧
      (t.le.stuck.active = true ↔ ∃ l, (legAt t l).stuck = true) ∧
      t.nd.backEnded = s.nd.backNow ∧ t.nd.backNow = [] ∧
      (s.ti.upperTx.isSome → s.ts.commitPending = false → t.ti.summaryDue = (s.ti.summaryDue || c.summary)) ∧
      t.fa.prevInterval = some ms ∧ meterJudged c.kSupply ms mS t.fa.supplyMeter ∧ meterJudged c.kReturn ms mR t.fa.returnMeter ∧
      (t.fa.cleanRun = if reverse mS ∨ reverse mR then 0
        else if mS.countError = true ∨ mR.countError = true then s.fa.cleanRun else min 15 (s.fa.cleanRun + 1)) ∧
      (t.fa.backflow.active = if s.fa.backflow.active then decide (t.fa.cleanRun < c.backflowRounds)
        else decide (c.backflowRounds ≤ t.fa.supplyMeter.reverseRun ∨ c.backflowRounds ≤ t.fa.returnMeter.reverseRun)) ∧
      (s.fa.backflow.active = false → t.fa.backflow.active = true →
        t.fa.backflow.detail = if c.backflowRounds ≤ t.fa.supplyMeter.reverseRun then 0 else 1) ∧
      (match t.fa.supplyMeter.flow, t.fa.returnMeter.flow with
        | some x, some y =>
          let diff : Int := (x : Int) - y - c.hdrOffset
          t.fa.hdrUnmetered = false ∧
            (t.fa.hdrLoss, t.fa.hdrRem) =
              integrate (if (c.hdrDeadband : Int) < diff then (diff - c.hdrDeadband).toNat else 0) (min 10000 ms) c.hdrForgive
                s.fa.hdrLoss s.fa.hdrRem
        | _, _ => t.fa.hdrUnmetered = true ∧ t.fa.hdrLoss = s.fa.hdrLoss ∧ t.fa.hdrRem = s.fa.hdrRem) ∧
      (let readings := s.fa.branches.map fun p => match p.2.supply with | .reading x => x | _ => 65535
       match t.fa.supplyMeter.flow with
        | some x =>
          if readings = [] ∨ 65535 ∈ readings then
            t.fa.skewCount = s.fa.skewCount ∧ t.fa.meterSkew.active = s.fa.meterSkew.active
          else
            let diff := ((readings.sum : Int) - x).natAbs
            t.fa.skewCount = (if c.skewLimit < diff then min 3 (s.fa.skewCount + 1) else 0) ∧
              t.fa.meterSkew.detail = min 65535 diff ∧
              (t.fa.meterSkew.active = if t.fa.skewCount = 3 then true
                else if t.fa.skewCount = 0 then false else s.fa.meterSkew.active)
        | none => t.fa.skewCount = s.fa.skewCount ∧ t.fa.meterSkew.active = s.fa.meterSkew.active) ∧
      (t.de.unmappedDrip.active = (assocGet s.rt.number s.de.unmapped).isSome ∧
        ∀ n, assocGet s.rt.number s.de.unmapped = some n → t.de.unmappedDrip.detail = n) ∧
      (s.ts.commitPending = false →
        (∀ b f, assocGet b s.fa.branches = some f → assocGet b t.fa.branches = some
          { f with
            endedSupply := (match f.supply with | .reading x => x | _ => 65535)
            endedReturn := (match f.ret with | .reading x => x | _ => 65535)
            unmetered := !f.paired, pairedLast := f.paired, paired := false, supply := .notTaken, ret := .notTaken }) ∧
        (∀ b d, assocGet b s.de.branches = some d → ∃ d', assocGet b t.de.branches = some d' ∧
          d'.creditedLast = decide (s.rt.number ∈ d.credited) ∧ d'.credited = d.credited.filter (fun n => decide (n ≠ s.rt.number)) ∧
          ((∀ i ∈ s.ie.incidents, i.state ≠ .probing) → d'.score = if s.rt.number ∈ d.credited then d.score else d.score - c.fade)) ∧
        ∀ k x, assocGet k s.de.rows = some x → ∃ y, assocGet k t.de.rows = some y ∧
          rowJudged s.rt.number (decide (k.unit = 0)) x y ∧
          y.credited = x.credited.filter (fun n => decide (n ≠ s.rt.number)) ∧
          y.evidence = x.evidence.filter fun n => decide (n ≠ s.rt.number))
end

