-- ==== Sys2Proof/Laws/Settle.lean ====
section
/-! SUPPORT. What the end of a step leaves alone: grants move only report material and the trunk's transmit side. -/

namespace Sys2Proof.Machine

open Sys2Proof

/-! ### Keyed records -/

theorem assocAll_assocMap {κ ρ : Type} [DecidableEq κ] (g f : ρ → ρ) (h : ∀ x, g (f x) = g x) (k : κ) (l : List (κ × ρ)) :
    assocAll g (assocMap k f l) = assocAll g l := by
  induction l with
  | nil => rfl
  | cons p rest ih =>
    obtain ⟨k', x⟩ := p
    simp only [assocMap]
    split <;> simp_all [assocAll]

theorem map_mod_same {α β : Type} (g : α → β) (f : α → α) (p : α → Prop) [DecidablePred p] (h : ∀ x, g (f x) = g x)
    (l : List α) : (l.map fun x => if p x then f x else x).map g = l.map g := by
  simp only [List.map_map]
  refine List.map_congr_left fun x _ => ?_
  simp only [Function.comp]
  split
  · exact h x
  · rfl

/-! ### `quiet` -/

theorem quiet_idem (s : State) : quiet (quiet s) = quiet s := by
  simp [quiet, quietTrunk, unpend, assocAll, quietNode, quietIncident, quietNotice, Function.comp_def]

theorem quiet_useFree (s : State) : quiet (useFree s) = quiet s := rfl

theorem quiet_useFreeIf (b : Bool) (s : State) : quiet (useFreeIf b s) = quiet s := by
  cases b <;> rfl

theorem quiet_clearConditionPending (u : UnitCondition) (s : State) : quiet (clearConditionPending u s) = quiet s := by
  cases u <;> rfl

theorem quiet_of_incidents (s : State) (is : List Incident) (h : is.map quietIncident = s.ie.incidents.map quietIncident) :
    quiet { s with ie := { s.ie with incidents := is } } = quiet s := by
  simp only [quiet]; rw [h]

/-! ### What every grant does -/

theorem orGrant_elim {P : Grant → Prop} {a b : Option Grant} (ha : ∀ g, a = some g → P g) (hb : ∀ g, b = some g → P g)
    (g : Grant) (h : orGrant a b = some g) : P g := by
  cases a with
  | none => exact hb g h
  | some x => exact ha g h

theorem alternate_elim {P : Grant → Prop} {lastFirst : Bool} {name : Bool → Grant → Grant} {x y : Option Grant}
    (hx : ∀ g, x = some g → P (name true g)) (hy : ∀ g, y = some g → P (name false g)) (g : Grant)
    (h : alternate lastFirst name x y = some g) : P g := by
  cases x with
  | none =>
    cases y with
    | none => simp [alternate] at h
    | some b => simp only [alternate, Option.some.injEq] at h; exact h ▸ hy b rfl
  | some a =>
    cases y with
    | none => simp only [alternate, Option.some.injEq] at h; exact h ▸ hx a rfl
    | some b =>
      cases lastFirst <;> simp [alternate] at h
      · exact h ▸ hx a rfl
      · exact h ▸ hy b rfl

theorem granted_elim {P : Grant → Prop} {f : Frame} {t : State} (h : P (⟨f, false⟩, t)) (g : Grant)
    (hg : granted f t = some g) : P g := by
  simp only [granted, Option.some.injEq] at hg; exact hg ▸ h

theorem none_elim {P : Grant → Prop} (g : Grant) (h : (none : Option Grant) = some g) : P g := nomatch h

/-- The ways source A is granted. -/
theorem grantAlarm_elim {P : Grant → Prop} (s : State)
    (cleared : ∀ c rest, s.ie.cleared = c :: rest →
      P (⟨unitFrame s.ti.position kindIncidentReport (clearedPayload c), false⟩, { s with ie := { s.ie with cleared := rest } }))
    (incident : ∀ i, s.ie.incidents.find? (·.pending) = some i →
      P (⟨unitFrame s.ti.position kindIncidentReport (incidentPayload s i), false⟩,
        modIncident i.id (fun j => { j with pending := false }) s))
    (condition : ∀ u, P (⟨unitFrame s.ti.position kindUnitCondition (conditionPayload s u), false⟩,
      useFreeIf (conditionOpen s u) (clearConditionPending u s)))
    (notice : ∀ b n, pendingNotice s = some (b, n) →
      P (⟨unitFrame s.ti.position kindCoolingNotice (noticePayload s b n), false⟩,
        { s with ie := { s.ie with notices := assocMap b (fun n => { n with pending := false }) s.ie.notices } }))
    (g : Grant) (h : grantAlarm s = some g) : P g := by
  unfold grantAlarm at h
  split at h
  · simp at h
  · refine orGrant_elim (fun g h => ?_) (orGrant_elim (fun g h => ?_) (orGrant_elim (fun g h => ?_) (fun g h => ?_))) g h
    · unfold grantCleared at h; split at h
      · next hc => exact granted_elim (cleared _ _ hc) g h
      · simp at h
    · unfold grantIncident at h; split at h
      · next hi => exact granted_elim (incident _ hi) g h
      · simp at h
    · unfold grantCondition at h; split at h
      · exact granted_elim (condition _) g h
      · simp at h
    · unfold grantNotice at h; split at h
      · next hn => exact granted_elim (notice _ _ hn) g h
      · simp at h

/-- The ways a DROP REPORT is granted. -/
theorem grantDrop_elim {P : Grant → Prop} (dir : Nat → Bool) (s : State)
    (drop : ∀ i r n u, pendingDrop dir s = some (i, r, n, u) → P (⟨dropFrame s i r n u, false⟩, dropGranted r s))
    (g : Grant) (h : grantDrop dir s = some g) : P g := by
  unfold grantDrop at h; split at h
  · next hp => exact granted_elim (drop _ _ _ _ hp) g h
  · simp at h

/-- The ways source F is granted. -/
theorem grantRoutine_elim {P : Grant → Prop} (s : State)
    (summary : P (⟨unitFrame s.ti.position kindRoundSummary (summaryPayload s), false⟩,
      { s with ti := { s.ti with summaryDue := false } }))
    (mirror : ∀ i r m, pendingMirror s = some (i, r, m) →
      P (⟨⟨0, unitByte s.ti.position, placeByte r.key, kindMirror, mirrorPayload i (nodeKind r) m⟩, false⟩,
        setNode r.key (fun n => { n with mirrorPending := false, lastMirrored := mirrorValue (nodeKind r) m.verdict m.payload }) s))
    (g : Grant) (h : grantRoutine s = some g) : P g := by
  unfold grantRoutine at h
  split at h
  · simp at h
  · refine orGrant_elim (fun g h => ?_) (fun g h => ?_) g h
    · unfold grantSummary at h; split at h
      · exact granted_elim summary g h
      · simp at h
    · unfold grantMirror at h; split at h
      · next hp => exact granted_elim (mirror _ _ _ hp) g h
      · simp at h

/-- A FIFO's head is granted. -/
theorem grantUf_elim {P : Grant → Prop} (s : State)
    (head : ∀ f rest, s.ti.uf = f :: rest → P (⟨f, false⟩, { s with ti := { s.ti with uf := rest } }))
    (g : Grant) (h : grantUf s = some g) : P g := by
  unfold grantUf at h; split at h
  · next hf => exact granted_elim (head _ _ hf) g h
  · simp at h

theorem grantUr_elim {P : Grant → Prop} (s : State)
    (head : ∀ f rest, s.ti.ur = f :: rest → P (⟨f, false⟩, { s with ti := { s.ti with ur := rest } }))
    (g : Grant) (h : grantUr s = some g) : P g := by
  unfold grantUr at h; split at h
  · next hf => exact granted_elim (head _ _ hf) g h
  · simp at h

theorem grantDf_elim {P : Grant → Prop} (s : State)
    (head : ∀ f rest, s.ti.df = f :: rest → P (⟨f, false⟩, { s with ti := { s.ti with df := rest } }))
    (g : Grant) (h : grantDf s = some g) : P g := by
  unfold grantDf at h; split at h
  · next hf => exact granted_elim (head _ _ hf) g h
  · simp at h

/-- The reply place is granted. -/
theorem grantReply_elim {P : Grant → Prop} (s : State)
    (reply : ∀ r, s.ti.reply = some r →
      P (⟨{ r.frame with src := unitByte s.ti.position }, r.reset⟩, refillPlace { s with ti := { s.ti with reply := none } }))
    (g : Grant) (h : grantReply s = some g) : P g := by
  unfold grantReply at h; split at h
  · next hr => simp only [Option.some.injEq] at h; exact h ▸ reply _ hr
  · simp at h

/-- The onward NUMBER is granted. -/
theorem grantOnward_elim {P : Grant → Prop} (s : State)
    (onward : ∀ p, s.ti.onward = some p →
      P (⟨⟨255, unitByte s.ti.position, unitPlace, kindNumber, [p]⟩, false⟩, { s with ti := { s.ti with onward := none } }))
    (g : Grant) (h : grantOnward s = some g) : P g := by
  unfold grantOnward at h; split at h
  · next hp => exact granted_elim (onward _ hp) g h
  · simp at h

/-- The ways the upper arbiter chooses. -/
theorem pickUpper_elim {P : Grant → Prop} (s : State)
    (alarm : ∀ g, grantAlarm s = some g → P (nameA true g)) (uf : ∀ g, grantUf s = some g → P (nameA false g))
    (reply : ∀ g, grantReply s = some g → P g)
    (drop : ∀ p g, s.ti.position = some p → grantDrop (fun u => decide (u < p)) s = some g → P g)
    (ur : ∀ g, grantUr s = some g → P (nameE true g)) (routine : ∀ g, grantRoutine s = some g → P (nameE false g))
    (g : Grant) (h : pickUpper s = some g) : P g := by
  refine orGrant_elim (alternate_elim alarm uf)
    (orGrant_elim reply (orGrant_elim (fun g h => ?_) (alternate_elim ur routine))) g h
  unfold grantDropUp at h; split at h
  · next hp => exact drop _ g hp h
  · simp at h

/-- The ways the lower arbiter chooses. -/
theorem pickLower_elim {P : Grant → Prop} (s : State)
    (onward : ∀ g, grantOnward s = some g → P g) (df : ∀ g, grantDf s = some g → P (nameDf true g))
    (drop : ∀ p g, s.ti.position = some p → grantDrop (fun u => decide (p < u)) s = some g → P (nameDf false g))
    (g : Grant) (h : pickLower s = some g) : P g := by
  refine orGrant_elim onward (alternate_elim df fun g h => ?_) g h
  unfold grantDropDown at h; split at h
  · next hp => exact drop _ g hp h
  · simp at h

/-! ### Grants are quiet -/

theorem quiet_setNode (k : NodeKey) (f : NodeRun → NodeRun) (h : ∀ n, quietNode (f n) = quietNode n) (s : State) :
    quiet (setNode k f s) = quiet s := by
  simp only [quiet, setNode]
  rw [assocAll_assocMap quietNode f h]

theorem quiet_dropGranted (r : NodeRec) (s : State) : quiet (dropGranted r s) = quiet s := by
  unfold dropGranted
  apply quiet_setNode
  intro _; rfl

theorem quiet_fillPlace (d : DueReply) (s : State) : quiet (fillPlace d s) = quiet s := rfl

theorem quiet_refillPlace (s : State) : quiet (refillPlace s) = quiet s := by
  unfold refillPlace
  split
  · exact quiet_fillPlace _ s
  · rfl

theorem quiet_grantAlarm (s : State) : ∀ g, grantAlarm s = some g → quiet g.2 = quiet s := by
  refine grantAlarm_elim s (fun _ _ _ => rfl) (fun i _ => ?_) (fun u => ?_) (fun b n _ => ?_)
  · exact quiet_of_incidents s _ (map_mod_same quietIncident (fun j => { j with pending := false }) (fun j => j.id = i.id)
      (fun _ => rfl) _)
  · rw [quiet_useFreeIf, quiet_clearConditionPending]
  · simp only [quiet]
    rw [assocAll_assocMap quietNotice (fun (n : Notice) => { n with pending := false }) fun _ => rfl]

theorem quiet_grantDrop (dir : Nat → Bool) (s : State) : ∀ g, grantDrop dir s = some g → quiet g.2 = quiet s :=
  grantDrop_elim dir s fun _ r _ _ _ => quiet_dropGranted r s

theorem quiet_grantRoutine (s : State) : ∀ g, grantRoutine s = some g → quiet g.2 = quiet s := by
  refine grantRoutine_elim s rfl fun i r m _ => ?_
  apply quiet_setNode; intro _; rfl

theorem quiet_pickUpper (s : State) : ∀ g, pickUpper s = some g → quiet g.2 = quiet s := by
  refine pickUpper_elim s (fun g h => ?_) (grantUf_elim s fun _ _ _ => rfl)
    (grantReply_elim s fun r _ => quiet_refillPlace _) (fun _ g _ h => quiet_grantDrop _ s g h)
    (grantUr_elim s fun _ _ _ => rfl) (fun g h => ?_)
  · exact quiet_grantAlarm s g h
  · exact quiet_grantRoutine s g h

theorem quiet_pickLower (s : State) : ∀ g, pickLower s = some g → quiet g.2 = quiet s :=
  pickLower_elim s (grantOnward_elim s fun _ _ => rfl) (grantDf_elim s fun _ _ _ => rfl)
    fun _ g _ h => quiet_grantDrop _ s g h

/-- The upper arbiter moves nothing that `quiet` keeps. -/
theorem quiet_grantUpper (s : State) : quiet (grantUpper s) = quiet s := by
  unfold grantUpper
  split
  · split
    · next h => exact quiet_pickUpper s _ h
    · rfl
  · rfl

/-- The lower arbiter moves nothing that `quiet` keeps. -/
theorem quiet_grantLower (s : State) : quiet (grantLower s) = quiet s := by
  unfold grantLower
  split
  · split
    · next h => exact quiet_pickLower s _ h
    · rfl
  · rfl

/-- The end of a step moves nothing that `quiet` keeps. -/
theorem quiet_settle (s : State) : quiet (settle s) = quiet s := by
  unfold settle
  rw [show quiet (setOutputs (grantLower (grantUpper s))) = quiet (grantLower (grantUpper s)) from rfl,
    quiet_grantLower, quiet_grantUpper]

end Sys2Proof.Machine
end

