-- ==== Sys2Proof/Laws/Answers.lean ====
section
/-! SUPPORT. What the arbiters do to the trunk's transmit side: each touches its own sources, and a reply that is
placed in a step stands in the reply place, or is granted, when the step ends. -/

namespace Sys2Proof.Machine

open Sys2Proof

theorem useFreeIf_ti (b : Bool) (s : State) : (useFreeIf b s).ti = s.ti := by cases b <;> rfl

/-- The sides of the Trunk Interface that the lower arbiter leaves alone. -/
def UpperSide (s t : State) : Prop :=
  t.ti.uf = s.ti.uf ∧ t.ti.ur = s.ti.ur ∧ t.ti.reply = s.ti.reply ∧ t.ti.slot = s.ti.slot ∧ t.ti.upperTx = s.ti.upperTx ∧
    t.ti.position = s.ti.position ∧ t.ti.summaryDue = s.ti.summaryDue

/-- The sides of the Trunk Interface that the upper arbiter leaves alone. -/
def LowerSide (s t : State) : Prop :=
  t.ti.df = s.ti.df ∧ t.ti.lowerTx = s.ti.lowerTx ∧ t.ti.onward = s.ti.onward ∧ t.ti.position = s.ti.position ∧
    t.pins = s.pins

theorem upperSide_pickLower (s : State) : ∀ g, pickLower s = some g → UpperSide s g.2 :=
  pickLower_elim s (grantOnward_elim s fun _ _ => ⟨rfl, rfl, rfl, rfl, rfl, rfl, rfl⟩)
    (grantDf_elim s fun _ _ _ => ⟨rfl, rfl, rfl, rfl, rfl, rfl, rfl⟩)
    fun _ g _ h => grantDrop_elim (P := fun g => UpperSide s (nameDf false g).2) _ s
      (fun _ _ _ _ _ => ⟨rfl, rfl, rfl, rfl, rfl, rfl, rfl⟩) g h

/-- The lower arbiter touches only its own sources. -/
theorem upperSide_grantLower (s : State) : UpperSide s (grantLower s) := by
  unfold grantLower
  split
  · split
    · next h => exact upperSide_pickLower s _ h
    · exact ⟨rfl, rfl, rfl, rfl, rfl, rfl, rfl⟩
  · exact ⟨rfl, rfl, rfl, rfl, rfl, rfl, rfl⟩

theorem lowerSide_refillPlace (s : State) : LowerSide s (refillPlace s) := by
  unfold refillPlace
  split <;> exact ⟨rfl, rfl, rfl, rfl, rfl⟩

theorem lowerSide_grantAlarm (s : State) : ∀ g, grantAlarm s = some g → LowerSide s g.2 := by
  refine grantAlarm_elim s (fun _ _ _ => ⟨rfl, rfl, rfl, rfl, rfl⟩) (fun _ _ => ⟨rfl, rfl, rfl, rfl, rfl⟩) (fun u => ?_)
    (fun _ _ _ => ⟨rfl, rfl, rfl, rfl, rfl⟩)
  generalize conditionOpen s u = b
  cases b <;> cases u <;> exact ⟨rfl, rfl, rfl, rfl, rfl⟩

theorem lowerSide_pickUpper (s : State) : ∀ g, pickUpper s = some g → LowerSide s g.2 :=
  pickUpper_elim s (fun g h => lowerSide_grantAlarm s g h) (grantUf_elim s fun _ _ _ => ⟨rfl, rfl, rfl, rfl, rfl⟩)
    (grantReply_elim s fun _ _ => by
      obtain ⟨h1, h2, h3, h4, h5⟩ := lowerSide_refillPlace { s with ti := { s.ti with reply := none } }
      exact ⟨h1, h2, h3, h4, h5⟩)
    (fun _ g _ h => grantDrop_elim (P := fun g => LowerSide s g.2) _ s (fun _ _ _ _ _ => ⟨rfl, rfl, rfl, rfl, rfl⟩) g h)
    (grantUr_elim s fun _ _ _ => ⟨rfl, rfl, rfl, rfl, rfl⟩)
    (fun g h => grantRoutine_elim (P := fun g => LowerSide s (nameE false g).2) s ⟨rfl, rfl, rfl, rfl, rfl⟩
      (fun _ _ _ _ => ⟨rfl, rfl, rfl, rfl, rfl⟩) g h)

/-- The upper arbiter touches only its own sources. -/
theorem lowerSide_grantUpper (s : State) : LowerSide s (grantUpper s) := by
  unfold grantUpper
  split
  · split
    · next h => exact lowerSide_pickUpper s _ h
    · exact ⟨rfl, rfl, rfl, rfl, rfl⟩
  · exact ⟨rfl, rfl, rfl, rfl, rfl⟩

/-! ### Replies -/

/-- A choice of the upper arbiter leaves the reply place and the slot alone, or sends the reply. -/
theorem pickUpper_reply (s : State) : ∀ g, pickUpper s = some g →
    (g.2.ti.reply = s.ti.reply ∧ g.2.ti.slot = s.ti.slot) ∨
      ∃ r, s.ti.reply = some r ∧ g.1 = ⟨{ r.frame with src := unitByte s.ti.position }, r.reset⟩ ∧
        g.2 = refillPlace { s with ti := { s.ti with reply := none } } := by
  refine pickUpper_elim s (fun g h => .inl ?_) (fun g h => .inl ?_) (fun g h => .inr ?_) (fun p g _ h => .inl ?_)
    (fun g h => .inl ?_) (fun g h => .inl ?_)
  · refine grantAlarm_elim (P := fun g => g.2.ti.reply = s.ti.reply ∧ g.2.ti.slot = s.ti.slot) s (fun _ _ _ => ⟨rfl, rfl⟩)
      (fun _ _ => ⟨rfl, rfl⟩) (fun u => ?_) (fun _ _ _ => ⟨rfl, rfl⟩) g h
    generalize conditionOpen s u = b
    cases b <;> cases u <;> exact ⟨rfl, rfl⟩
  · exact grantUf_elim (P := fun g => g.2.ti.reply = s.ti.reply ∧ g.2.ti.slot = s.ti.slot) s (fun _ _ _ => ⟨rfl, rfl⟩) g h
  · exact grantReply_elim (P := fun g => ∃ r, s.ti.reply = some r ∧
      g.1 = ⟨{ r.frame with src := unitByte s.ti.position }, r.reset⟩ ∧
      g.2 = refillPlace { s with ti := { s.ti with reply := none } }) s (fun r hr => ⟨r, hr, rfl, rfl⟩) g h
  · exact grantDrop_elim (P := fun g => g.2.ti.reply = s.ti.reply ∧ g.2.ti.slot = s.ti.slot) _ s
      (fun _ _ _ _ _ => ⟨rfl, rfl⟩) g h
  · exact grantUr_elim (P := fun g => g.2.ti.reply = s.ti.reply ∧ g.2.ti.slot = s.ti.slot) s (fun _ _ _ => ⟨rfl, rfl⟩) g h
  · exact grantRoutine_elim (P := fun g => g.2.ti.reply = s.ti.reply ∧ g.2.ti.slot = s.ti.slot) s ⟨rfl, rfl⟩
      (fun _ _ _ _ => ⟨rfl, rfl⟩) g h

/-- What the upper arbiter does to a reply that stands in the place while no other waits for it. -/
theorem grantUpper_reply (s : State) (r : Reply) (hr : s.ti.reply = some r) (hs : ∀ d, s.ti.slot ≠ .due d) :
    (grantUpper s).ti.slot = s.ti.slot ∧
      ((grantUpper s).ti.reply = some r ∨
        (grantUpper s).ti.reply = none ∧
          (grantUpper s).ti.upperTx = some ⟨{ r.frame with src := unitByte s.ti.position }, r.reset⟩) := by
  unfold grantUpper
  split
  · split
    · next x s' h =>
      rcases pickUpper_reply s _ h with ⟨h1, h2⟩ | ⟨r', hr', h1, h2⟩
      · exact ⟨h2, .inl (h1.trans hr)⟩
      · rw [hr] at hr'
        obtain rfl := Option.some.inj hr'
        simp only at h1 h2
        subst h1 h2
        have e : refillPlace { s with ti := { s.ti with reply := none } } = { s with ti := { s.ti with reply := none } } := by
          unfold refillPlace
          split
          · next d hd => exact absurd hd (hs d)
          · rfl
        rw [e]
        exact ⟨rfl, .inr ⟨rfl, rfl⟩⟩
    · exact ⟨rfl, .inl hr⟩
  · exact ⟨rfl, .inl hr⟩

/-- The end of a step leaves the slot alone when no reply waits for the place, and a reply in the place is answered. -/
theorem settle_answered (s : State) (r : Reply) (hr : s.ti.reply = some r) (hs : ∀ d, s.ti.slot ≠ .due d)
    (hp : r.frame.src = unitByte s.ti.position) : (settle s).ti.slot = s.ti.slot ∧ Answered (settle s) r.frame r.reset := by
  obtain ⟨h1, h2⟩ := grantUpper_reply s r hr hs
  obtain ⟨_, _, l3, l4, l5, _, _⟩ := upperSide_grantLower (grantUpper s)
  have e : ({ r.frame with src := unitByte s.ti.position } : Frame) = r.frame := by rw [← hp]
  rw [e] at h2
  refine ⟨l4.trans h1, ?_⟩
  rcases h2 with h | ⟨h, h'⟩
  · exact .inl (l3.trans h)
  · exact .inr ⟨l3.trans h, l5.trans h'⟩

/-- The position is left alone by the end of a step. -/
theorem settle_position (s : State) : (settle s).ti.position = s.ti.position := by
  obtain ⟨_, _, _, _, _, h, _⟩ := upperSide_grantLower (grantUpper s)
  obtain ⟨_, _, _, h', _⟩ := lowerSide_grantUpper s
  exact h.trans h'

end Sys2Proof.Machine
end

