-- ==== Sys2Proof/Laws/Legs.lean ====
section
/-! SUPPORT. Boundaries of legs at rest: an end of a step that brings no work to the legs leaves them alone. -/

namespace Sys2Proof.Machine

open Sys2Proof

/-- A boundary of a leg at rest does nothing. -/
theorem boundary_of_atRest (s : State) (l : Leg) (h : LegAtRest s l) : boundary l s = s := by
  unfold boundary
  split
  · next hr =>
    obtain ⟨hq, hw, hf, hre, hp, hd⟩ := h hr
    have h1 : boundaryDiscovery l s = s := by simp [boundaryDiscovery, hd]
    have h2 : boundaryPoll l s = s := by simp only [boundaryPoll, hp]; exact h1
    have h3 : boundaryRelay l s = s := by
      unfold boundaryRelay
      split
      · next k f hk => rw [if_neg (hre k f hk)]; exact h2
      · exact h2
    have h4 : sweepBegun l s = s := by
      refine if_neg fun h => ?_
      have := hf (Option.isNone_iff_eq_none.mp h.1)
      simp [this] at h
    unfold boundaryQueue takeHead
    rw [hq]
    simp only [boundarySweep, h4, hw, h3]
  · rfl

/-- Boundaries of legs that are all at rest do nothing. -/
theorem boundaries_of_atRest (s : State) (h : LegsAtRest s) : boundaries s = s := by
  simp only [boundaries, allLegs, List.foldl_cons, List.foldl_nil]
  rw [boundary_of_atRest s 0 (h 0), boundary_of_atRest s 1 (h 1), boundary_of_atRest s 2 (h 2), boundary_of_atRest s 3 (h 3)]

/-- What a leg's rest depends on. -/
theorem legAtRest_congr (s u : State) (l : Leg) (hl : legAt u l = legAt s l) (hq : quadGet u.vs.queues l = quadGet s.vs.queues l)
    (hs : ∀ k f, u.ti.slot = .relay k f false → s.ti.slot = .relay k f false) (hb : u.ts.active = s.ts.active)
    (h : LegAtRest s l) : LegAtRest u l := by
  have hw : sweepPoll l s = none → sweepPoll l u = none := by
    unfold sweepPoll
    rw [hl]
    intro h
    split
    · next w hw => rw [hw] at h; simp only at h; split <;> simp_all
    · rfl
  unfold LegAtRest at h ⊢
  rw [hl, hq, hb]
  intro hr
  obtain ⟨a, b, c, d, e, f⟩ := h hr
  exact ⟨a, hw b, c, fun k g hk => d k g (hs k g hk), e, f⟩

/-- Legs stay at rest through a change that brings them no work. -/
theorem legsAtRest_congr (s u : State) (hl : u.le = s.le) (hq : u.vs.queues = s.vs.queues)
    (hs : ∀ k f, u.ti.slot = .relay k f false → s.ti.slot = .relay k f false) (hb : u.ts.active = s.ts.active)
    (h : LegsAtRest s) : LegsAtRest u := fun l =>
  legAtRest_congr s u l (by simp [legAt, hl]) (by rw [hq]) hs hb (h l)

/-- `LegAtRest` as a computation: no work waits at the leg. -/
def restCheck (s : State) (l : Leg) : Bool :=
  !legReady (legAt s l) ||
    (decide (quadGet s.vs.queues l = []) && decide ((legAt s l).sweep = none) && !(legAt s l).alertFlag &&
      (match s.ti.slot with | .relay k _ false => decide (k.leg ≠ l) | _ => true) &&
      (((legAt s l).pollList[(legAt s l).cursor]?).bind (keyAt s.ts.active)).isNone && !(legAt s l).discovering)

theorem legAtRest_of_check (s : State) (l : Leg) (h : restCheck s l = true) : LegAtRest s l := by
  intro hr
  simp only [restCheck, hr, Bool.not_true, Bool.false_or, Bool.and_eq_true, decide_eq_true_eq, Bool.not_eq_true',
    Option.isNone_iff_eq_none] at h
  obtain ⟨⟨⟨⟨⟨hq, hw⟩, hf⟩, hs⟩, hp⟩, hd⟩ := h
  refine ⟨hq, by simp [sweepPoll, hw], fun _ => hf, fun k f hk => ?_, hp, hd⟩
  rw [hk] at hs
  simpa using hs

theorem legsAtRest_of_check (s : State) (h : ∀ l, restCheck s l = true) : LegsAtRest s :=
  fun l => legAtRest_of_check s l (h l)

/-! ### The response window (R7) -/

/-- A window that opens expires W later; one that stands open keeps its moment. -/
theorem windowEnd_openWindow (now w : Nat) (t : Txn) :
    windowEnd (openWindow now w t) = some ((windowEnd t).getD (now + w)) := by
  obtain ⟨p, k, f, ph⟩ := t
  cases ph <;> rfl

@[simp] theorem openWindow_purpose (now w : Nat) (t : Txn) : (openWindow now w t).purpose = t.purpose := by
  unfold openWindow; split <;> rfl

@[simp] theorem openWindow_key (now w : Nat) (t : Txn) : (openWindow now w t).key = t.key := by
  unfold openWindow; split <;> rfl

/-- Stray bytes are disregarded on a line that carries bytes; nothing else of the engine moves. -/
theorem strayBytes_eq (e : LegEngine) :
    strayBytes e = if e.alertHeld then e else { e with disregard := true } := by
  obtain ⟨⟩ := e
  simp only [strayBytes]
  split <;> simp_all

end Sys2Proof.Machine
end

