-- ==== Sys2Proof/Laws/Commands.lean ====
section
/-! SUPPORT. A COMMAND of Table 10-5 that is for this unit: it is carried out on the state its frame's arrival leaves,
and answered. -/

namespace Sys2Proof.Machine

open Sys2Proof

theorem quiet_recordError_congr (e : FrameError) (p : Port) (s u : State) (h : quiet s = quiet u) :
    quiet (recordError e p s) = quiet (recordError e p u) := by
  have : ∀ v : State, quiet (recordError e p v) = { quiet v with ti := { (quiet v).ti with errorKind := e, errorPort := p } } :=
    fun _ => rfl
  rw [this, this, h]

theorem quiet_forwardDown (p : Port) (f : Frame) (s : State) (h : s.ti.df.length < 8) : quiet (forwardDown p f s) = quiet s := by
  unfold forwardDown; rw [if_pos h]; rfl

/-- What DF alone may differ in. -/
theorem forwardDown_ti (p : Port) (f : Frame) (s : State) (h : s.ti.df.length < 8) :
    forwardDown p f s = { s with ti := { s.ti with df := s.ti.df ++ [f] } } := by
  unfold forwardDown; rw [if_pos h]

/-- A frame for this unit is consumed, and one for all units goes on as well. -/
theorem receive_forUnit (hdr : Header) (kind : Byte) (payload : List Byte) (consume : State → State) (s : State)
    (h : ForUnit s hdr.dest) (hu : upwardKind kind = false) (hn : kind ≠ kindNumber) :
    receive .upper (frameOf hdr kind payload) consume s = consume (presenceRestart s) ∨
      (s.ti.df.length < 8 ∧ receive .upper (frameOf hdr kind payload) consume s =
        forwardDown .upper (frameOf hdr kind payload) (consume (presenceRestart s))) := by
  obtain ⟨hb, p, hp, h1, h4, hd⟩ := h
  have hpn : (byte p).toNat = p := by simp [byte]; omega
  rcases hd with hd | ⟨hd, hlen⟩
  · left
    have : routeOf s.ti .upper kind hdr.dest = .consumed := by
      simp only [routeOf, routeUpper, hb, hu, hp, hd, hpn]
      simp [hn]
    simp only [receive, frameOf, this, heard]
  · right
    refine ⟨hlen, ?_⟩
    have : routeOf s.ti .upper kind hdr.dest = .consumedAndForwarded := by
      simp only [routeOf, routeUpper, hb, hu, hp, hd]
      have h5 : ¬ 255 < p := by omega
      have h6 : ¬ 255 = p := by omega
      simp [hn, h5, h6]
    simp only [receive, frameOf, this, heard, forward]

/-- The reply that a carried command puts in an empty reply place. -/
theorem takeCommand_free (code : Byte) (args : List Byte) (carry : State → Carry) (s : State) (h : s.ti.slot = .empty)
    (hr : (carry s).1.ti.reply = none) :
    takeCommand code args carry s = fillPlace (commandReply code args (carry s).2.1 (carry s).2.2) (carry s).1 := by
  simp only [takeCommand, slotFree, h]
  simp [placeDue, hr]

theorem slotAfter_ne_due (d : DueReply) : ∀ e, slotAfter d ≠ .due e := by
  intro e; unfold slotAfter; split <;> simp

theorem slotAfter_ne_relay (d : DueReply) (k : NodeKey) (f : Frame) (b : Bool) : slotAfter d ≠ .relay k f b := by
  unfold slotAfter; split <;> simp

/-- What a COMMAND for this unit leaves before the end of the step: `carry` on the state its arrival leaves, its reply in
the reply place, and DF, which may have gained the frame. -/
theorem receiveCommand_forUnit (hdr : Header) (code : Byte) (args : List Byte) (carry : State → Carry) (s : State)
    (h : ForUnit s hdr.dest) (ha : CanAnswer s) (hti : (carry (presenceRestart s)).1.ti.reply = none)
    (hdf : (carry (presenceRestart s)).1.ti.df = s.ti.df) :
    ∃ df, receiveCommand hdr code args carry s =
      let u := (carry (presenceRestart s)).1
      let d := commandReply code args (carry (presenceRestart s)).2.1 (carry (presenceRestart s)).2.2
      { u with ti := { u.ti with df := df, reply := some ⟨buildReply u d, isReset d⟩, slot := slotAfter d } } := by
  have e := takeCommand_free code args carry (presenceRestart s) ha.1 hti
  rcases receive_forUnit hdr kindCommand (code :: args) (takeCommand code args carry) s h (by decide) (by decide) with h1 | ⟨hlen, h1⟩
  · refine ⟨(carry (presenceRestart s)).1.ti.df, ?_⟩
    simp only [receiveCommand, h1, e]
    rfl
  · refine ⟨s.ti.df ++ [frameOf hdr kindCommand (code :: args)], ?_⟩
    simp only [receiveCommand, h1, e]
    rw [forwardDown_ti _ _ _ (by simpa [fillPlace, hdf] using hlen)]
    simp [fillPlace, hdf]

/-- The answer to a COMMAND for this unit, at the end of a step that leaves the legs alone. -/
theorem command_settle (hdr : Header) (code : Byte) (args : List Byte) (carry : State → Carry) (s : State)
    (h : ForUnit s hdr.dest) (ha : CanAnswer s) (hti : (carry (presenceRestart s)).1.ti.reply = none)
    (hdf : (carry (presenceRestart s)).1.ti.df = s.ti.df) :
    let u := (carry (presenceRestart s)).1
    let d := commandReply code args (carry (presenceRestart s)).2.1 (carry (presenceRestart s)).2.2
    let t := settle (receiveCommand hdr code args carry s)
    quiet t = quiet u ∧ t.ti.slot = slotAfter d ∧ Answered t (buildReply u d) (isReset d) ∧ t.ti.position = u.ti.position := by
  obtain ⟨df, e⟩ := receiveCommand_forUnit hdr code args carry s h ha hti hdf
  intro u d t
  have ht : t = settle { u with ti := { u.ti with df := df, reply := some ⟨buildReply u d, isReset d⟩, slot := slotAfter d } } := by
    simp only [t, e]; rfl
  rw [ht]
  refine ⟨?_, ?_⟩
  · rw [quiet_settle]; rfl
  · obtain ⟨a, b⟩ := settle_answered
      { u with ti := { u.ti with df := df, reply := some ⟨buildReply u d, isReset d⟩, slot := slotAfter d } }
      ⟨buildReply u d, isReset d⟩ rfl (slotAfter_ne_due d) rfl
    exact ⟨a, b, settle_position _⟩

/-- The same at the end of a step that may bring work to the legs, when it brings none. -/
theorem command_settleAll (hdr : Header) (code : Byte) (args : List Byte) (carry : State → Carry) (s : State)
    (h : ForUnit s hdr.dest) (ha : CanAnswer s) (hti : (carry (presenceRestart s)).1.ti.reply = none)
    (hdf : (carry (presenceRestart s)).1.ti.df = s.ti.df) (hr : LegsAtRest (carry (presenceRestart s)).1) :
    settleAll (receiveCommand hdr code args carry s) = settle (receiveCommand hdr code args carry s) := by
  obtain ⟨df, e⟩ := receiveCommand_forUnit hdr code args carry s h ha hti hdf
  unfold settleAll
  rw [boundaries_of_atRest]
  rw [e]
  refine legsAtRest_congr (carry (presenceRestart s)).1 _ rfl rfl ?_ rfl hr
  intro k f hk
  exact absurd hk (slotAfter_ne_relay _ k f false)

end Sys2Proof.Machine
end

