-- ==== Sys2Proof/Laws/State.lean ====
section
/-! SUPPORT. What each named update leaves alone, field by field: a proof cites these and never unfolds an update. -/

namespace Sys2Proof.Machine

open Sys2Proof

variable (s : State)

/-! `elapse` changes `clock` and `ti` alone. -/

@[simp] theorem elapse_pins (d : Nat) : (elapse d s).pins = s.pins := rfl
@[simp] theorem elapse_rt (d : Nat) : (elapse d s).rt = s.rt := rfl
@[simp] theorem elapse_le (d : Nat) : (elapse d s).le = s.le := rfl
@[simp] theorem elapse_nd (d : Nat) : (elapse d s).nd = s.nd := rfl
@[simp] theorem elapse_fa (d : Nat) : (elapse d s).fa = s.fa := rfl
@[simp] theorem elapse_de (d : Nat) : (elapse d s).de = s.de := rfl
@[simp] theorem elapse_ie (d : Nat) : (elapse d s).ie = s.ie := rfl
@[simp] theorem elapse_vs (d : Nat) : (elapse d s).vs = s.vs := rfl
@[simp] theorem elapse_xc (d : Nat) : (elapse d s).xc = s.xc := rfl
@[simp] theorem elapse_ts (d : Nat) : (elapse d s).ts = s.ts := rfl
@[simp] theorem elapse_free (d : Nat) : (elapse d s).free = s.free := rfl
@[simp] theorem elapse_pending (d : Nat) : (elapse d s).pending = s.pending := rfl

/-! `reachTime` changes `clock` and `ti` alone. -/

@[simp] theorem reachTime_pins (t : Nat) : (reachTime t s).pins = s.pins := rfl
@[simp] theorem reachTime_rt (t : Nat) : (reachTime t s).rt = s.rt := rfl
@[simp] theorem reachTime_le (t : Nat) : (reachTime t s).le = s.le := rfl
@[simp] theorem reachTime_nd (t : Nat) : (reachTime t s).nd = s.nd := rfl
@[simp] theorem reachTime_fa (t : Nat) : (reachTime t s).fa = s.fa := rfl
@[simp] theorem reachTime_de (t : Nat) : (reachTime t s).de = s.de := rfl
@[simp] theorem reachTime_ie (t : Nat) : (reachTime t s).ie = s.ie := rfl
@[simp] theorem reachTime_vs (t : Nat) : (reachTime t s).vs = s.vs := rfl
@[simp] theorem reachTime_xc (t : Nat) : (reachTime t s).xc = s.xc := rfl
@[simp] theorem reachTime_ts (t : Nat) : (reachTime t s).ts = s.ts := rfl
@[simp] theorem reachTime_free (t : Nat) : (reachTime t s).free = s.free := rfl
@[simp] theorem reachTime_pending (t : Nat) : (reachTime t s).pending = s.pending := rfl

/-! `useFree` changes `free` alone. -/

@[simp] theorem useFree_clock : (useFree s).clock = s.clock := rfl
@[simp] theorem useFree_pins : (useFree s).pins = s.pins := rfl
@[simp] theorem useFree_rt : (useFree s).rt = s.rt := rfl
@[simp] theorem useFree_le : (useFree s).le = s.le := rfl
@[simp] theorem useFree_nd : (useFree s).nd = s.nd := rfl
@[simp] theorem useFree_fa : (useFree s).fa = s.fa := rfl
@[simp] theorem useFree_de : (useFree s).de = s.de := rfl
@[simp] theorem useFree_ie : (useFree s).ie = s.ie := rfl
@[simp] theorem useFree_vs : (useFree s).vs = s.vs := rfl
@[simp] theorem useFree_xc : (useFree s).xc = s.xc := rfl
@[simp] theorem useFree_ts : (useFree s).ts = s.ts := rfl
@[simp] theorem useFree_ti : (useFree s).ti = s.ti := rfl
@[simp] theorem useFree_pending : (useFree s).pending = s.pending := rfl

/-! `setLeg` changes `le` alone. -/

@[simp] theorem setLeg_clock (l : Leg) (f : LegEngine → LegEngine) : (setLeg l f s).clock = s.clock := rfl
@[simp] theorem setLeg_pins (l : Leg) (f : LegEngine → LegEngine) : (setLeg l f s).pins = s.pins := rfl
@[simp] theorem setLeg_rt (l : Leg) (f : LegEngine → LegEngine) : (setLeg l f s).rt = s.rt := rfl
@[simp] theorem setLeg_nd (l : Leg) (f : LegEngine → LegEngine) : (setLeg l f s).nd = s.nd := rfl
@[simp] theorem setLeg_fa (l : Leg) (f : LegEngine → LegEngine) : (setLeg l f s).fa = s.fa := rfl
@[simp] theorem setLeg_de (l : Leg) (f : LegEngine → LegEngine) : (setLeg l f s).de = s.de := rfl
@[simp] theorem setLeg_ie (l : Leg) (f : LegEngine → LegEngine) : (setLeg l f s).ie = s.ie := rfl
@[simp] theorem setLeg_vs (l : Leg) (f : LegEngine → LegEngine) : (setLeg l f s).vs = s.vs := rfl
@[simp] theorem setLeg_xc (l : Leg) (f : LegEngine → LegEngine) : (setLeg l f s).xc = s.xc := rfl
@[simp] theorem setLeg_ts (l : Leg) (f : LegEngine → LegEngine) : (setLeg l f s).ts = s.ts := rfl
@[simp] theorem setLeg_ti (l : Leg) (f : LegEngine → LegEngine) : (setLeg l f s).ti = s.ti := rfl
@[simp] theorem setLeg_free (l : Leg) (f : LegEngine → LegEngine) : (setLeg l f s).free = s.free := rfl
@[simp] theorem setLeg_pending (l : Leg) (f : LegEngine → LegEngine) : (setLeg l f s).pending = s.pending := rfl

/-! `setNode` changes `nd` alone. -/

@[simp] theorem setNode_clock (k : NodeKey) (f : NodeRun → NodeRun) : (setNode k f s).clock = s.clock := rfl
@[simp] theorem setNode_pins (k : NodeKey) (f : NodeRun → NodeRun) : (setNode k f s).pins = s.pins := rfl
@[simp] theorem setNode_rt (k : NodeKey) (f : NodeRun → NodeRun) : (setNode k f s).rt = s.rt := rfl
@[simp] theorem setNode_le (k : NodeKey) (f : NodeRun → NodeRun) : (setNode k f s).le = s.le := rfl
@[simp] theorem setNode_fa (k : NodeKey) (f : NodeRun → NodeRun) : (setNode k f s).fa = s.fa := rfl
@[simp] theorem setNode_de (k : NodeKey) (f : NodeRun → NodeRun) : (setNode k f s).de = s.de := rfl
@[simp] theorem setNode_ie (k : NodeKey) (f : NodeRun → NodeRun) : (setNode k f s).ie = s.ie := rfl
@[simp] theorem setNode_vs (k : NodeKey) (f : NodeRun → NodeRun) : (setNode k f s).vs = s.vs := rfl
@[simp] theorem setNode_xc (k : NodeKey) (f : NodeRun → NodeRun) : (setNode k f s).xc = s.xc := rfl
@[simp] theorem setNode_ts (k : NodeKey) (f : NodeRun → NodeRun) : (setNode k f s).ts = s.ts := rfl
@[simp] theorem setNode_ti (k : NodeKey) (f : NodeRun → NodeRun) : (setNode k f s).ti = s.ti := rfl
@[simp] theorem setNode_free (k : NodeKey) (f : NodeRun → NodeRun) : (setNode k f s).free = s.free := rfl
@[simp] theorem setNode_pending (k : NodeKey) (f : NodeRun → NodeRun) : (setNode k f s).pending = s.pending := rfl

/-! `setRow` changes `de` alone. -/

@[simp] theorem setRow_clock (k : RowKey) (f : RowRun → RowRun) : (setRow k f s).clock = s.clock := rfl
@[simp] theorem setRow_pins (k : RowKey) (f : RowRun → RowRun) : (setRow k f s).pins = s.pins := rfl
@[simp] theorem setRow_rt (k : RowKey) (f : RowRun → RowRun) : (setRow k f s).rt = s.rt := rfl
@[simp] theorem setRow_le (k : RowKey) (f : RowRun → RowRun) : (setRow k f s).le = s.le := rfl
@[simp] theorem setRow_nd (k : RowKey) (f : RowRun → RowRun) : (setRow k f s).nd = s.nd := rfl
@[simp] theorem setRow_fa (k : RowKey) (f : RowRun → RowRun) : (setRow k f s).fa = s.fa := rfl
@[simp] theorem setRow_ie (k : RowKey) (f : RowRun → RowRun) : (setRow k f s).ie = s.ie := rfl
@[simp] theorem setRow_vs (k : RowKey) (f : RowRun → RowRun) : (setRow k f s).vs = s.vs := rfl
@[simp] theorem setRow_xc (k : RowKey) (f : RowRun → RowRun) : (setRow k f s).xc = s.xc := rfl
@[simp] theorem setRow_ts (k : RowKey) (f : RowRun → RowRun) : (setRow k f s).ts = s.ts := rfl
@[simp] theorem setRow_ti (k : RowKey) (f : RowRun → RowRun) : (setRow k f s).ti = s.ti := rfl
@[simp] theorem setRow_free (k : RowKey) (f : RowRun → RowRun) : (setRow k f s).free = s.free := rfl
@[simp] theorem setRow_pending (k : RowKey) (f : RowRun → RowRun) : (setRow k f s).pending = s.pending := rfl

/-! `setHeader` changes `vs` alone. -/

@[simp] theorem setHeader_clock (f : HeaderDrive → HeaderDrive) : (setHeader f s).clock = s.clock := rfl
@[simp] theorem setHeader_pins (f : HeaderDrive → HeaderDrive) : (setHeader f s).pins = s.pins := rfl
@[simp] theorem setHeader_rt (f : HeaderDrive → HeaderDrive) : (setHeader f s).rt = s.rt := rfl
@[simp] theorem setHeader_le (f : HeaderDrive → HeaderDrive) : (setHeader f s).le = s.le := rfl
@[simp] theorem setHeader_nd (f : HeaderDrive → HeaderDrive) : (setHeader f s).nd = s.nd := rfl
@[simp] theorem setHeader_fa (f : HeaderDrive → HeaderDrive) : (setHeader f s).fa = s.fa := rfl
@[simp] theorem setHeader_de (f : HeaderDrive → HeaderDrive) : (setHeader f s).de = s.de := rfl
@[simp] theorem setHeader_ie (f : HeaderDrive → HeaderDrive) : (setHeader f s).ie = s.ie := rfl
@[simp] theorem setHeader_xc (f : HeaderDrive → HeaderDrive) : (setHeader f s).xc = s.xc := rfl
@[simp] theorem setHeader_ts (f : HeaderDrive → HeaderDrive) : (setHeader f s).ts = s.ts := rfl
@[simp] theorem setHeader_ti (f : HeaderDrive → HeaderDrive) : (setHeader f s).ti = s.ti := rfl
@[simp] theorem setHeader_free (f : HeaderDrive → HeaderDrive) : (setHeader f s).free = s.free := rfl
@[simp] theorem setHeader_pending (f : HeaderDrive → HeaderDrive) : (setHeader f s).pending = s.pending := rfl

/-! `modIncident` changes `ie` alone. -/

@[simp] theorem modIncident_clock (id : Nat) (f : Incident → Incident) : (modIncident id f s).clock = s.clock := rfl
@[simp] theorem modIncident_pins (id : Nat) (f : Incident → Incident) : (modIncident id f s).pins = s.pins := rfl
@[simp] theorem modIncident_rt (id : Nat) (f : Incident → Incident) : (modIncident id f s).rt = s.rt := rfl
@[simp] theorem modIncident_le (id : Nat) (f : Incident → Incident) : (modIncident id f s).le = s.le := rfl
@[simp] theorem modIncident_nd (id : Nat) (f : Incident → Incident) : (modIncident id f s).nd = s.nd := rfl
@[simp] theorem modIncident_fa (id : Nat) (f : Incident → Incident) : (modIncident id f s).fa = s.fa := rfl
@[simp] theorem modIncident_de (id : Nat) (f : Incident → Incident) : (modIncident id f s).de = s.de := rfl
@[simp] theorem modIncident_vs (id : Nat) (f : Incident → Incident) : (modIncident id f s).vs = s.vs := rfl
@[simp] theorem modIncident_xc (id : Nat) (f : Incident → Incident) : (modIncident id f s).xc = s.xc := rfl
@[simp] theorem modIncident_ts (id : Nat) (f : Incident → Incident) : (modIncident id f s).ts = s.ts := rfl
@[simp] theorem modIncident_ti (id : Nat) (f : Incident → Incident) : (modIncident id f s).ti = s.ti := rfl
@[simp] theorem modIncident_free (id : Nat) (f : Incident → Incident) : (modIncident id f s).free = s.free := rfl
@[simp] theorem modIncident_pending (id : Nat) (f : Incident → Incident) : (modIncident id f s).pending = s.pending := rfl

/-! `changeIncident` changes `ie` alone. -/

@[simp] theorem changeIncident_clock (id : Nat) (f : Incident → Incident) : (changeIncident id f s).clock = s.clock := rfl
@[simp] theorem changeIncident_pins (id : Nat) (f : Incident → Incident) : (changeIncident id f s).pins = s.pins := rfl
@[simp] theorem changeIncident_rt (id : Nat) (f : Incident → Incident) : (changeIncident id f s).rt = s.rt := rfl
@[simp] theorem changeIncident_le (id : Nat) (f : Incident → Incident) : (changeIncident id f s).le = s.le := rfl
@[simp] theorem changeIncident_nd (id : Nat) (f : Incident → Incident) : (changeIncident id f s).nd = s.nd := rfl
@[simp] theorem changeIncident_fa (id : Nat) (f : Incident → Incident) : (changeIncident id f s).fa = s.fa := rfl
@[simp] theorem changeIncident_de (id : Nat) (f : Incident → Incident) : (changeIncident id f s).de = s.de := rfl
@[simp] theorem changeIncident_vs (id : Nat) (f : Incident → Incident) : (changeIncident id f s).vs = s.vs := rfl
@[simp] theorem changeIncident_xc (id : Nat) (f : Incident → Incident) : (changeIncident id f s).xc = s.xc := rfl
@[simp] theorem changeIncident_ts (id : Nat) (f : Incident → Incident) : (changeIncident id f s).ts = s.ts := rfl
@[simp] theorem changeIncident_ti (id : Nat) (f : Incident → Incident) : (changeIncident id f s).ti = s.ti := rfl
@[simp] theorem changeIncident_free (id : Nat) (f : Incident → Incident) : (changeIncident id f s).free = s.free := rfl
@[simp] theorem changeIncident_pending (id : Nat) (f : Incident → Incident) : (changeIncident id f s).pending = s.pending := rfl

/-! `setNotice` changes `ie` alone. -/

@[simp] theorem setNotice_clock (b : BranchId) (n : NoticeState) : (setNotice b n s).clock = s.clock := rfl
@[simp] theorem setNotice_pins (b : BranchId) (n : NoticeState) : (setNotice b n s).pins = s.pins := rfl
@[simp] theorem setNotice_rt (b : BranchId) (n : NoticeState) : (setNotice b n s).rt = s.rt := rfl
@[simp] theorem setNotice_le (b : BranchId) (n : NoticeState) : (setNotice b n s).le = s.le := rfl
@[simp] theorem setNotice_nd (b : BranchId) (n : NoticeState) : (setNotice b n s).nd = s.nd := rfl
@[simp] theorem setNotice_fa (b : BranchId) (n : NoticeState) : (setNotice b n s).fa = s.fa := rfl
@[simp] theorem setNotice_de (b : BranchId) (n : NoticeState) : (setNotice b n s).de = s.de := rfl
@[simp] theorem setNotice_vs (b : BranchId) (n : NoticeState) : (setNotice b n s).vs = s.vs := rfl
@[simp] theorem setNotice_xc (b : BranchId) (n : NoticeState) : (setNotice b n s).xc = s.xc := rfl
@[simp] theorem setNotice_ts (b : BranchId) (n : NoticeState) : (setNotice b n s).ts = s.ts := rfl
@[simp] theorem setNotice_ti (b : BranchId) (n : NoticeState) : (setNotice b n s).ti = s.ti := rfl
@[simp] theorem setNotice_free (b : BranchId) (n : NoticeState) : (setNotice b n s).free = s.free := rfl
@[simp] theorem setNotice_pending (b : BranchId) (n : NoticeState) : (setNotice b n s).pending = s.pending := rfl

/-! `zeroScore` changes `de` alone. -/

@[simp] theorem zeroScore_clock (b : BranchId) : (zeroScore b s).clock = s.clock := rfl
@[simp] theorem zeroScore_pins (b : BranchId) : (zeroScore b s).pins = s.pins := rfl
@[simp] theorem zeroScore_rt (b : BranchId) : (zeroScore b s).rt = s.rt := rfl
@[simp] theorem zeroScore_le (b : BranchId) : (zeroScore b s).le = s.le := rfl
@[simp] theorem zeroScore_nd (b : BranchId) : (zeroScore b s).nd = s.nd := rfl
@[simp] theorem zeroScore_fa (b : BranchId) : (zeroScore b s).fa = s.fa := rfl
@[simp] theorem zeroScore_ie (b : BranchId) : (zeroScore b s).ie = s.ie := rfl
@[simp] theorem zeroScore_vs (b : BranchId) : (zeroScore b s).vs = s.vs := rfl
@[simp] theorem zeroScore_xc (b : BranchId) : (zeroScore b s).xc = s.xc := rfl
@[simp] theorem zeroScore_ts (b : BranchId) : (zeroScore b s).ts = s.ts := rfl
@[simp] theorem zeroScore_ti (b : BranchId) : (zeroScore b s).ti = s.ti := rfl
@[simp] theorem zeroScore_free (b : BranchId) : (zeroScore b s).free = s.free := rfl
@[simp] theorem zeroScore_pending (b : BranchId) : (zeroScore b s).pending = s.pending := rfl

/-! `zeroLoss` changes `fa` alone. -/

@[simp] theorem zeroLoss_clock (b : BranchId) : (zeroLoss b s).clock = s.clock := rfl
@[simp] theorem zeroLoss_pins (b : BranchId) : (zeroLoss b s).pins = s.pins := rfl
@[simp] theorem zeroLoss_rt (b : BranchId) : (zeroLoss b s).rt = s.rt := rfl
@[simp] theorem zeroLoss_le (b : BranchId) : (zeroLoss b s).le = s.le := rfl
@[simp] theorem zeroLoss_nd (b : BranchId) : (zeroLoss b s).nd = s.nd := rfl
@[simp] theorem zeroLoss_de (b : BranchId) : (zeroLoss b s).de = s.de := rfl
@[simp] theorem zeroLoss_ie (b : BranchId) : (zeroLoss b s).ie = s.ie := rfl
@[simp] theorem zeroLoss_vs (b : BranchId) : (zeroLoss b s).vs = s.vs := rfl
@[simp] theorem zeroLoss_xc (b : BranchId) : (zeroLoss b s).xc = s.xc := rfl
@[simp] theorem zeroLoss_ts (b : BranchId) : (zeroLoss b s).ts = s.ts := rfl
@[simp] theorem zeroLoss_ti (b : BranchId) : (zeroLoss b s).ti = s.ti := rfl
@[simp] theorem zeroLoss_free (b : BranchId) : (zeroLoss b s).free = s.free := rfl
@[simp] theorem zeroLoss_pending (b : BranchId) : (zeroLoss b s).pending = s.pending := rfl

/-! `ownAndIssue` changes `vs` alone. -/

@[simp] theorem ownAndIssue_clock (id : Nat) (k : NodeKey) (t : ValveTarget) : (ownAndIssue id k t s).clock = s.clock := rfl
@[simp] theorem ownAndIssue_pins (id : Nat) (k : NodeKey) (t : ValveTarget) : (ownAndIssue id k t s).pins = s.pins := rfl
@[simp] theorem ownAndIssue_rt (id : Nat) (k : NodeKey) (t : ValveTarget) : (ownAndIssue id k t s).rt = s.rt := rfl
@[simp] theorem ownAndIssue_le (id : Nat) (k : NodeKey) (t : ValveTarget) : (ownAndIssue id k t s).le = s.le := rfl
@[simp] theorem ownAndIssue_nd (id : Nat) (k : NodeKey) (t : ValveTarget) : (ownAndIssue id k t s).nd = s.nd := rfl
@[simp] theorem ownAndIssue_fa (id : Nat) (k : NodeKey) (t : ValveTarget) : (ownAndIssue id k t s).fa = s.fa := rfl
@[simp] theorem ownAndIssue_de (id : Nat) (k : NodeKey) (t : ValveTarget) : (ownAndIssue id k t s).de = s.de := rfl
@[simp] theorem ownAndIssue_ie (id : Nat) (k : NodeKey) (t : ValveTarget) : (ownAndIssue id k t s).ie = s.ie := rfl
@[simp] theorem ownAndIssue_xc (id : Nat) (k : NodeKey) (t : ValveTarget) : (ownAndIssue id k t s).xc = s.xc := rfl
@[simp] theorem ownAndIssue_ts (id : Nat) (k : NodeKey) (t : ValveTarget) : (ownAndIssue id k t s).ts = s.ts := rfl
@[simp] theorem ownAndIssue_ti (id : Nat) (k : NodeKey) (t : ValveTarget) : (ownAndIssue id k t s).ti = s.ti := rfl
@[simp] theorem ownAndIssue_free (id : Nat) (k : NodeKey) (t : ValveTarget) : (ownAndIssue id k t s).free = s.free := rfl
@[simp] theorem ownAndIssue_pending (id : Nat) (k : NodeKey) (t : ValveTarget) : (ownAndIssue id k t s).pending = s.pending := rfl

/-! `presenceRestart` changes `ti` alone. -/

@[simp] theorem presenceRestart_clock : (presenceRestart s).clock = s.clock := rfl
@[simp] theorem presenceRestart_pins : (presenceRestart s).pins = s.pins := rfl
@[simp] theorem presenceRestart_rt : (presenceRestart s).rt = s.rt := rfl
@[simp] theorem presenceRestart_le : (presenceRestart s).le = s.le := rfl
@[simp] theorem presenceRestart_nd : (presenceRestart s).nd = s.nd := rfl
@[simp] theorem presenceRestart_fa : (presenceRestart s).fa = s.fa := rfl
@[simp] theorem presenceRestart_de : (presenceRestart s).de = s.de := rfl
@[simp] theorem presenceRestart_ie : (presenceRestart s).ie = s.ie := rfl
@[simp] theorem presenceRestart_vs : (presenceRestart s).vs = s.vs := rfl
@[simp] theorem presenceRestart_xc : (presenceRestart s).xc = s.xc := rfl
@[simp] theorem presenceRestart_ts : (presenceRestart s).ts = s.ts := rfl
@[simp] theorem presenceRestart_free : (presenceRestart s).free = s.free := rfl
@[simp] theorem presenceRestart_pending : (presenceRestart s).pending = s.pending := rfl

/-! `recordError` changes `ti` alone. -/

@[simp] theorem recordError_clock (e : FrameError) (p : Port) : (recordError e p s).clock = s.clock := rfl
@[simp] theorem recordError_pins (e : FrameError) (p : Port) : (recordError e p s).pins = s.pins := rfl
@[simp] theorem recordError_rt (e : FrameError) (p : Port) : (recordError e p s).rt = s.rt := rfl
@[simp] theorem recordError_le (e : FrameError) (p : Port) : (recordError e p s).le = s.le := rfl
@[simp] theorem recordError_nd (e : FrameError) (p : Port) : (recordError e p s).nd = s.nd := rfl
@[simp] theorem recordError_fa (e : FrameError) (p : Port) : (recordError e p s).fa = s.fa := rfl
@[simp] theorem recordError_de (e : FrameError) (p : Port) : (recordError e p s).de = s.de := rfl
@[simp] theorem recordError_ie (e : FrameError) (p : Port) : (recordError e p s).ie = s.ie := rfl
@[simp] theorem recordError_vs (e : FrameError) (p : Port) : (recordError e p s).vs = s.vs := rfl
@[simp] theorem recordError_xc (e : FrameError) (p : Port) : (recordError e p s).xc = s.xc := rfl
@[simp] theorem recordError_ts (e : FrameError) (p : Port) : (recordError e p s).ts = s.ts := rfl
@[simp] theorem recordError_free (e : FrameError) (p : Port) : (recordError e p s).free = s.free := rfl
@[simp] theorem recordError_pending (e : FrameError) (p : Port) : (recordError e p s).pending = s.pending := rfl

/-! `fillPlace` changes `ti` alone. -/

@[simp] theorem fillPlace_clock (d : DueReply) : (fillPlace d s).clock = s.clock := rfl
@[simp] theorem fillPlace_pins (d : DueReply) : (fillPlace d s).pins = s.pins := rfl
@[simp] theorem fillPlace_rt (d : DueReply) : (fillPlace d s).rt = s.rt := rfl
@[simp] theorem fillPlace_le (d : DueReply) : (fillPlace d s).le = s.le := rfl
@[simp] theorem fillPlace_nd (d : DueReply) : (fillPlace d s).nd = s.nd := rfl
@[simp] theorem fillPlace_fa (d : DueReply) : (fillPlace d s).fa = s.fa := rfl
@[simp] theorem fillPlace_de (d : DueReply) : (fillPlace d s).de = s.de := rfl
@[simp] theorem fillPlace_ie (d : DueReply) : (fillPlace d s).ie = s.ie := rfl
@[simp] theorem fillPlace_vs (d : DueReply) : (fillPlace d s).vs = s.vs := rfl
@[simp] theorem fillPlace_xc (d : DueReply) : (fillPlace d s).xc = s.xc := rfl
@[simp] theorem fillPlace_ts (d : DueReply) : (fillPlace d s).ts = s.ts := rfl
@[simp] theorem fillPlace_free (d : DueReply) : (fillPlace d s).free = s.free := rfl
@[simp] theorem fillPlace_pending (d : DueReply) : (fillPlace d s).pending = s.pending := rfl

/-! `startTxn` changes `le` alone. -/

@[simp] theorem startTxn_clock (l : Leg) (p : Purpose) (k : NodeKey) (f : Frame) : (startTxn l p k f s).clock = s.clock := rfl
@[simp] theorem startTxn_pins (l : Leg) (p : Purpose) (k : NodeKey) (f : Frame) : (startTxn l p k f s).pins = s.pins := rfl
@[simp] theorem startTxn_rt (l : Leg) (p : Purpose) (k : NodeKey) (f : Frame) : (startTxn l p k f s).rt = s.rt := rfl
@[simp] theorem startTxn_nd (l : Leg) (p : Purpose) (k : NodeKey) (f : Frame) : (startTxn l p k f s).nd = s.nd := rfl
@[simp] theorem startTxn_fa (l : Leg) (p : Purpose) (k : NodeKey) (f : Frame) : (startTxn l p k f s).fa = s.fa := rfl
@[simp] theorem startTxn_de (l : Leg) (p : Purpose) (k : NodeKey) (f : Frame) : (startTxn l p k f s).de = s.de := rfl
@[simp] theorem startTxn_ie (l : Leg) (p : Purpose) (k : NodeKey) (f : Frame) : (startTxn l p k f s).ie = s.ie := rfl
@[simp] theorem startTxn_vs (l : Leg) (p : Purpose) (k : NodeKey) (f : Frame) : (startTxn l p k f s).vs = s.vs := rfl
@[simp] theorem startTxn_xc (l : Leg) (p : Purpose) (k : NodeKey) (f : Frame) : (startTxn l p k f s).xc = s.xc := rfl
@[simp] theorem startTxn_ts (l : Leg) (p : Purpose) (k : NodeKey) (f : Frame) : (startTxn l p k f s).ts = s.ts := rfl
@[simp] theorem startTxn_ti (l : Leg) (p : Purpose) (k : NodeKey) (f : Frame) : (startTxn l p k f s).ti = s.ti := rfl
@[simp] theorem startTxn_free (l : Leg) (p : Purpose) (k : NodeKey) (f : Frame) : (startTxn l p k f s).free = s.free := rfl
@[simp] theorem startTxn_pending (l : Leg) (p : Purpose) (k : NodeKey) (f : Frame) : (startTxn l p k f s).pending = s.pending := rfl

/-! `advanceRound` changes `rt` alone. -/

@[simp] theorem advanceRound_clock : (advanceRound s).clock = s.clock := rfl
@[simp] theorem advanceRound_pins : (advanceRound s).pins = s.pins := rfl
@[simp] theorem advanceRound_le : (advanceRound s).le = s.le := rfl
@[simp] theorem advanceRound_nd : (advanceRound s).nd = s.nd := rfl
@[simp] theorem advanceRound_fa : (advanceRound s).fa = s.fa := rfl
@[simp] theorem advanceRound_de : (advanceRound s).de = s.de := rfl
@[simp] theorem advanceRound_ie : (advanceRound s).ie = s.ie := rfl
@[simp] theorem advanceRound_vs : (advanceRound s).vs = s.vs := rfl
@[simp] theorem advanceRound_xc : (advanceRound s).xc = s.xc := rfl
@[simp] theorem advanceRound_ts : (advanceRound s).ts = s.ts := rfl
@[simp] theorem advanceRound_ti : (advanceRound s).ti = s.ti := rfl
@[simp] theorem advanceRound_free : (advanceRound s).free = s.free := rfl
@[simp] theorem advanceRound_pending : (advanceRound s).pending = s.pending := rfl

/-! `closeOnTime` changes `rt` alone. -/

@[simp] theorem closeOnTime_clock : (closeOnTime s).clock = s.clock := rfl
@[simp] theorem closeOnTime_pins : (closeOnTime s).pins = s.pins := rfl
@[simp] theorem closeOnTime_le : (closeOnTime s).le = s.le := rfl
@[simp] theorem closeOnTime_nd : (closeOnTime s).nd = s.nd := rfl
@[simp] theorem closeOnTime_fa : (closeOnTime s).fa = s.fa := rfl
@[simp] theorem closeOnTime_de : (closeOnTime s).de = s.de := rfl
@[simp] theorem closeOnTime_ie : (closeOnTime s).ie = s.ie := rfl
@[simp] theorem closeOnTime_vs : (closeOnTime s).vs = s.vs := rfl
@[simp] theorem closeOnTime_xc : (closeOnTime s).xc = s.xc := rfl
@[simp] theorem closeOnTime_ts : (closeOnTime s).ts = s.ts := rfl
@[simp] theorem closeOnTime_ti : (closeOnTime s).ti = s.ti := rfl
@[simp] theorem closeOnTime_free : (closeOnTime s).free = s.free := rfl
@[simp] theorem closeOnTime_pending : (closeOnTime s).pending = s.pending := rfl

/-! `takePeriod` changes `rt` alone. -/

@[simp] theorem takePeriod_clock : (takePeriod s).clock = s.clock := rfl
@[simp] theorem takePeriod_pins : (takePeriod s).pins = s.pins := rfl
@[simp] theorem takePeriod_le : (takePeriod s).le = s.le := rfl
@[simp] theorem takePeriod_nd : (takePeriod s).nd = s.nd := rfl
@[simp] theorem takePeriod_fa : (takePeriod s).fa = s.fa := rfl
@[simp] theorem takePeriod_de : (takePeriod s).de = s.de := rfl
@[simp] theorem takePeriod_ie : (takePeriod s).ie = s.ie := rfl
@[simp] theorem takePeriod_vs : (takePeriod s).vs = s.vs := rfl
@[simp] theorem takePeriod_xc : (takePeriod s).xc = s.xc := rfl
@[simp] theorem takePeriod_ts : (takePeriod s).ts = s.ts := rfl
@[simp] theorem takePeriod_ti : (takePeriod s).ti = s.ti := rfl
@[simp] theorem takePeriod_free : (takePeriod s).free = s.free := rfl
@[simp] theorem takePeriod_pending : (takePeriod s).pending = s.pending := rfl

/-! `shiftBack` changes `nd` alone. -/

@[simp] theorem shiftBack_clock : (shiftBack s).clock = s.clock := rfl
@[simp] theorem shiftBack_pins : (shiftBack s).pins = s.pins := rfl
@[simp] theorem shiftBack_rt : (shiftBack s).rt = s.rt := rfl
@[simp] theorem shiftBack_le : (shiftBack s).le = s.le := rfl
@[simp] theorem shiftBack_fa : (shiftBack s).fa = s.fa := rfl
@[simp] theorem shiftBack_de : (shiftBack s).de = s.de := rfl
@[simp] theorem shiftBack_ie : (shiftBack s).ie = s.ie := rfl
@[simp] theorem shiftBack_vs : (shiftBack s).vs = s.vs := rfl
@[simp] theorem shiftBack_xc : (shiftBack s).xc = s.xc := rfl
@[simp] theorem shiftBack_ts : (shiftBack s).ts = s.ts := rfl
@[simp] theorem shiftBack_ti : (shiftBack s).ti = s.ti := rfl
@[simp] theorem shiftBack_free : (shiftBack s).free = s.free := rfl
@[simp] theorem shiftBack_pending : (shiftBack s).pending = s.pending := rfl

/-! `buildPollLists` changes `le` alone. -/

@[simp] theorem buildPollLists_clock : (buildPollLists s).clock = s.clock := rfl
@[simp] theorem buildPollLists_pins : (buildPollLists s).pins = s.pins := rfl
@[simp] theorem buildPollLists_rt : (buildPollLists s).rt = s.rt := rfl
@[simp] theorem buildPollLists_nd : (buildPollLists s).nd = s.nd := rfl
@[simp] theorem buildPollLists_fa : (buildPollLists s).fa = s.fa := rfl
@[simp] theorem buildPollLists_de : (buildPollLists s).de = s.de := rfl
@[simp] theorem buildPollLists_ie : (buildPollLists s).ie = s.ie := rfl
@[simp] theorem buildPollLists_vs : (buildPollLists s).vs = s.vs := rfl
@[simp] theorem buildPollLists_xc : (buildPollLists s).xc = s.xc := rfl
@[simp] theorem buildPollLists_ts : (buildPollLists s).ts = s.ts := rfl
@[simp] theorem buildPollLists_ti : (buildPollLists s).ti = s.ti := rfl
@[simp] theorem buildPollLists_free : (buildPollLists s).free = s.free := rfl
@[simp] theorem buildPollLists_pending : (buildPollLists s).pending = s.pending := rfl

/-! `judgeSweepCounts` changes `le` alone. -/

@[simp] theorem judgeSweepCounts_clock : (judgeSweepCounts s).clock = s.clock := rfl
@[simp] theorem judgeSweepCounts_pins : (judgeSweepCounts s).pins = s.pins := rfl
@[simp] theorem judgeSweepCounts_rt : (judgeSweepCounts s).rt = s.rt := rfl
@[simp] theorem judgeSweepCounts_nd : (judgeSweepCounts s).nd = s.nd := rfl
@[simp] theorem judgeSweepCounts_fa : (judgeSweepCounts s).fa = s.fa := rfl
@[simp] theorem judgeSweepCounts_de : (judgeSweepCounts s).de = s.de := rfl
@[simp] theorem judgeSweepCounts_ie : (judgeSweepCounts s).ie = s.ie := rfl
@[simp] theorem judgeSweepCounts_vs : (judgeSweepCounts s).vs = s.vs := rfl
@[simp] theorem judgeSweepCounts_xc : (judgeSweepCounts s).xc = s.xc := rfl
@[simp] theorem judgeSweepCounts_ts : (judgeSweepCounts s).ts = s.ts := rfl
@[simp] theorem judgeSweepCounts_ti : (judgeSweepCounts s).ti = s.ti := rfl
@[simp] theorem judgeSweepCounts_free : (judgeSweepCounts s).free = s.free := rfl
@[simp] theorem judgeSweepCounts_pending : (judgeSweepCounts s).pending = s.pending := rfl

/-! `discardStaging` changes `ts` alone. -/

@[simp] theorem discardStaging_clock : (discardStaging s).clock = s.clock := rfl
@[simp] theorem discardStaging_pins : (discardStaging s).pins = s.pins := rfl
@[simp] theorem discardStaging_rt : (discardStaging s).rt = s.rt := rfl
@[simp] theorem discardStaging_le : (discardStaging s).le = s.le := rfl
@[simp] theorem discardStaging_nd : (discardStaging s).nd = s.nd := rfl
@[simp] theorem discardStaging_fa : (discardStaging s).fa = s.fa := rfl
@[simp] theorem discardStaging_de : (discardStaging s).de = s.de := rfl
@[simp] theorem discardStaging_ie : (discardStaging s).ie = s.ie := rfl
@[simp] theorem discardStaging_vs : (discardStaging s).vs = s.vs := rfl
@[simp] theorem discardStaging_xc : (discardStaging s).xc = s.xc := rfl
@[simp] theorem discardStaging_ti : (discardStaging s).ti = s.ti := rfl
@[simp] theorem discardStaging_free : (discardStaging s).free = s.free := rfl
@[simp] theorem discardStaging_pending : (discardStaging s).pending = s.pending := rfl

/-! `withService` changes `pins` alone. -/

@[simp] theorem withService_clock (b : Bool) : (withService b s).clock = s.clock := rfl
@[simp] theorem withService_rt (b : Bool) : (withService b s).rt = s.rt := rfl
@[simp] theorem withService_le (b : Bool) : (withService b s).le = s.le := rfl
@[simp] theorem withService_nd (b : Bool) : (withService b s).nd = s.nd := rfl
@[simp] theorem withService_fa (b : Bool) : (withService b s).fa = s.fa := rfl
@[simp] theorem withService_de (b : Bool) : (withService b s).de = s.de := rfl
@[simp] theorem withService_ie (b : Bool) : (withService b s).ie = s.ie := rfl
@[simp] theorem withService_vs (b : Bool) : (withService b s).vs = s.vs := rfl
@[simp] theorem withService_xc (b : Bool) : (withService b s).xc = s.xc := rfl
@[simp] theorem withService_ts (b : Bool) : (withService b s).ts = s.ts := rfl
@[simp] theorem withService_ti (b : Bool) : (withService b s).ti = s.ti := rfl
@[simp] theorem withService_free (b : Bool) : (withService b s).free = s.free := rfl
@[simp] theorem withService_pending (b : Bool) : (withService b s).pending = s.pending := rfl

/-! `setOutputs` changes `pins` alone. -/

@[simp] theorem setOutputs_clock : (setOutputs s).clock = s.clock := rfl
@[simp] theorem setOutputs_rt : (setOutputs s).rt = s.rt := rfl
@[simp] theorem setOutputs_le : (setOutputs s).le = s.le := rfl
@[simp] theorem setOutputs_nd : (setOutputs s).nd = s.nd := rfl
@[simp] theorem setOutputs_fa : (setOutputs s).fa = s.fa := rfl
@[simp] theorem setOutputs_de : (setOutputs s).de = s.de := rfl
@[simp] theorem setOutputs_ie : (setOutputs s).ie = s.ie := rfl
@[simp] theorem setOutputs_vs : (setOutputs s).vs = s.vs := rfl
@[simp] theorem setOutputs_xc : (setOutputs s).xc = s.xc := rfl
@[simp] theorem setOutputs_ts : (setOutputs s).ts = s.ts := rfl
@[simp] theorem setOutputs_ti : (setOutputs s).ti = s.ti := rfl
@[simp] theorem setOutputs_free : (setOutputs s).free = s.free := rfl
@[simp] theorem setOutputs_pending : (setOutputs s).pending = s.pending := rfl

/-! `skipBranch` changes `xc` alone. -/

@[simp] theorem skipBranch_clock (i : Nat) (c : ExCause) : (skipBranch i c s).clock = s.clock := rfl
@[simp] theorem skipBranch_pins (i : Nat) (c : ExCause) : (skipBranch i c s).pins = s.pins := rfl
@[simp] theorem skipBranch_rt (i : Nat) (c : ExCause) : (skipBranch i c s).rt = s.rt := rfl
@[simp] theorem skipBranch_le (i : Nat) (c : ExCause) : (skipBranch i c s).le = s.le := rfl
@[simp] theorem skipBranch_nd (i : Nat) (c : ExCause) : (skipBranch i c s).nd = s.nd := rfl
@[simp] theorem skipBranch_fa (i : Nat) (c : ExCause) : (skipBranch i c s).fa = s.fa := rfl
@[simp] theorem skipBranch_de (i : Nat) (c : ExCause) : (skipBranch i c s).de = s.de := rfl
@[simp] theorem skipBranch_ie (i : Nat) (c : ExCause) : (skipBranch i c s).ie = s.ie := rfl
@[simp] theorem skipBranch_vs (i : Nat) (c : ExCause) : (skipBranch i c s).vs = s.vs := rfl
@[simp] theorem skipBranch_ts (i : Nat) (c : ExCause) : (skipBranch i c s).ts = s.ts := rfl
@[simp] theorem skipBranch_ti (i : Nat) (c : ExCause) : (skipBranch i c s).ti = s.ti := rfl
@[simp] theorem skipBranch_free (i : Nat) (c : ExCause) : (skipBranch i c s).free = s.free := rfl
@[simp] theorem skipBranch_pending (i : Nat) (c : ExCause) : (skipBranch i c s).pending = s.pending := rfl

/-! ### Fields within a block -/

@[simp] theorem elapse_clock (d : Nat) : (elapse d s).clock = s.clock + d := rfl
@[simp] theorem reachTime_clock (t : Nat) : (reachTime t s).clock = max s.clock t := by
  simp only [reachTime, elapse]; omega
@[simp] theorem presenceRestart_timer : (presenceRestart s).ti.presenceTimer = 0 := rfl
@[simp] theorem recordError_kind (e : FrameError) (p : Port) : (recordError e p s).ti.errorKind = e := rfl
@[simp] theorem recordError_port (e : FrameError) (p : Port) : (recordError e p s).ti.errorPort = p := rfl
@[simp] theorem fillPlace_slot (d : DueReply) : (fillPlace d s).ti.slot = slotAfter d := rfl
@[simp] theorem fillPlace_reply (d : DueReply) : (fillPlace d s).ti.reply = some ⟨buildReply s d, isReset d⟩ := rfl
@[simp] theorem setHeader_header (f : HeaderDrive → HeaderDrive) : (setHeader f s).vs.header = f s.vs.header := rfl
@[simp] theorem advanceRound_number : (advanceRound s).rt.number = s.rt.number + 1 := rfl
@[simp] theorem enterHeader_state (st : HeaderState) (d : Nat) (x : Option Timer) (h : HeaderDrive) :
    (enterHeader st d x h).state = st := rfl
@[simp] theorem enterHeader_timer (st : HeaderState) (d : Nat) (x : Option Timer) (h : HeaderDrive) :
    (enterHeader st d x h).timer = x := rfl
@[simp] theorem setValve_queues (k : NodeKey) (f : ValveRec → ValveRec) (v : ValveBlock) :
    (setValve k f v).queues = v.queues := rfl
@[simp] theorem setValve_deferred (k : NodeKey) (f : ValveRec → ValveRec) (v : ValveBlock) :
    (setValve k f v).deferred = v.deferred := rfl
@[simp] theorem setValve_header (k : NodeKey) (f : ValveRec → ValveRec) (v : ValveBlock) :
    (setValve k f v).header = v.header := rfl

/-! ### Quads and keyed records -/

@[simp] theorem quadGet_quadSet {α : Type} (q : Quad α) (l : Leg) (x : α) : quadGet (quadSet q l x) l = x := by
  fin_cases l <;> rfl

theorem quadGet_quadSet_ne {α : Type} (q : Quad α) {l m : Leg} (x : α) (h : m ≠ l) : quadGet (quadSet q l x) m = quadGet q m := by
  fin_cases l <;> fin_cases m <;> first | rfl | exact absurd rfl h

@[simp] theorem legAt_setLeg (l : Leg) (f : LegEngine → LegEngine) : legAt (setLeg l f s) l = f (legAt s l) := by
  simp [legAt, setLeg, quadMap]

theorem legAt_setLeg_ne {l m : Leg} (f : LegEngine → LegEngine) (h : m ≠ l) : legAt (setLeg l f s) m = legAt s m := by
  simp [legAt, setLeg, quadMap, quadGet_quadSet_ne _ _ h]

@[simp] theorem assocGet_assocMap {κ ρ : Type} [DecidableEq κ] (k : κ) (f : ρ → ρ) (l : List (κ × ρ)) :
    assocGet k (assocMap k f l) = (assocGet k l).map f := by
  induction l with
  | nil => rfl
  | cons p rest ih => simp only [assocMap, assocGet]; split <;> simp_all [assocGet]

theorem assocGet_assocMap_ne {κ ρ : Type} [DecidableEq κ] {k j : κ} (f : ρ → ρ) (l : List (κ × ρ)) (h : j ≠ k) :
    assocGet j (assocMap k f l) = assocGet j l := by
  induction l with
  | nil => rfl
  | cons p rest ih =>
    simp only [assocMap]
    split
    · next e => simp only [assocGet]; rw [if_neg, if_neg] <;> (rw [e]; exact h.symm)
    · simp only [assocGet, ih]

@[simp] theorem assocGet_assocAll {κ ρ : Type} [DecidableEq κ] (k : κ) (f : ρ → ρ) (l : List (κ × ρ)) :
    assocGet k (assocAll f l) = (assocGet k l).map f := by
  induction l with
  | nil => rfl
  | cons p rest ih => simp only [assocAll, List.map_cons, assocGet]; split <;> simp_all [assocAll]

end Sys2Proof.Machine
end

