-- ==== Sys2Proof/Tests/Slice0.lean ====
section
/-! SUPPORT. Tests: ill-formed terms that `WellFormed` refuses, worked values of the spec, and, for each statement with
hypotheses, states and operands that meet them. -/

namespace Sys2Proof.Tests

set_option maxRecDepth 8000

open Sys2Proof Sys2Proof.Machine

/-! ### States the tests start from -/

/-- The header of a command to unit 2. -/
def hdr : Header := ⟨2, 0, 0xE0⟩

/-- A unit at position 2 without tables. -/
def numbered : State := { State.reset with ti := { TrunkBlock.reset with position := some 2 } }

def flowA : NodeKey := ⟨0, 1⟩
def flowB : NodeKey := ⟨0, 2⟩
def valve : NodeKey := ⟨0, 3⟩
def drip : NodeKey := ⟨1, 1⟩
def dripFieldsOf : DripFields := ⟨40, 10, 200, true, 0⟩

/-- Branch 0: two FLOW nodes and a VALVE on leg 0; a DRIP node on leg 1; a local row and one of unit 3. -/
def bank : Bank :=
  { nodes := [(0, ⟨flowA, .off, 0, .flow⟩), (1, ⟨flowB, .off, 0, .flow⟩), (2, ⟨valve, .off, 0, .valve 8⟩),
      (3, ⟨drip, .every, 1, .drip dripFieldsOf⟩)]
    branches := [(0, ⟨0, 1, 2, 0, 10, 500, 1, 7⟩)]
    rows := [(0, ⟨0, 3, 2, 3, 4, [⟨0, 70⟩]⟩), (1, ⟨3, 47, 2, 3, 4, [⟨0, 60⟩]⟩)]
    settings := some { defaultSettings with kSupply := 100, kReturn := 100 } }

def branchA : BranchId := ⟨flowA, flowB, valve⟩

/-- A valve that stands open with nothing asked of it. -/
def openValve : ValveRec :=
  { position := some .opened, target := none, tag := 5, attempts := 0, phase := .none, start := none, limit := none,
    owner := .none, fault := .none, unreliable := false, lastStroke := none }

def valves (r : ValveRec) : ValveBlock := { ValveBlock.reset with valves := [(valve, r)] }

/-- An engine whose polls of the round are done. -/
def restEngine (list : List Nat) : LegEngine := { LegEngine.reset with pollList := list, cursor := list.length }

/-- Unit 2 with the bank active, in round 7, every leg finished. -/
def live : State :=
  { numbered with
    clock := 1500
    rt := { RoundTimer.reset with running := true, number := 7, start := some 1000, period := some 1000 }
    le := ⟨⟨restEngine [0, 1, 2], restEngine [3], .reset, .reset⟩, .clear⟩
    nd := { NodeDirectory.reset with
      nodes := [flowA, flowB, valve, drip].map fun k => (k, { freshNode with presence := .present }) }
    fa := { FlowBlock.reset with branches := [(branchA, freshFlow)] }
    de := { DripBlock.reset with
      branches := [(branchA, ⟨50, [], false⟩)], rows := [(⟨0, 3⟩, freshRow false), (⟨3, 47⟩, freshRow false)] }
    ie := { IncidentBlock.reset with notices := [(branchA, ⟨.none, false⟩)] }
    vs := valves openValve
    ts := { TableBlock.reset with active := bank, staging := bank, activeFlag := true, outcome := .switched 1 } }

/-- `live` with its trunk changed. -/
def trunk (f : TrunkBlock → TrunkBlock) : State := { live with ti := f live.ti }

/-- `live` with this transaction of leg 0 in its response window, one more poll to come. -/
def asking (p : Purpose) (k : NodeKey) : State :=
  setLeg 0 (fun e => { e with cursor := 2, finished := false, txn := some ⟨p, k, pollFrame live k, .window 1490 4⟩ }) live

/-- An incident with branch 0. -/
def incident (st : IncState) : Incident :=
  { newIncident 9 .flow st 6 with members := [branchA], target := some branchA, held := [branchA] }

def withIncident (i : Incident) : State := { live with ie := { live.ie with incidents := [i], nextId := 10 } }

/-- A frame that stands in the FIFOs of the tests. -/
def frame (dest src kind : Byte) : Frame := ⟨dest, src, 0xE0, kind, [1]⟩

/-- A good frame from a node to unit 2. -/
def answer (k : NodeKey) (kind : Byte) (p : List Byte) : List Byte := encodeFrame ⟨2, 2, placeByte k, kind, p⟩

theorem atRest_of {s : State} (h : restCheck s 0 = true ∧ restCheck s 1 = true ∧ restCheck s 2 = true ∧ restCheck s 3 = true) :
    LegsAtRest s :=
  legsAtRest_of_check s fun l => match l with
    | 0 => h.1
    | 1 => h.2.1
    | 2 => h.2.2.1
    | 3 => h.2.2.2

theorem numbered_atRest : LegsAtRest numbered := atRest_of (by decide)
theorem live_atRest : LegsAtRest live := atRest_of (by decide)

theorem live_taken : Taken live hdr := ⟨⟨rfl, 2, rfl, by decide⟩, rfl, rfl⟩

/-! ### Ill-formed terms -/

theorem test_strokeTimerExpiry_node_low : WellFormed (.strokeTimerExpiry ⟨0, 0⟩) = false := by decide
theorem test_strokeTimerExpiry_node_high : WellFormed (.strokeTimerExpiry ⟨3, 31⟩) = false := by decide
theorem test_legReplyEnd_short : WellFormed (.legReplyEnd 0 [2, 2, 1, 2, 1, 0, 9]) = false := by decide
theorem test_legReplyEnd_no_header : WellFormed (.legReplyEnd 0 [2, 2, 1, 2, 0]) = false := by decide
theorem test_dropReport_long : WellFormed (.dropReportReceived .upper hdr (List.replicate 241 0)) = false := by simp [WellFormed, goodPayload]
theorem test_relay_long : WellFormed (.relay hdr (List.replicate 241 0)) = false := by simp [WellFormed, goodPayload]
theorem test_forward_long : WellFormed (.trunkFrameForward .upper ⟨3, 0, 0xE0, 0x11, List.replicate 241 0⟩) = false := by simp [WellFormed, goodPayload]
theorem test_forward_number : WellFormed (.trunkFrameForward .upper ⟨3, 0, 0xE0, 0x10, [1]⟩) = false := by decide
theorem test_consumed_kinds :
    ([0x10, 0x11, 0x13, 0x23].all fun k => WellFormed (.consumedFrameDiscarded .upper ⟨2, 0, 0xE0, k, []⟩) = false) = true := by
  decide
theorem test_undefined_defined : WellFormed (.undefinedCommand hdr [0x01]) = false := by decide
theorem test_record_short : WellFormed (.loadTableRecord [1, 0x01, 0, 0, 0, 0]) = false := by decide
theorem test_load_firstWithoutTable : WellFormed (.loadTable hdr none (some 0) false) = false := by decide
theorem test_record_none : WellFormed (.loadTableRecord []) = false := by decide
theorem test_wellFormed_passes :
    ([.strokeTimerExpiry ⟨3, 30⟩, .legReplyEnd 0 [2, 2, 1, 2, 0, 0], .relay hdr (List.replicate 240 0),
      .undefinedCommand hdr [0x07], .loadTableRecord [0, 0], .consumedFrameDiscarded .lower ⟨2, 0, 0xE0, 0x33, []⟩].all
        WellFormed) = true := by decide

/-! ### Worked values of the spec -/

/-- Section 3.4, saturation. -/
theorem test_integrate_saturates : integrate 67582 10000 5 65500 12000 = (65535, 0) := by decide
/-- Section 3.4, rounds 3, 8 and 4 of branch B7. -/
theorem test_integrate_branch : integrate 20 1000 5 3 40000 = (4, 0) ∧ integrate 110 1130 5 3 40000 = (5, 44300) ∧
    integrate 0 1000 5 4 0 = (0, 0) := by decide
/-- Section 3.5, header flow, with a counter that wraps. -/
theorem test_headerFlow : headerFlow 2400 250 1000 = 36000 ∧ headerFlow 1501 333 1130 = 26539 ∧
    meterDelta { MeterState.reset with count := BitVec.ofInt 16 (-32136), snapshot := some 31000 } = 2400 := by decide
/-- Section 2.4, rounds 303 to 307 of one DRIP node. -/
theorem test_wetness : let d := dripFieldsOf
    wetOnset d false 41 = true ∧ wetAfter d true 31 = true ∧ wetAfter d true 29 = false ∧ wetOnset d false 44 = true ∧
      wetAfter d false 38 = false := by decide
/-- Section 8.4, the round budget at W = 4 and W = 8. -/
theorem test_roundBudget :
    let leg : Bank := { Bank.empty with nodes := (List.range 20).map fun i =>
      (i, ⟨⟨0, i + 1⟩, .off, 0, if i < 16 then .flow else .valve 8⟩) }
    legPlan leg 4 0 = 122720 ∧ legPlan leg 8 0 = 234720 := by decide
/-- Section 1.1: round 101, late, closes at 2130 and the next starts at once with 1130 reported. -/
theorem test_late_round_closes :
    let s : State := { live with
      clock := 2130
      rt := { live.rt with tickPassed := true, late := 1 }
      le := { live.le with legs := { live.le.legs with l0 := { restEngine [0] with finished := false, txn := some ⟨.poll, flowA, pollFrame live flowA, .window 2126 4⟩ } } } }
    ∃ t, exec (.responseWindowExpiry 0 false) s = .next t ∧ t.rt.start = some 2130 ∧ t.rt.ended = some ⟨7, 1130⟩ :=
  ⟨_, rfl, by decide, by decide⟩
/-- Section 1.2: a request sent at 1500 has its window, with W = 4 ms, expire at 1504; bytes that begin then are stray. -/
theorem test_window_expires_after_W :
    let s := setLeg 0 (fun e => { e with cursor := 2, finished := false, txn := some ⟨.poll, flowA, pollFrame live flowA, .sending⟩ }) live
    ∃ t u, exec (.legRequestSent 0) s = .next t ∧ exec (.responseWindowExpiry 0 true) t = .next u ∧ u.clock = 1504 ∧
      (legAt u 0).disregard = true ∧ (assocGet flowA u.nd.nodes).map (·.misses) = some 1 :=
  ⟨_, _, rfl, rfl, by decide, by decide, by decide⟩
/-- Section 1.5: an ALERT while the reply's bytes arrive is not recognized; in the turnaround gap before them it is. -/
theorem test_alert_in_the_turnaround_gap_only :
    (∃ t, exec (.alert ⟨0, true⟩) (asking .poll flowA) = .next t ∧ (legAt t 0).alertFlag = false) ∧
      ∃ t, exec (.alert ⟨0, false⟩) (asking .poll flowA) = .next t ∧ (legAt t 0).alertFlag = true :=
  ⟨⟨_, rfl, by decide⟩, _, rfl, by decide⟩
/-- Section 9.6: BREAK is sent downward for 2 ms, from 1500 to 1502. -/
theorem test_break_is_sent_for_2_ms :
    ∃ t u, exec .breakUpper live = .next t ∧ exec .lowerBreakSentEnd t = .next u ∧ t.ti.lowerTx = .breaking 1500 ∧
      u.ti.lowerTx = .free ∧ u.clock = 1502 := ⟨_, _, rfl, rfl, rfl, by decide, by decide⟩
/-- R158: at guard FIXED a LOAD TABLE that ends after its command code is refused GUARDED. -/
theorem test_short_load_is_guarded :
    ∃ t, exec (.loadTable hdr none none true) { live with ts := { live.ts with guard := .fixed } } = .next t ∧
      t.ti.slot = .empty ∧ t.ti.upperTx.map (·.frame.payload) = some [0x02, 0x02] := ⟨_, rfl, by decide⟩
/-- R161: broken after its table id, it is answered PARTIAL with "ended whole" clear, and is recorded. -/
theorem test_short_load_breaks :
    ∃ t u, exec (.loadTable hdr (some 1) none true) live = .next t ∧ exec (.loadTableEnd [] .broken) t = .next u ∧
      t.ti.slot = .loading ∧ u.ti.slot = .empty ∧ u.ti.errorKind = .broken ∧
      u.ti.upperTx.map (fun x => (x.frame.payload.take 3, x.frame.payload[4]?, x.frame.payload[5]?)) =
        some ([0x02, 0x05, 1], some 0, some 0) := ⟨_, _, rfl, rfl, rfl, by decide⟩
/-- The catalogue check values of both CRCs, over the digits 1 to 9; from outside the spec. -/
theorem test_crc : crc8 [0x31, 0x32, 0x33, 0x34, 0x35, 0x36, 0x37, 0x38, 0x39] = 0xF4 ∧
    crc16 [0x31, 0x32, 0x33, 0x34, 0x35, 0x36, 0x37, 0x38, 0x39] = 0x29B1 := by decide
theorem test_decodeTableWord (n w : Nat) : decodeTableWord n w = none := rfl

/-! ### Witnesses: invariants -/

/-- `live` at its bounds: 8 frames in UF, an isolated incident, header closing, an accumulator and a score at the top. -/
def full : State :=
  { live with
    pending := [.headerLimitChange true false]
    pins := { live.pins with alarm := true, holdToBelow := true }
    fa := { live.fa with branches := [(branchA, { freshFlow with loss := 65535 })], hdrRem := 59999 }
    de := { live.de with branches := [(branchA, ⟨255, [7], true⟩)] }
    ie := { live.ie with incidents := [incident .isolated], nextId := 10 }
    vs := { live.vs with
      header := ⟨.closing, true, false, false, true, some ⟨1200, 30⟩, .clear⟩
      queues := ⟨[], [], List.replicate 8 ⟨valve, .toClose, 1⟩, []⟩ }
    le := { live.le with legs := { live.le.legs with l2 := { LegEngine.reset with alertHeld := true } } }
    ti := { live.ti with uf := List.replicate 8 (frame 0 3 0x20), presenceTimer := 61000 } }

theorem full_atRest : LegsAtRest full := atRest_of (by decide)

theorem bank_good : goodBank bank := by
  simp [goodBank, goodNode, goodBranch, goodRow, goodSettings, bank, defaultSettings, flowA, flowB, valve, drip, dripFieldsOf]

theorem full_steps : ∃ t, step full = .next t := ⟨_, rfl⟩

theorem witness_EmptyQueueLetsAMillisecondPass : State.reset.pending = [] := rfl

theorem witness_QueuesNeverOverflow : FifoBound full ∧ PresenceHeld full ∧ QueuesBound full ∧ ∃ t, step full = .next t := by
  refine ⟨by unfold FifoBound; decide, by unfold PresenceHeld; decide, by unfold QueuesBound; decide, full_steps⟩

theorem witness_HeaderOutputsAgreeWithItsState : HeaderSafe full ∧ HeaderFaultFollows full ∧ ∃ t, step full = .next t :=
  ⟨by unfold HeaderSafe; decide, rfl, full_steps⟩

theorem witness_OutputsFollowTheState : OutputsFollow full ∧ ∃ t, step full = .next t :=
  ⟨by unfold OutputsFollow; decide, full_steps⟩

theorem witness_IncidentsAndEvidenceKeepTheirBounds :
    IncidentBounds full ∧ EvidenceBounds full ∧ BanksGood full ∧ ∃ t, step full = .next t :=
  ⟨by unfold IncidentBounds; decide, by unfold EvidenceBounds; decide, ⟨bank_good, bank_good⟩, full_steps⟩

theorem witness_BanksStayWellFormed : BanksWf full ∧ BanksGood full ∧ ∃ t, step full = .next t :=
  ⟨by unfold BanksWf; decide, ⟨bank_good, bank_good⟩, full_steps⟩

theorem witness_NoIdleLegHasWorkWaiting : LegsAtRest full ∧ ∃ t, step full = .next t := ⟨full_atRest, full_steps⟩

/-! ### Witnesses: rules over every command -/

def guarded (g : Guard) (s : State) : State := { s with ts := { s.ts with guard := g } }

theorem witness_GuardNeverFalls :
    (∃ t, exec .pinReset (guarded .service live) = .next t ∧ t.ts.guard = .opened) ∧
      ∃ t, exec .powerOn (guarded .fixed live) = .next t ∧ t.ts.guard = .opened := ⟨⟨_, rfl, rfl⟩, _, rfl, rfl⟩

theorem witness_GuardNeverFalls_unitReset :
    let sent := guarded .service (trunk fun t => { t with upperTx := some ⟨frame 0 2 0x12, true⟩ })
    let cut := guarded .service (trunk fun t => { t with reply := some ⟨frame 0 2 0x12, true⟩ })
    (∃ t, exec .upperFrameSent sent = .next t ∧ t.ts.guard = .opened) ∧ cut.ti.upperBreak = false ∧
      resetReplyWaits cut.ti = true ∧ ∃ t, exec .breakUpper cut = .next t ∧ t.ts.guard = .opened :=
  ⟨⟨_, rfl, rfl⟩, rfl, rfl, _, rfl, rfl⟩

/-- `live` with a commit pending. -/
def pendingCommit : State := { live with ts := { live.ts with commitPending := true } }

theorem witness_ActiveBankChangesOnlyAtARoundStart :
    pendingCommit.ts.activeFlag = true ∧ pendingCommit.rt.running = true ∧
      ∃ t, exec .roundStart pendingCommit = .next t ∧ t.rt.number = 8 ∧ t.ts.outcome = .switched 8 :=
  ⟨rfl, rfl, _, rfl, by decide, by decide⟩

theorem witness_PositionHeldWhileTablesAreActive : live.ts.activeFlag = true ∧
    (∃ t, exec (.number hdr 1) live = .next t ∧ t.ti.position = some 2) ∧
    ∃ t, exec .pinReset live = .next t ∧ t.ti.position = none := ⟨rfl, ⟨_, rfl, by decide⟩, _, rfl, rfl⟩

theorem witness_OnlyHeaderOpenDrivesTheHeaderOpen :
    ∃ t, exec (.headerOpen hdr) live = .next t ∧ live.vs.header.openReq = false ∧ t.vs.header.openReq = true :=
  ⟨_, rfl, rfl, by decide⟩

/-- HEADER OPEN as a whole frame. -/
def openFrame : Frame := ⟨2, 0, 0xE0, 0x11, [0x21]⟩

theorem witness_OnlyHeaderOpenDrivesTheHeaderOpen_otherRows :
    (∃ t, exec (.trunkFrameForward .upper openFrame) live = .next t ∧ t.vs.header.openReq = true) ∧
      (∃ t, exec (.consumedFrameDiscarded .upper { openFrame with dest := 255 }) live = .next t ∧ t.vs.header.openReq = true) ∧
      (∃ t, exec (.undefinedCommand hdr [0x21]) live = .next t ∧ t.vs.header.openReq = true) ∧
      ∃ t, exec (.trunkFrameDiscard .upper (.whole (encodeFrame openFrame))) live = .next t ∧ t.vs.header.openReq = true :=
  ⟨⟨_, rfl, by decide⟩, ⟨_, rfl, by decide⟩, ⟨_, rfl, by decide⟩, _, rfl, by decide⟩

/-! ### Witnesses: BREAK, transmitters and HOLD -/

theorem witness_BreakClearsTheTrunk : live.ti.upperBreak = false ∧ resetReplyWaits live.ti = false := ⟨rfl, rfl⟩

/-- The upper transmitter is sending. -/
def sendingUp (t : TrunkBlock) : TrunkBlock := { t with upperTx := some ⟨frame 0 2 0x12, false⟩ }

theorem no_alarm_item (f : TrunkBlock → TrunkBlock) (h : (f live.ti).lost.pending = false) : noAlarmItem (trunk f) := by
  refine ⟨rfl, by intro i hi; simp [trunk, live, IncidentBlock.reset] at hi, fun u _ => ?_, ?_⟩
  rotate_left
  · exact show pendingNotice live = none by decide
  cases u <;> first | rfl | exact h

theorem witness_UpperArbiterGrantsInOrder :
    let s := trunk fun t => { sendingUp t with uf := [frame 0 3 0x20], lastWasA := true }
    let r := trunk fun t => { sendingUp t with reply := some ⟨frame 0 2 0x12, false⟩ }
    let u := trunk fun t => { sendingUp t with ur := [frame 0 3 0x31], lastWasE := true }
    (∃ x, s.ti.upperTx = some x ∧ x.reset = false) ∧ s.pins.holdFromAbove = false ∧ s.ti.lastWasA = true ∧
      s.ti.uf = [frame 0 3 0x20] ∧ noAlarmItem s ∧
      (∃ x, r.ti.upperTx = some x ∧ x.reset = false) ∧ r.pins.holdFromAbove = false ∧ noAlarmItem r ∧ r.ti.uf = [] ∧
      r.ti.reply = some ⟨frame 0 2 0x12, false⟩ ∧ (∀ d, r.ti.slot ≠ .due d) ∧
      (∃ x, u.ti.upperTx = some x ∧ x.reset = false) ∧ u.pins.holdFromAbove = false ∧ noAlarmItem u ∧ u.ti.uf = [] ∧
      u.ti.reply = none ∧ grantDropUp u = none ∧ u.ti.ur = [frame 0 3 0x31] ∧ u.ti.summaryDue = false ∧
      pendingMirror u = none :=
  ⟨⟨_, rfl, rfl⟩, rfl, rfl, rfl, no_alarm_item _ rfl, ⟨_, rfl, rfl⟩, rfl, no_alarm_item _ rfl, rfl, rfl,
    fun _ h => Slot.noConfusion h, ⟨_, rfl, rfl⟩, rfl, no_alarm_item _ rfl, rfl, rfl, by decide, rfl, rfl, by decide⟩

/-- The upper transmitter of `s` is sending, and nothing else waits at it. -/
def sending (s : State) : State := { s with ti := sendingUp s.ti }

/-- `live` with its DRIP node's row held by unit `u` and its material pending. -/
def dripTo (u : Nat) : State :=
  { live with
    ts := { live.ts with active := { bank with
      nodes := bank.nodes.map fun p => if p.1 = 3 then (3, ⟨drip, .every, 1, .drip { dripFieldsOf with evUnit := u }⟩) else p } }
    nd := { live.nd with nodes := assocMap drip (fun n => { n with evPending := true, pendDrops := 255 }) live.nd.nodes } }

theorem witness_AlarmItemsAreSent :
    let cleared : State := sending { live with ie := { live.ie with cleared := [⟨7, some 3⟩] } }
    let opened := sending (withIncident { incident .isolated with pending := true })
    let lost := trunk fun t => { sendingUp t with lost := ⟨true, 10, true⟩ }
    let crowd : State := sending { live with ie := { live.ie with
      overflow := ⟨true, 0, true⟩, overflowReq := true, overflowBy := some branchA } }
    let noticed : State := sending { live with ie := { live.ie with notices := [(branchA, ⟨.lost, true⟩)] } }
    (∀ s ∈ [cleared, opened, lost, crowd, noticed], s.ti.upperTx = some ⟨frame 0 2 0x12, false⟩ ∧
      s.pins.holdFromAbove = false ∧ s.ti.position.isSome ∧ s.ti.lastWasA = false) ∧
    cleared.ie.cleared = [⟨7, some 3⟩] ∧
    (opened.ie.cleared = [] ∧ ∃ i, opened.ie.incidents = [] ++ i :: [] ∧ i.pending = true) ∧
    (∀ s ∈ [lost, crowd, noticed], s.ie.cleared = [] ∧ s.ie.incidents = []) ∧
    ((conditionOf lost .controllerLost).pending = true ∧
      ∀ v ∈ allConditions, conditionCode v < conditionCode .controllerLost → (conditionOf lost v).pending = false) ∧
    ((conditionOf crowd .incidentOverflow).pending = true ∧ crowd.ie.overflowReq = true ∧ crowd.ie.overflowBy = some branchA ∧
      indexOf crowd.ts.active branchA = some 0 ∧
      ∀ v ∈ allConditions, conditionCode v < conditionCode .incidentOverflow → (conditionOf crowd v).pending = false) ∧
    (∀ u ∈ allConditions, (conditionOf noticed u).pending = false) ∧
    branchList noticed.ts.active = [] ++ (0, branchA) :: [] ∧
    assocGet branchA noticed.ie.notices = some ⟨.lost, true⟩ ∧ (recOf noticed.ts.active branchA).isSome :=
  ⟨by decide, rfl, ⟨rfl, _, rfl, rfl⟩, by decide⟩

theorem witness_DropsAndRoutineItemsAreSent :
    let up := sending (dripTo 1)
    let summary : State := sending { live with
      ti := { live.ti with summaryDue := true, ur := [frame 0 3 0x31], lastWasE := true }, rt := { live.rt with ended := some ⟨6, 70000⟩ } }
    let mirror : State := sending { live with nd := { live.nd with nodes := assocMap flowB (fun n => { n with
      mirrorPending := true, last := some ⟨[244, 1, 0, 9], .usable, 7⟩ }) live.nd.nodes } }
    (∀ s ∈ [up, summary, mirror], s.ti.upperTx = some ⟨frame 0 2 0x12, false⟩ ∧ s.pins.holdFromAbove = false ∧
      s.ti.position = some 2 ∧ s.ie.cleared = [] ∧ s.ie.incidents = [] ∧ pendingNotice s = none ∧ s.ti.uf = [] ∧
      s.ti.reply = none ∧ ∀ u ∈ allConditions, (conditionOf s u).pending = false) ∧
    (∃ r, up.ts.active.nodes = bank.nodes.take 3 ++ (3, r) :: [] ∧ r.key = drip ∧
      r.body = .drip { dripFieldsOf with evUnit := 1 } ∧ resolveUnit up.ti.position 1 = 1) ∧
    (bank.nodes.take 3).all (fun q => (dripFields q.2).isNone) = true ∧ (assocGet drip up.nd.nodes).any (·.evPending) = true ∧
    grantDropUp summary = none ∧ summary.ti.lastWasE = true ∧ summary.ti.summaryDue = true ∧ summary.rt.ended = some ⟨6, 70000⟩ ∧
    grantDropUp mirror = none ∧ mirror.ti.ur = [] ∧ mirror.ti.summaryDue = false ∧
    bank.nodes = [(0, ⟨flowA, .off, 0, .flow⟩)] ++ (1, ⟨flowB, .off, 0, .flow⟩) :: bank.nodes.drop 2 ∧
    (assocGet flowA mirror.nd.nodes).any (fun n => !n.mirrorPending) = true ∧
    (assocGet flowB mirror.nd.nodes).any (fun n => n.mirrorPending && n.last.isSome) = true :=
  ⟨by decide, ⟨_, rfl, rfl, rfl, rfl⟩, by decide⟩

theorem witness_UnnumberedUnitGrantsNothing :
    let s : State := sending State.reset
    s.ti.upperTx = some ⟨frame 0 2 0x12, false⟩ ∧ s.pins.holdFromAbove = false ∧ s.ti.position = none ∧ s.ti.uf = [] ∧
      s.ti.reply = none ∧ s.ti.ur = [] := ⟨rfl, rfl, rfl, rfl, rfl, rfl⟩

theorem witness_LowerArbiterGrantsInOrder_drop :
    let s : State := { dripTo 3 with ti := { (dripTo 3).ti with lowerTx := .breaking 1499, df := [frame 4 0 0x11], lastWasDf := true } }
    s.ti.lowerTx = .breaking 1499 ∧ s.pins.holdFromBelow = false ∧ s.ti.onward = none ∧ s.ti.lastWasDf = true ∧
      s.ti.position = some 2 ∧ (∃ r, s.ts.active.nodes = bank.nodes.take 3 ++ (3, r) :: [] ∧ r.key = drip ∧
        r.body = .drip { dripFieldsOf with evUnit := 3 } ∧ ∀ q ∈ s.ts.active.nodes, q.2.key = r.key → q.2 = r) ∧
      (bank.nodes.take 3).all (fun q => (dripFields q.2).isNone) = true ∧
      (assocGet drip s.nd.nodes).any (·.evPending) = true ∧ 2 < resolveUnit s.ti.position 3 :=
  ⟨rfl, rfl, rfl, rfl, rfl, ⟨_, rfl, rfl, rfl, by decide⟩, by decide⟩

theorem witness_LowerArbiterGrantsInOrder :
    let s := trunk fun t => { t with lowerTx := .frame (frame 3 0 0x11), onward := some 3, df := [frame 4 0 0x11] }
    let u := trunk fun t => { t with lowerTx := .breaking 1498, df := [frame 4 0 0x11], lastWasDf := true }
    (∃ f, s.ti.lowerTx = .frame f) ∧ s.pins.holdFromBelow = false ∧ s.ti.onward = some 3 ∧
      u.ti.lowerTx = .breaking 1498 ∧ u.pins.holdFromBelow = false ∧ u.ti.onward = none ∧ u.ti.df = [frame 4 0 0x11] ∧
      grantDropDown u = none := ⟨⟨_, rfl⟩, rfl, rfl, rfl, rfl, rfl, rfl, by decide⟩

theorem witness_HoldStopsItsTransmitter :
    let s := trunk fun t => { t with uf := [frame 0 3 0x20], df := [frame 4 0 0x11] }
    noAlarmItem s ∧ s.ti.upperTx = none ∧ s.ti.uf = [frame 0 3 0x20] ∧ s.ti.onward = none ∧ grantDropDown s = none ∧
      s.ti.lowerTx = .free ∧ s.ti.df = [frame 4 0 0x11] :=
  ⟨no_alarm_item _ rfl, rfl, rfl, rfl, by decide, rfl, rfl⟩

/-! ### Witnesses: reception and routing -/

theorem trunk_atRest (f : TrunkBlock → TrunkBlock) (h : (f live.ti).slot = .empty) : LegsAtRest (trunk f) :=
  legsAtRest_congr live _ rfl rfl (fun k g hk => by rw [show (trunk f).ti.slot = .empty from h] at hk; cases hk) rfl live_atRest

theorem witness_FramesForOtherUnitsAreForwarded :
    let s := fun n => trunk fun t => { t with df := List.replicate n (frame 4 0 0x11), uf := List.replicate n (frame 0 3 0x20),
                                              ur := List.replicate n (frame 0 3 0x31) }
    (∀ n, (s n).ti.upperBreak = false ∧ LegsAtRest (s n) ∧ (s n).ti.position = some 2) ∧
      upwardKind (frame 3 0 0x11).kind = false ∧ (frame 3 0 0x11).kind ≠ kindNumber ∧ 2 < (frame 3 0 0x11).dest.toNat ∧
      (frame 3 0 0x11).dest ≠ 255 ∧ (s 7).ti.df.length < 8 ∧ 8 ≤ (s 8).ti.df.length ∧
      downwardKind (frame 1 3 0x20).kind = false ∧ downwardKind (frame 0 3 0x31).kind = false ∧
      (frame 1 3 0x20).dest.toNat < 2 ∧ urgentKind (frame 1 3 0x20).kind = true ∧ (frame 0 3 0x31).dest.toNat < 2 ∧
      urgentKind (frame 0 3 0x31).kind = false ∧ (s 7).ti.uf.length < 8 ∧ (s 7).ti.ur.length < 8 :=
  ⟨fun _ => ⟨rfl, trunk_atRest _ rfl, rfl⟩, by decide⟩

theorem witness_DiscardedFramesChangeNothingElse :
    live.ti.upperBreak = false ∧ LegsAtRest live ∧ checkFrame [2, 0, 0xE0, 0x11, 0, 0] = .badHeader ∧
      checkFrame (encodeFrame (frame 2 0 0x11) ++ [0]) = .badPayload ∧ live.ti.position = some 2 ∧
      (let bytes : List Byte := (encodeFrame ⟨3, 0, 0xE0, 0x11, [2]⟩).dropLast ++ [0]
       checkFrame bytes = .badPayload ∧ bytes[3]? = some 0x11 ∧ bytes[6]? = some 0x02 ∧ bytes[0]? ≠ some (byte 2) ∧
         bytes[0]? ≠ some 255) ∧
      (0x33#8) ∉ [kindNumber, kindCommand, kindRelay, kindDropReport] ∧ upwardKind 0x33 = false :=
  ⟨rfl, live_atRest, by decide, by decide, rfl, by decide, by decide, by decide⟩

theorem witness_MisroutedCommandsAreNotCarriedOut :
    live.ti.upperBreak = false ∧ LegsAtRest live ∧ live.ti.position = some 2 ∧ (⟨1, 0, 0xE0⟩ : Header).dest.toNat < 2 :=
  ⟨rfl, live_atRest, rfl, by decide⟩

theorem witness_OccupiedSlotAnswersBusy :
    let s := fun x => trunk fun t => { t with slot := x }
    (∀ x, ForUnit (s x) hdr.dest ∧ (s x).ti.reply = none) ∧ LegsAtRest (s .loading) ∧ LegsAtRest (s .unitReset) ∧
      LegsAtRest (s (.relay flowA (frame 2 2 0x01) true)) :=
  ⟨fun _ => ⟨⟨rfl, 2, rfl, by decide, by decide, .inl rfl⟩, rfl⟩, atRest_of (by decide), atRest_of (by decide), atRest_of (by decide)⟩

/-! ### Witnesses: reads, guard, COMMIT and LOAD TABLE -/

theorem witness_StatusReportsTheBlocks :
    let s := trunk fun t => { t with df := List.replicate 7 (frame 4 0 0x11) }
    Taken live hdr ∧ Taken s ⟨255, 0, 0xE0⟩ := ⟨live_taken, ⟨rfl, 2, rfl, by decide, by decide, .inr (by decide)⟩, rfl, rfl⟩

theorem taken_of (s : State) (h : s.ti = live.ti) : Taken s hdr :=
  ⟨⟨by rw [h]; rfl, 2, by rw [h]; rfl, by decide, by decide, .inl rfl⟩, by rw [h]; rfl, by rw [h]; rfl⟩

theorem witness_ReadsAnswerFromTheState :
    let s := withIncident (incident .isolated)
    Taken s hdr ∧ (∀ i ∈ s.ie.incidents, i.id ≠ (8#8).toNat) ∧ (∃ i, incidentById s (9#8).toNat = some i) ∧
      4 ≤ (4#8).toNat ∧ (3#8).toNat = (3 : Leg).val := ⟨taken_of _ rfl, by decide, ⟨_, rfl⟩, by decide⟩

theorem witness_PagedReadsGiveWholeRecords : Taken live hdr ∧
    (1 < (2#8).toNat ∧ 3 < (4#8).toNat ∧ tableOf 0 = some .node ∧ lastIndex .node < (120#8).toNat) ∧
    (1#8).toNat ≤ 1 ∧ tableOf 3 = some .settings ∧ (1#8) ≠ 0 ∧ (0#8).toNat ≤ lastIndex .settings ∧
      (119#8).toNat ≤ lastIndex .node := ⟨live_taken, by decide⟩

theorem witness_DiscardAndProtectFollowTheGuard :
    (∀ g, Taken (guarded g live) hdr) ∧ guardRefuses (guarded .fixed live) true ∧
      guardRefuses (guarded .service live) false ∧ ¬ guardRefuses (guarded .service live) true ∧
      ¬ guardRefuses (guarded .opened live) false ∧ 2 < (3#8).toNat ∧ (1#8).toNat < guardRank (guarded .fixed live).ts.guard ∧
      guardRank .fixed = (2#8).toNat ∧ guardRank (guarded .fixed live).ts.guard ≤ (2#8).toNat :=
  ⟨fun _ => taken_of _ rfl, by decide⟩

/-- `live` with another staging bank. -/
def staged (b : Bank) : State := { live with ts := { live.ts with staging := b } }

theorem witness_CommitIsJudgedInOrder :
    let testing : State := { live with xc := { live.xc with state := .suspended } }
    let noSettings := staged { bank with settings := none }
    let tight := staged { bank with settings := some { defaultSettings with period := 200, window := 20 } }
    let used : State := { staged { bank with branches := [], rows := [] } with
      ie := { live.ie with incidents := [incident .isolated] } }
    (∀ s ∈ [guarded .fixed live, testing, pendingCommit, noSettings, tight, used, live], s.ti = live.ti) ∧
      guardRefuses (guarded .fixed live) false ∧
      (∀ s ∈ [testing, pendingCommit, noSettings, tight, used, live], guardRefuses s false = false) ∧
      (∀ s ∈ [noSettings, tight, used, live], s.xc.state = .idle ∧ s.ts.commitPending = false) ∧
      (firstOffence noSettings.ti.position noSettings.ts.staging).isSome ∧
      firstOffence tight.ti.position tight.ts.staging = none ∧ overBudget tight.ts.staging = some 0 ∧
      firstOffence used.ti.position used.ts.staging = none ∧ overBudget used.ts.staging = none ∧
      inUseOffence used = some 0 ∧ commitRefusal live = none ∧ live.rt.running = true := by
  refine ⟨?_, by decide⟩
  simp [guarded, pendingCommit, staged]

/-- `numbered` with a staging bank that can be committed. -/
def ready : State := { numbered with ts := { TableBlock.reset with staging := bank } }

theorem witness_FirstCommitStartsTheRounds : Taken ready hdr ∧ ¬ guardRefuses ready false ∧ ready.xc.state = .idle ∧
    ready.ts.commitPending = false ∧ commitRefusal ready = none ∧ ready.rt.running = false :=
  ⟨⟨⟨rfl, 2, rfl, by decide, by decide, .inl rfl⟩, rfl, rfl⟩, by decide, rfl, rfl, by decide, rfl⟩

theorem witness_LoadTableIsJudgedOnItsFirstBytes :
    (Taken live hdr ∧ live.ti.load = none ∧ hdr.dest ≠ 255 ∧ ¬ guardRefuses live false) ∧
      (Taken live ⟨255, 0, 0xE0⟩ ∧ guardRefuses (guarded .fixed live) false) ∧
      tableOf 4 = none ∧ tableOf 1 = some .branch ∧ lastIndex .branch < (24#8).toNat ∧ ¬ lastIndex .branch < (23#8).toNat ∧
      (∀ i ∈ [Instr.loadTable hdr none none false, .loadTable hdr (some 1) none false, .loadTable hdr (some 1) (some 23) false],
        WellFormed i) :=
  ⟨⟨live_taken, rfl, by decide, by decide⟩, ⟨⟨⟨rfl, 2, rfl, by decide, by decide, .inr ⟨rfl, by decide⟩⟩, rfl, rfl⟩, by decide⟩,
    by decide⟩

/-- A LOAD TABLE of the Branch Table in reception, its next record for index `n`. -/
def loading (stop : Option LoadStop) (n : Byte) : Load := { freshLoad hdr (.accepted .branch) (some 1) (some n) with stop := stop }

def inLoad (l : Load) : State := trunk fun t => { t with slot := .loading, load := some l }

theorem witness_LoadRecordsAreAppliedWhole :
    (∀ l, (inLoad l).ti.load = some l) ∧ (loading none 23).mode = .accepted .branch ∧ (loading (some .badRecord) 0).stop.isSome ∧
      recordSize .branch [2, 0] = .bad ∧
      (let r : List Byte := [1, 120, 1, 2, 0, 0, 0, 0, 1, 0, 0, 0, 0]
       recordSize .branch (r ++ [crc8 r]) = .bytes 14 ∧ (r ++ [crc8 r]).getLast? = some (crc8 (r ++ [crc8 r]).dropLast) ∧
       (r ++ [crc8 r + 1]).getLast? ≠ some (crc8 (r ++ [crc8 r + 1]).dropLast) ∧
       lastIndex .branch < (loading none 24).next ∧ ¬ lastIndex .branch < (loading none 23).next ∧ parseRecord .branch r = none) ∧
      (parseRecord .branch [1, 119, 1, 2, 0, 0, 0, 0, 0, 0, 0, 0, 0]).map (·.2) = some 1 :=
  ⟨fun _ => rfl, rfl, rfl, by decide⟩

theorem witness_LoadRecordsAreAppliedWhole_notTaken : ∀ m ∈ [LoadMode.refused, .busy, .passing, .short],
    (inLoad { loading none 0 with mode := m }).ti.load = some { loading none 0 with mode := m } := by decide

/-- A LOAD TABLE whose frame ends before its first index, in the slot. -/
def shortLoad (table : Option Byte) : Load := freshLoad hdr .short table none

theorem witness_LoadTableEndIsAnswered_short : ∀ l ∈ [shortLoad none, shortLoad (some 1)],
    (inLoad l).ti.load = some l ∧ l.mode = .short ∧ (inLoad l).ti.slot = .loading ∧ (inLoad l).ti.reply = none ∧
      (inLoad l).ti.upperBreak = false ∧ (inLoad l).ti.position = some 2 ∧ l.hdr.dest = byte 2 ∧ 0 ≠ crc16 l.payload := by
  decide

theorem witness_LoadTableEndIsAnswered :
    let s := inLoad (loading none 0)
    s.ti.load = some (loading none 0) ∧ (loading none 0).mode = .accepted .branch ∧ s.ti.slot = .loading ∧ s.ti.reply = none ∧
      s.ti.upperBreak = false ∧ s.ti.position = some 2 ∧ (loading none 0).hdr.dest = byte 2 ∧
      0 ≠ crc16 (loading none 0).payload := ⟨rfl, rfl, rfl, rfl, rfl, rfl, rfl, by decide⟩

/-! ### Witnesses: NUMBER, RELAY, UNIT RESET and the header -/

theorem witness_NumberingFollowsTheCases :
    (∀ s ∈ [live, numbered], s.ti.upperBreak = false ∧ s.ti.reply = none ∧ ∀ d, s.ti.slot ≠ .due d) ∧
      live.ts.activeFlag = true ∧ live.ti.position = some 2 ∧ numbered.ts.activeFlag = false ∧ (4#8) ≠ 0 ∧ (4#8).toNat ≤ 4 ∧
      5 ≤ (5#8).toNat := by
  refine ⟨?_, by decide⟩
  simp [live, numbered, TrunkBlock.reset]

theorem witness_RelaysAndUndefinedCommandsAreJudged :
    let busy := asking .poll flowA
    (Taken live hdr ∧ LegsAtRest live) ∧ (Taken busy hdr ∧ LegsAtRest busy) ∧ relayTarget [1, 2] = none ∧
      relayTarget (answer valve 0x03 [1, 2, 3]) = some (valve, ⟨2, 2, 3, 0x03, [1, 2, 3]⟩) ∧ isValve live.ts.active valve = true ∧
      relayTarget (answer drip 0x05 []) = some (drip, ⟨2, 2, 0x21, 0x05, []⟩) ∧ legReady (legAt live 0) = true ∧
      legReady (legAt live 1) = true ∧ legReady (legAt busy 0) = false ∧ commandDefined [0x07, 0] = false :=
  ⟨⟨live_taken, live_atRest⟩, ⟨taken_of _ rfl, atRest_of (by decide)⟩, by decide⟩

/-- `live` with a relay to its DRIP node in the response window. -/
def relaying (dropped : Bool) : State :=
  setLeg 1 (fun e => { e with txn := some ⟨.relay dropped, drip, frame 2 2 0x01, .window 1490 4⟩ })
    (trunk fun t => { t with upperTx := some ⟨frame 0 2 0x12, false⟩,
                             slot := if dropped then .empty else .relay drip (frame 2 2 0x01) true })

theorem witness_RelaysAndUndefinedCommandsAreJudged_end :
    (∀ d, (legAt (relaying d) 1).txn = some ⟨.relay d, drip, frame 2 2 0x01, .window 1490 4⟩ ∧
      (legAt (relaying d) 1).disregard = false ∧ (relaying d).ti.reply = none) ∧
    (∀ k f, (relaying true).ti.slot ≠ .relay k f false) ∧ (relaying true).ti.upperTx.isSome ∧
    (∃ f, checkFrame (answer drip 0x09 [7]) = .good f ∧ f.place = placeByte drip) ∧
    ∃ f, checkFrame (answer flowA 0x02 [1]) = .good f ∧ f.place ≠ placeByte drip :=
  ⟨fun _ => ⟨rfl, rfl, rfl⟩, fun _ _ h => Slot.noConfusion h, rfl, ⟨_, rfl, rfl⟩, _, rfl,
    by decide⟩

theorem witness_UnitResetTakesEffectAfterItsReply :
    Taken live hdr ∧ (trunk fun t => { t with upperTx := some ⟨frame 0 2 0x12, true⟩ }).ti.upperTx = some ⟨frame 0 2 0x12, true⟩ :=
  ⟨live_taken, rfl⟩

/-- `live` with this header drive. -/
def header (st : HeaderState) (a b : Bool) : State :=
  { live with vs := { live.vs with
      header := ⟨st, decide (st = .closing), decide (st = .opening), a, b,
        if st = .closing ∨ st = .opening then some ⟨1000, 30⟩ else none, .clear⟩ } }

theorem witness_HeaderCommandsFollowTheDriveState :
    (∀ st a b, Taken (header st a b) hdr) ∧ (∀ st a b, (header st a b).vs.header.state = st ∧
      (header st a b).vs.header.atClosed = a ∧ (header st a b).vs.header.atOpen = b ∧ anyEscalated (header st a b) = false) ∧
    anyEscalated (withIncident (incident .escalated)) = true := ⟨fun _ _ _ => taken_of _ rfl, fun _ _ _ => ⟨rfl, rfl, rfl, rfl⟩, rfl⟩

theorem witness_HeaderEventsMoveTheDrive : ∀ st ∈ [HeaderState.closing, .opening],
    (header st false false).vs.header.timer = some ⟨1000, 30⟩ ∧ (header st false false).vs.header.state = st := by decide

/-! ### Witnesses: incidents, exercise and discovery -/

/-- `live` with this record of the valve. -/
def withValve (r : ValveRec) : State := { live with vs := valves r }

theorem witness_IsolateClosesTheBranch :
    let faulted := withValve { openValve with fault := .jammed }
    let capped : State := { withIncident { incident .isolated with members := [] } with
      ts := { live.ts with active := { bank with settings := some { defaultSettings with isoLimit := 1 } } }
      vs := valves { openValve with position := some .closed } }
    let crowded : State := { live with ie := { live.ie with
      incidents := List.replicate 8 { newIncident 3 .header .escalated 6 with reason := some .headerLeak } } }
    let reported := withIncident { incident .reportOnly with target := none, held := [] }
    let closing := withIncident (incident .isolating)
    (∀ s ∈ [live, faulted, capped, crowded, reported, closing], s.ti = live.ti ∧ s.le = live.le ∧ s.ts.active.branches = bank.branches) ∧
      (LegsAtRest live ∧ LegsAtRest faulted ∧ LegsAtRest capped ∧ LegsAtRest crowded ∧ LegsAtRest reported ∧ LegsAtRest closing) ∧
      identAt bank 1 = none ∧ identAt bank 0 = some branchA ∧ valveFaulted faulted.vs valve = true ∧
      (settings capped).isoLimit ≤ closedCount capped ∧ valveFaulted capped.vs valve = false ∧
      (incidentOf crowded branchA = none ∧ 8 ≤ crowded.ie.incidents.length ∧ closedCount crowded < (settings crowded).isoLimit) ∧
      (∃ i, incidentOf closing branchA = some i ∧ i.state ≠ .reportOnly) ∧
      (∃ i, incidentOf reported branchA = some i ∧ i.state = .reportOnly ∧ closedCount reported < (settings reported).isoLimit) ∧
      incidentOf live branchA = none ∧ valveAt live.vs valve = some openValve ∧ (assocGet branchA live.ie.notices).isSome := by
  refine ⟨by decide, ⟨live_atRest, atRest_of (by decide), atRest_of (by decide), atRest_of (by decide), atRest_of (by decide),
    atRest_of (by decide)⟩, by decide, by decide, by decide, by decide, by decide, by decide, ⟨_, rfl, by decide⟩,
    ⟨_, rfl, by decide⟩, by decide⟩

/-- `live` with the valve of branch 0 under test in this phase. -/
def underTest (phase : StrokePhase) : State :=
  { live with
    xc := { live.xc with state := .running, plan := [0], cursor := 1, test := some ⟨0, valve, 8, 7⟩ }
    vs := valves { openValve with
      target := some .partialTest, phase := phase, start := some 900, limit := some 8, owner := .exercise } }

theorem witness_IsolateClosesTheBranch_preempts :
    let s := underTest .stroking
    (Taken s hdr ∧ LegsAtRest s) ∧ identAt s.ts.active 0 = some branchA ∧ incidentOf s branchA = none ∧
      valveFaulted s.vs valve = false ∧ closedCount s < (settings s).isoLimit ∧ s.ie.incidents.length < 8 ∧
      (∃ r, valveAt s.vs valve = some r ∧ r.owner = .exercise) ∧ s.xc.test = some ⟨0, valve, 8, 7⟩ :=
  ⟨⟨taken_of _ rfl, atRest_of (by decide)⟩, by decide, by decide, by decide, by decide, by decide, ⟨_, rfl, rfl⟩, rfl⟩

theorem witness_ReleaseFollowsTheIncidentState_reopens :
    ∀ st ∈ [IncState.isolated, .probing, .releasing], ∀ o ∈ [Owner.incident 9, .none],
      let s : State := { withIncident (incident st) with vs := valves { openValve with
        position := some .closed, owner := o, fault := if st = .releasing then .jammed else .none } }
      incidentById s 9 = some (incident st) ∧ branchA ∈ (incident st).held ∧
        (∃ r, valveAt s.vs branchA.valve = some r ∧ r.owner = o) ∧ valveFaulted s.vs valve = decide (st = .releasing) := by
  intro st _ o _
  exact ⟨rfl, List.mem_cons_self, ⟨_, rfl, rfl⟩, by cases st <;> rfl⟩

theorem witness_ReleaseFollowsTheIncidentState :
    let s := fun st (held : List BranchId) => withIncident { incident st with held := held }
    let jammed : State := { s .releasing [branchA] with vs := valves { openValve with fault := .jammed } }
    (∀ st held, Taken (s st held) hdr ∧ LegsAtRest (s st held)) ∧ (Taken jammed hdr ∧ LegsAtRest jammed) ∧
      incidentById live (9#8).toNat = none ∧ (∀ st held, ∃ i, incidentById (s st held) (9#8).toNat = some i ∧ i.state = st ∧ i.held = held) ∧
      valveFaulted (s .releasing [branchA]).vs valve = false ∧ valveFaulted jammed.vs valve = true :=
  ⟨fun _ _ => ⟨taken_of _ rfl, legsAtRest_congr live _ rfl rfl (fun _ _ h => h) rfl live_atRest⟩,
    ⟨taken_of _ rfl, legsAtRest_congr live _ rfl rfl (fun _ _ h => h) rfl live_atRest⟩, rfl, fun _ _ => ⟨_, rfl, rfl, rfl⟩, rfl, rfl⟩

theorem witness_ExerciseStartBeginsThePlan :
    let closing := withIncident { incident .isolating with members := [], held := [], target := none }
    (Taken live hdr ∧ LegsAtRest live) ∧ (Taken closing hdr ∧ LegsAtRest closing) ∧ live.xc.state = .idle ∧
      live.ts.commitPending = false ∧ (24#8 ≠ 255 ∧ 23 < (24#8).toNat) ∧
      (bank.branches.map (·.1)).filter (fun i => decide ((23#8).toNat ≤ i)) = [] ∧
      (∃ i ∈ closing.ie.incidents, i.state = .isolating) ∧ bank.branches.map (·.1) = [0] ∧
      (∀ i ∈ live.ie.incidents, i.state ≠ .isolating ∧ i.state ≠ .probing) ∧ identAt live.ts.active 0 = some branchA ∧
      incidentOf live branchA = none ∧ valveAt live.vs valve = some openValve ∧ openValve.fault = .none ∧
      openValve.target = none ∧ openValve.position = some .opened ∧ openValve.owner = .none :=
  ⟨⟨live_taken, live_atRest⟩, ⟨taken_of _ rfl, atRest_of (by decide)⟩, by decide⟩

/-- `live` with an exercise that is not idle. -/
def exercising (st : ExState) (auto : Bool) (test : Option ExTest) : State :=
  { live with xc := { live.xc with state := st, autoCause := auto, manualCause := !auto, plan := [0], cursor := 1, test := test } }

theorem witness_ExerciseIsSuspendedResumedAndAborted :
    (Taken live hdr ∧ LegsAtRest live ∧ live.xc.state = .idle) ∧
      (∀ st auto test, Taken (exercising st auto test) hdr ∧ LegsAtRest (exercising st auto test)) ∧
      (∀ st auto test, let x := (exercising st auto test).xc
        x.state = st ∧ x.autoCause = auto ∧ x.test = test ∧ x.abortPending = false ∧ x.plan.length ≤ x.cursor) :=
  ⟨⟨live_taken, live_atRest, rfl⟩, fun _ _ _ => ⟨taken_of _ rfl, legsAtRest_congr live _ rfl rfl (fun _ _ h => h) rfl live_atRest⟩,
    fun _ _ _ => ⟨rfl, rfl, rfl, rfl, Nat.le_refl 1⟩⟩

theorem witness_ExerciseIsSuspendedResumedAndAborted_next :
    let s := fun (r : ValveRec) => { (exercising .suspended false none) with
      xc := { (exercising .suspended false none).xc with cursor := 0 }, vs := valves r }
    (∀ r, Taken (s r) hdr ∧ LegsAtRest (s r) ∧ (s r).xc.autoCause = false ∧ (s r).xc.state = .suspended ∧
      (s r).xc.test = none ∧ (s r).xc.abortPending = false ∧ (s r).xc.plan[(s r).xc.cursor]? = some 0 ∧
      identAt (s r).ts.active 0 = some branchA ∧ valveAt (s r).vs branchA.valve = some r ∧
      (s r).xc.plan.length = (s r).xc.cursor + 1 ∧ ∀ i ∈ (s r).ie.incidents, branchA ∉ i.members) ∧
    openValve.fault = .none ∧ openValve.target.isSome = false ∧ openValve.position = some .opened ∧ openValve.owner = .none ∧
    { openValve with fault := ValveFault.jammed }.fault ≠ .none :=
  ⟨fun _ => ⟨taken_of _ rfl, legsAtRest_congr live _ rfl rfl (fun _ _ h => h) rfl live_atRest, rfl, rfl, rfl, rfl, rfl, rfl,
    rfl, rfl, fun _ h => nomatch h⟩, by decide⟩

theorem witness_DiscoverBeginsAtAddressOne_end :
    ∀ n ∈ [1, 30],
      let x : Txn := ⟨.discovery, ⟨0, n⟩, frame 2 2 5, .window 1490 4⟩
      let s := setLeg 0 (fun e => { e with discovering := true, nextAddress := 2, txn := some x }) live
      (legAt s 0).txn = some x ∧ x.key.leg = 0 ∧ (legAt s 0).disregard = false ∧
        checkFrame (answer x.key 0x06 [1, 10, 11, 12, 13]) = .good ⟨2, 2, placeByte x.key, 0x06, [1, 10, 11, 12, 13]⟩ ∧
        validReply x (answer x.key 0x02 [1]) = none := by decide

theorem witness_DiscoverBeginsAtAddressOne :
    let busy := setLeg 0 (fun e => { e with discovering := true, nextAddress := 2, txn := some ⟨.discovery, flowA, frame 2 2 5, .window 1490 4⟩ }) live
    (Taken live hdr ∧ LegsAtRest live) ∧ (Taken busy hdr ∧ LegsAtRest busy) ∧ 4 ≤ (4#8).toNat ∧ (3#8).toNat = (3 : Leg).val ∧
      (legAt live 3).discovering = false ∧ legReady (legAt live 3) = true ∧ (legAt busy 0).discovering = true :=
  ⟨⟨live_taken, live_atRest⟩, ⟨taken_of _ rfl, atRest_of (by decide)⟩, by decide⟩

/-! ### Witnesses: rounds, legs and timers -/

theorem witness_PeriodTickJudgesLateness :
    (live.rt.running = true ∧ live.rt.tickPassed = false ∧ ∀ l, (legAt live l).finished = true) ∧
      let s := asking .poll flowA
      s.rt.running = true ∧ s.rt.tickPassed = false ∧ ∃ l, (legAt s l).finished = false :=
  ⟨⟨rfl, rfl, by decide⟩, rfl, rfl, 0, rfl⟩

theorem witness_PeriodTickJudgesLateness_lastPoll : ∀ late : Bool,
    let s : State := setLeg 0 (fun e => { e with cursor := 3 })
      { asking .poll flowA with rt := { live.rt with tickPassed := late, late := if late then 1 else 0 } }
    s.rt.running = true ∧ (legAt s 0).txn = some ⟨.poll, flowA, pollFrame live flowA, .window 1490 4⟩ ∧
      (legAt s 0).pollList.length ≤ (legAt s 0).cursor ∧ (∀ k ≠ (0 : Leg), (legAt s k).finished = true) ∧
      (legAt s 0).disregard = false ∧ s.rt.tickPassed = late := by decide

theorem witness_RoundStartAdvancesTheRound : ∀ s ∈ [live, pendingCommit], s.rt.running = true ∧
    (∀ l, (legAt s l).finished = true) ∧ s.rt.start = some 1000 ∧ s.rt.period = some 1000 := by decide

theorem witness_AnUnansweredPollIsAMiss :
    let s := asking .poll flowA
    let x : Txn := ⟨.poll, flowA, pollFrame live flowA, .window 1490 4⟩
    (legAt s 0).txn = some x ∧ pollsOn s 0 ∧ assocGet flowA s.nd.nodes = some { freshNode with presence := .present } ∧
      (nodeByKey s.ts.active flowA).isSome ∧ (legAt s 0).disregard = false ∧
      validReply x (answer flowB 0x02 [0, 0, 0, 0]) = none :=
  ⟨rfl, by unfold pollsOn; decide, rfl, rfl, rfl, by decide⟩

theorem witness_AnUnansweredPollIsAMiss_sweep :
    let s := asking .sweep flowA
    let x : Txn := ⟨.sweep, flowA, pollFrame live flowA, .window 1490 4⟩
    (legAt s 0).txn = some x ∧ asks s 0 x ∧ (legAt s 0).alertHeld = false ∧ (legAt s 0).disregard = false ∧
      validReply x [] = none ∧ (endings 0 1494 [] s).length = 5 := ⟨rfl, .inr rfl, rfl, rfl, rfl, rfl⟩

theorem witness_AnUnansweredPollIsAMiss_idleLeg :
    let ignoring := setLeg 0 (fun e => { e with cursor := 2, finished := false, disregard := true }) live
    (LegsAtRest live ∧ (legAt live 0).txn = none ∧ (legAt live 0).alertHeld = false) ∧
      (∀ k ≠ (0 : Leg), LegAtRest ignoring k) ∧ (legAt ignoring 0).disregard = true :=
  ⟨⟨live_atRest, rfl, rfl⟩, fun k hk => legAtRest_of_check _ k (by revert k; decide), rfl⟩

/-- A poll of the DRIP node under way on leg 1, a FLOW poll to come. -/
def askingDrip : State :=
  setLeg 1 (fun e => { e with pollList := [3, 0], finished := false, txn := some ⟨.poll, drip, pollFrame live drip, .window 1490 4⟩ }) live

theorem witness_ASampleIsTaken :
    let s := asking .poll flowA
    ((legAt s 0).txn = some ⟨.poll, flowA, pollFrame live flowA, .window 1490 4⟩ ∧ pollsOn s 0 ∧
      (assocGet flowA s.nd.nodes).isSome ∧ nodeByKey s.ts.active flowA = some (0, ⟨flowA, .off, 0, .flow⟩) ∧
      checkFrame (answer flowA 0x02 [255, 255, 0, 9]) = .good ⟨2, 2, placeByte flowA, 0x02, [255, 255, 0, 9]⟩) ∧
    (legAt askingDrip 1).txn = some ⟨.poll, drip, pollFrame live drip, .window 1490 4⟩ ∧ pollsOn askingDrip 1 ∧
      (assocGet drip askingDrip.nd.nodes).isSome ∧
      nodeByKey askingDrip.ts.active drip = some (3, ⟨drip, .every, 1, .drip dripFieldsOf⟩) ∧
      checkFrame (answer drip 0x02 [40, 3, 0, 9]) = .good ⟨2, 2, placeByte drip, 0x02, [40, 3, 0, 9]⟩ :=
  ⟨⟨rfl, by unfold pollsOn; decide, rfl, rfl, by decide⟩, rfl, by unfold pollsOn; decide, rfl, rfl, by decide⟩

theorem witness_ASampleIsTaken_remote :
    let s := setLeg 1 (fun e => { e with txn := some ⟨.sweep, drip, pollFrame live drip, .window 1490 4⟩ })
      { dripTo 3 with ti := { live.ti with upperTx := some ⟨frame 0 2 0x12, false⟩, lowerTx := .frame (frame 3 0 0x11) } }
    (legAt s 1).txn = some ⟨.sweep, drip, pollFrame live drip, .window 1490 4⟩ ∧ (assocGet drip s.nd.nodes).isSome ∧
      nodeByKey s.ts.active drip = some (3, ⟨drip, .every, 1, .drip { dripFieldsOf with evUnit := 3 }⟩) ∧
      checkFrame (answer drip 0x02 [39, 0, 0, 9]) = .good ⟨2, 2, placeByte drip, 0x02, [39, 0, 0, 9]⟩ ∧
      s.ti.upperTx.isSome ∧ s.ti.lowerTx ≠ .free ∧ resolveUnit s.ti.position 3 ≠ 0 := by decide

theorem witness_ASampleIsTaken_flow : ∀ f ∈ [freshFlow, { freshFlow with ret := .reading 480 }, { freshFlow with supply := .noReading }],
    let s : State := { asking .poll flowA with fa := { live.fa with branches := [(branchA, f)], prevInterval := some 1130 } }
    nodeByKey s.ts.active flowA = some (0, ⟨flowA, .off, 0, .flow⟩) ∧
      flowSide s.ts.active 0 = some (0, ⟨0, 1, 2, 0, 10, 500, 1, 7⟩, true) ∧
      branchIdent s.ts.active ⟨0, 1, 2, 0, 10, 500, 1, 7⟩ = some branchA ∧ assocGet branchA s.fa.branches = some f ∧
      checkFrame (answer flowA 0x02 [244, 1, 0, 9]) = .good ⟨2, 2, placeByte flowA, 0x02, [244, 1, 0, 9]⟩ := by decide

/-- A poll of the valve under way, its record and the other blocks given. -/
def askingValve (r : ValveRec) (s : State) : State :=
  setLeg 0 (fun e => { e with cursor := 2, finished := false, txn := some ⟨.poll, valve, pollFrame live valve, .window 1490 4⟩ })
    { s with vs := valves r }

/-- A valve with a stroke under way. -/
def strokingValve (t : ValveTarget) (o : Owner) : ValveRec :=
  { openValve with target := some t, phase := .stroking, start := some 900, limit := some 8, owner := o }

theorem witness_ASampleIsTaken_valve : ∀ t ∈ [ValveTarget.toOpen, .toClose, .partialTest],
    ∀ o ∈ [Owner.none, .incident 9, .exercise],
    let s := askingValve (strokingValve t o) live
    let po : Byte := if t = .toClose then 1 else 0
    (legAt s 0).txn = some ⟨.poll, valve, pollFrame live valve, .window 1490 4⟩ ∧ pollsOn s 0 ∧
      nodeByKey s.ts.active valve = some (2, ⟨valve, .off, 0, .valve 8⟩) ∧
      (assocGet valve s.nd.nodes).any (fun n => decide (n.presence = .present)) = true ∧
      checkFrame (answer valve 0x02 [po, 0, 5, 88, 2, 0]) = .good ⟨2, 2, placeByte valve, 0x02, [po, 0, 5, 88, 2, 0]⟩ ∧
      positionOf po = some (if t = .toClose then .closed else .opened) ∧ targetOf 0 = some none ∧
      valveAt s.vs valve = some (strokingValve t o) := by
  unfold pollsOn; decide

theorem witness_ASampleIsTaken_completion :
    (∀ o, waitsOnItsLeg (askingValve (strokingValve .toOpen o) live) valve) ∧
      completes (strokingValve .toOpen .none) .opened none 5 ∧ completes (strokingValve .toClose (.incident 9)) .closed none 5 ∧
      completes (strokingValve .partialTest .exercise) .opened none 5 ∧
      (∀ st ∈ [IncState.isolating, .releasing],
        let s := withIncident (incident st)
        incidentById s 9 = some (incident st) ∧ (incident st).held.find? (fun b => decide (b.valve = valve)) = some branchA ∧
          (incident st).target = some branchA ∧ (incident st).held.filter (fun c => decide (c ≠ branchA)) = []) ∧
      (underTest .stroking).xc.test = some ⟨0, valve, 8, 7⟩ ∧
      (underTest .stroking).xc.plan.length ≤ (underTest .stroking).xc.cursor ∧ 600 ≤ 75 * 8 ∧ ¬ 601 ≤ 75 * 8 :=
  ⟨fun _ l _ => by match l with | 0 | 1 | 2 | 3 => exact ⟨fun _ h => (nomatch h), fun h => nomatch h⟩, by unfold completes; decide, by unfold completes; decide,
    by unfold completes; decide, by decide, rfl, by decide, by decide, by decide⟩

/-- The record of a valve whose command, with tag 6, has been sent. -/
def sentValve : ValveRec := { openValve with target := some .toClose, tag := 6, phase := .sent, owner := .incident 9 }

theorem witness_AnAcceptedCommandStartsTheStroke :
    let s : State := { asking (.valveSet 6 8) valve with vs := valves sentValve }
    (legAt s 0).txn = some ⟨.valveSet 6 8, valve, pollFrame live valve, .window 1490 4⟩ ∧ valveAt s.vs valve = some sentValve ∧
      sentValve.target ≠ none ∧ notWaiting s valve ∧
      checkFrame (answer valve 0x04 [6, 0]) = .good ⟨2, 2, placeByte valve, 0x04, [6, 0]⟩ :=
  ⟨rfl, rfl, by decide, by unfold notWaiting; decide, by decide⟩

theorem witness_AnAcceptedCommandStartsTheStroke_failed : ∀ n ∈ [0, 1, 2], ∀ o ∈ [Owner.none, .incident 9, .exercise],
    let r := { sentValve with attempts := n, owner := o }
    let s : State := { asking (.valveSet 6 8) valve with vs := valves r }
    let x : Txn := ⟨.valveSet 6 8, valve, pollFrame live valve, .window 1490 4⟩
    (legAt s 0).txn = some x ∧ (legAt s 0).disregard = false ∧ valveAt s.vs valve = some r ∧ r.target = some .toClose ∧
      (assocGet valve s.nd.nodes).any (fun m => decide (m.presence = .present) && decide (m.misses ≤ 1)) = true ∧
      validReply x [] = none ∧
      (∃ f, validReply x (answer valve 0x04 [6, 1]) = some (f, answer valve 0x04 [6, 1]) ∧ f.payload = [6, 1]) ∧
      ∃ f, validReply x (answer valve 0x04 [7, 0]) = some (f, answer valve 0x04 [7, 0]) ∧ f.payload = [7, 0] :=
  fun _ _ _ _ => ⟨rfl, rfl, rfl, rfl, rfl, rfl, ⟨_, rfl, rfl⟩, _, rfl, rfl⟩

theorem witness_AnAcceptedCommandStartsTheStroke_abandons :
    (∀ r, notWaiting { asking (.valveSet 6 8) valve with vs := valves r } valve) ∧
      (let s := withIncident (incident .isolating)
       incidentById s 9 = some (incident .isolating) ∧ (incident .isolating).target = some branchA ∧
         (incident .isolating).held.find? (fun b => decide (b.valve = valve)) = some branchA) ∧
      (underTest .sent).xc.test = some ⟨0, valve, 8, 7⟩ ∧ sentValve.fault = .none :=
  ⟨fun _ l => by match l with | 0 | 1 | 2 | 3 => exact ⟨fun _ h => (nomatch h), fun h => nomatch h⟩, by decide, rfl, rfl⟩

theorem witness_AlertsAskForSweeps :
    let held := setLeg 1 (fun e => { e with alertHeld := true }) live
    let waits := setLeg 1 (fun e => { e with alertHeld := true, alertFlag := true, sweepCount := 3 }) live
    (LegsAtRest live ∧ (⟨1, false⟩ : WireHold).arriving = false ∧ (legAt live 1).alertHeld = false ∧
      (legAt live 1).disregard = false ∧ (legAt live 1).txn = none) ∧
      (⟨1, true⟩ : WireHold).arriving ≠ false ∧ (LegsAtRest held ∧ (legAt held 1).alertHeld = true) ∧
      (LegsAtRest askingDrip ∧ (legAt askingDrip 1).txn.isSome) ∧
      (∀ k ≠ (1 : Leg), LegAtRest waits k) ∧ (legAt waits 1).txn = none ∧ (legAt waits 1).disregard = false ∧
      (legAt waits 1).alertFlag = true ∧ (legAt waits 1).sweep = none ∧ quadGet waits.vs.queues 1 = [] ∧
      sweepList waits.ts.active 1 = [1] ∧ (legAt waits 1).sweepCount < 4 :=
  ⟨⟨live_atRest, rfl, rfl, rfl, rfl⟩, Bool.noConfusion, ⟨atRest_of (by decide), rfl⟩, ⟨atRest_of (by decide), rfl⟩,
    fun k hk => legAtRest_of_check _ k (by revert k; decide), by decide⟩

theorem witness_TimersExpire :
    let r := fun o => { sentValve with phase := .stroking, start := some 900, limit := some 8, owner := o }
    let lost := trunk fun t => { t with lost := ⟨true, 10, true⟩ }
    let asked := withIncident { incident .escalated with headerReq := true, held := [], target := none }
    (∀ o, valveAt (withValve (r o)).vs valve = some (r o) ∧ (r o).owner = o) ∧ LegsAtRest (withValve (r .none)) ∧
      notWaiting (withValve (r (.incident 9))) valve ∧ lost.ti.lost.active = true ∧
      (live.ti.lost.active = false ∧ live.ie.overflowReq = false ∧ live.ie.incidents = []) ∧
      ({ asked with vs := (header .opened false true).vs } : State).ti.lost.active = false ∧
      ∃ i ∈ asked.ie.incidents, i.state = .escalated ∧ i.headerReq = true :=
  ⟨fun _ => ⟨rfl, rfl⟩, atRest_of (by decide), by unfold notWaiting; decide, by decide⟩

theorem witness_TimersExpire_exercise :
    let s := underTest .stroking
    (∃ r, valveAt s.vs valve = some r ∧ r.phase = .stroking ∧ r.start = some 900 ∧ r.limit = some 8 ∧ r.owner = .exercise ∧
      r.fault = .none) ∧ s.xc.test = some ⟨0, valve, 8, 7⟩ ∧ notWaiting s valve :=
  ⟨⟨_, rfl, rfl, rfl, rfl, rfl, rfl⟩, rfl, by unfold notWaiting; decide⟩

theorem witness_TimersExpire_absence : ∀ st ∈ [HeaderState.opened, .opening, .unknown, .fault, .closed, .closing],
    ∀ p ∈ [(false, false), (true, false), (false, true), (true, true)],
    let s : State := { withIncident { incident .escalated with headerReq := true } with vs := (header st p.1 p.2).vs }
    s.ti.lost.active = false ∧ s.vs.header.state = st ∧ s.vs.header.atClosed = p.1 ∧ s.vs.header.atOpen = p.2 ∧
      ∃ i ∈ s.ie.incidents, i.state = .escalated ∧ i.headerReq = true :=
  fun _ _ _ _ => ⟨rfl, rfl, rfl, rfl, _, List.mem_cons_self, rfl, rfl⟩

/-! ### Witnesses: DROP REPORTs, arithmetic, tables and records -/

theorem witness_DropReportsReachTheirRow :
    (LegsAtRest live ∧ live.ti.position = some 2 ∧ hdr.dest = byte 2 ∧ live.ti.upperBreak = false) ∧
      (LegsAtRest numbered ∧ numbered.ts.activeFlag = false ∧ numbered.ti.position = some 2) ∧
      live.ts.activeFlag = true ∧ (rowByKey (some 2) live.ts.active ⟨3, 47⟩).isSome ∧ (⟨2, 3, 0xE0⟩ : Header).src.toNat = 3 ∧
      assocGet (⟨3, 47⟩ : RowKey) live.de.rows = some (freshRow false) ∧
      (rowCandidates live.ts.active ⟨3, 47, 2, 3, 4, [⟨0, 60⟩]⟩).map (·.1) = [branchA] ∧
      (assocGet branchA live.de.branches).isSome :=
  ⟨⟨live_atRest, rfl, rfl, rfl⟩, ⟨numbered_atRest, rfl, rfl⟩, by decide⟩

theorem witness_RearmPointIsFloored :
    (∃ d : DripFields, d.wet ≤ d.hyst ∧ d.wet = 10 ∧ wetAfter d true 0 = true) ∧
      ∃ d : DripFields, d.hyst = 0 ∧ d.wet = 10 ∧ wetAfter d true 9 = false ∧ wetAfter d true 10 = true :=
  ⟨⟨⟨10, 10, 200, true, 0⟩, by decide⟩, ⟨10, 0, 200, true, 0⟩, by decide⟩

theorem witness_ExcessIsIntegrated :
    integrate 67582 10000 0 65535 59999 = (65535, 0) ∧ integrate 67582 10000 0 0 59999 = (11264, 39999) ∧
      integrate 1 1 5 65534 59999 = (65535, 0) := by decide

theorem witness_ConfirmTestsAreThoseOfTheRule :
    (∃ r, recOf live.ts.active branchA = some r ∧ r.trip = 500) ∧ confirms live branchA 0 500 = true ∧
      confirms live branchA 0 499 = false ∧ confirms live branchA 100 0 = true ∧ confirms live branchA 99 0 = false ∧
      confirms live branchA 40 125 = true ∧ confirms live branchA 40 124 = false ∧ confirms live branchA 39 125 = false := by
  exact ⟨⟨_, rfl, rfl⟩, by decide⟩

theorem witness_BankSwitchKeepsRuntimeByIdentity : (indexOf pendingCommit.ts.staging branchA).isSome ∧
    ∃ j new, nodeByKey pendingCommit.ts.staging drip = some (j, new) := ⟨by decide, _, _, rfl⟩

theorem witness_BankSwitchKeepsRuntimeByIdentity_flood :
    let moved := { bank with nodes := bank.nodes.map (fun p => (p.1 + 1, p.2)), branches := [], rows := [] }
    let s : State := { staged moved with nd := { live.nd with
      nodes := assocMap drip (fun n => { n with floodMark := true, usableLevel := some 200 }) live.nd.nodes, flood := ⟨true, 3, false⟩ } }
    (s.nd.nodes.map (·.1)).Nodup ∧ (s.ts.staging.nodes.map (·.2.key)).Nodup ∧
      (∀ k ∈ s.nd.nodes.map (·.1) ++ s.ts.staging.nodes.map (·.2.key), (assocGet k (installBank s).nd.nodes).any (·.floodMark) =
        (assocGet k s.nd.nodes).any (·.floodMark)) ∧
      (assocGet drip s.nd.nodes).any (·.floodMark) = true ∧ (installBank s).nd.flood = ⟨true, 4, false⟩ := by decide

theorem witness_BankSwitchKeepsRuntimeByIdentity_rows :
    (rowByKey pendingCommit.ti.position pendingCommit.ts.staging ⟨0, 3⟩).isSome ∧
      (valveAt (installBank pendingCommit).vs valve).isSome ∧ pendingCommit.xc.state = .idle ∧
      ∀ i ∈ pendingCommit.ie.incidents, i.state ≠ .probing := by decide

theorem witness_OpeningIncidentGetsAFreeId :
    let s : State := { withIncident { incident .isolated with id := 255 } with
      ie := { (withIncident { incident .isolated with id := 255 }).ie with nextId := 255, cleared := [⟨1, none⟩] } }
    s.ie.incidents.length ≤ 8 ∧ s.ie.cleared.length ≤ 16 ∧ 1 ≤ s.ie.nextId ∧ s.ie.nextId ≤ 255 ∧
      ∃ t, openIncident .flow .watch id s = some (2, t) ∧ t.ie.nextId = 3 := ⟨by decide, by decide, by decide, by decide, _, rfl, rfl⟩

theorem witness_FramesAreReadBack : (List.replicate 255 (0#8)).length ≤ 255 := by decide

theorem witness_RecordsAreReadBack : (∃ r, goodNode r) ∧ (∃ r, goodBranch r) ∧ (∃ r, goodRow r) ∧ ∃ r, goodSettings r :=
  ⟨⟨_, bank_good.1 _ (List.mem_cons_self)⟩, ⟨_, bank_good.2.1 _ (List.mem_cons_self)⟩,
    ⟨_, bank_good.2.2.1 _ (List.mem_cons_self)⟩, _, bank_good.2.2.2 _ rfl⟩

theorem witness_TheEndedRoundIsJudged :
    (∀ s ∈ [live, pendingCommit], s.rt.running = true ∧ (∀ l, (legAt s l).finished = true) ∧ s.rt.start = some 1000) ∧
      LegsAtRest live ∧ live.ts.commitPending = false ∧ (∀ i ∈ live.ie.incidents, i.state ≠ .probing) ∧
      (assocGet branchA live.fa.branches).isSome ∧ (assocGet branchA live.de.branches).isSome ∧
      (assocGet (⟨0, 3⟩ : RowKey) live.de.rows).isSome ∧ (assocGet (⟨3, 47⟩ : RowKey) live.de.rows).isSome :=
  ⟨by decide, live_atRest, by decide⟩

end Sys2Proof.Tests
end

section
/-! The re-arm point of a DRIP node and the wet state it leaves (R32, R33). -/

namespace Sys2Proof.Machine

open Sys2Proof

/-- Natural subtraction is the floor of R32. -/
theorem rearmPoint_eq_max (d : DripFields) : (rearmPoint d : Int) = max 0 ((d.wet : Int) - d.hyst) := by
  unfold rearmPoint
  omega

theorem rearmPoint_eq_zero_iff (d : DripFields) : rearmPoint d = 0 ↔ d.wet ≤ d.hyst :=
  Nat.sub_eq_zero_iff_le

theorem rearmPoint_of_hyst_eq_zero {d : DripFields} (h : d.hyst = 0) : rearmPoint d = d.wet := by
  rw [rearmPoint, h, Nat.sub_zero]

/-- A WET node becomes ARMED exactly below its re-arm point (R33). -/
theorem wetAfter_of_wet_eq_false_iff (d : DripFields) (level : Nat) :
    wetAfter d true level = false ↔ level < rearmPoint d := by
  simp [wetAfter]

/-- No level is below a re-arm point of 0. -/
theorem wetAfter_of_wet_of_rearmPoint_eq_zero {d : DripFields} (h : rearmPoint d = 0) (level : Nat) :
    wetAfter d true level = true := by
  have notBelow : ¬ level < rearmPoint d := h ▸ Nat.not_lt_zero level
  rwa [← wetAfter_of_wet_eq_false_iff, Bool.not_eq_false] at notBelow

/-- Settles O53: the three consequences are the ARMED test of R33 read at the re-arm point of R32, at 0 and at the
threshold itself. -/
theorem rearmPointIsFloored : Obligations.RearmPointIsFloored := by
  intro d level
  refine ⟨rearmPoint_eq_max d, wetAfter_of_wet_eq_false_iff d level, fun floored => ?_, fun noHyst => ?_⟩
  · exact wetAfter_of_wet_of_rearmPoint_eq_zero ((rearmPoint_eq_zero_iff d).mpr floored) level
  · rw [wetAfter_of_wet_eq_false_iff, rearmPoint_of_hyst_eq_zero noHyst]

end Sys2Proof.Machine
end

section
/-! The integral of a positive excess (R53): below saturation it is exact, at 65 535 the remainder is dropped. -/

namespace Sys2Proof.Machine

open Sys2Proof

theorem heldAt_of_lt {limit n : Nat} (h : n < limit) : heldAt limit n = n :=
  Nat.min_eq_right h.le

theorem heldAt_of_le {limit n : Nat} (h : limit ≤ n) : heldAt limit n = limit :=
  Nat.min_eq_left h

/-- The largest numerator of R53, which the part computes exactly. -/
theorem numerator_le {excess elapsed rem : Nat} (hx : excess ≤ 67582) (he : elapsed ≤ 10000) (hr : rem ≤ 59999) :
    excess * elapsed + rem ≤ 675879999 :=
  calc excess * elapsed + rem
    _ ≤ 67582 * 10000 + 59999 := Nat.add_le_add (Nat.mul_le_mul hx he) hr
    _ = 675879999 := rfl

section Positive

variable {excess : Nat} (positive : 0 < excess) (elapsed forgive : Nat) {loss rem : Nat}
include positive

theorem integrate_of_sum_lt (h : loss + (excess * elapsed + rem) / 60000 < 65535) :
    integrate excess elapsed forgive loss rem =
      (loss + (excess * elapsed + rem) / 60000, (excess * elapsed + rem) % 60000) := by
  simp only [integrate, if_pos positive, heldAt_of_lt h, if_neg h.ne]

theorem integrate_of_le_sum (h : 65535 ≤ loss + (excess * elapsed + rem) / 60000) :
    integrate excess elapsed forgive loss rem = (65535, 0) := by
  simp only [integrate, if_pos positive, heldAt_of_le h, if_true]

/-- A saturated accumulator stays so, whatever the increment. -/
theorem integrate_of_saturated (h : loss = 65535) : integrate excess elapsed forgive loss rem = (65535, 0) :=
  integrate_of_le_sum positive elapsed forgive (h ▸ Nat.le_add_right loss _)

variable (loss rem) in
/-- The accumulator and the remainder stay within their fields. -/
theorem integrate_range :
    (integrate excess elapsed forgive loss rem).1 ≤ 65535 ∧ (integrate excess elapsed forgive loss rem).2 ≤ 59999 := by
  rcases Nat.lt_or_ge (loss + (excess * elapsed + rem) / 60000) 65535 with below | reached
  · rw [integrate_of_sum_lt positive elapsed forgive below]
    exact ⟨below.le, Nat.le_of_lt_succ (Nat.mod_lt _ (by decide))⟩
  · rw [integrate_of_le_sum positive elapsed forgive reached]
    decide

end Positive

/-- Settles O54: the sum of R53 is either below 65 535 or holds the accumulator there, and a saturated accumulator is
a case of the second. -/
theorem excessIsIntegrated : Obligations.ExcessIsIntegrated := by
  intro excess elapsed forgive loss rem positive hx he _ hr
  exact ⟨numerator_le hx he hr, integrate_of_sum_lt positive elapsed forgive, integrate_of_le_sum positive elapsed forgive,
    integrate_of_saturated positive elapsed forgive, integrate_range positive elapsed forgive loss rem⟩

end Sys2Proof.Machine
end

section
/-! The id of an opening incident (R90): the ids after one another run through 1 to 255, so that the search from the
counter passes at most as many ids as are in use. -/

namespace Sys2Proof.Machine

open Sys2Proof

/-- The id `k` places after `n`, counted from 1 to 255. -/
theorem iterate_idAfter {n : Nat} (h1 : 1 ≤ n) (h255 : n ≤ 255) (k : Nat) :
    idAfter^[k] n = (n - 1 + k) % 255 + 1 := by
  induction k with
  | zero => simp only [Function.iterate_zero, id_eq]; omega
  | succ k ih =>
    rw [Function.iterate_succ_apply', ih, idAfter]
    split <;> omega

theorem iterate_idAfter_range {n : Nat} (h1 : 1 ≤ n) (h255 : n ≤ 255) (k : Nat) :
    1 ≤ idAfter^[k] n ∧ idAfter^[k] n ≤ 255 := by
  rw [iterate_idAfter h1 h255]
  omega

theorem idAfter_of_le {n : Nat} (h255 : n ≤ 255) : idAfter n = if n = 255 then 1 else n + 1 := by
  simp only [idAfter, h255.ge_iff_eq]

/-- Fewer than 256 ids after one another are all different. -/
theorem iterate_idAfter_injOn {n k : Nat} (h1 : 1 ≤ n) (h255 : n ≤ 255) (hk : k ≤ 255) :
    Set.InjOn (fun j => idAfter^[j] n) (Finset.range k) := by
  intro i hi j hj same
  rw [Finset.mem_coe, Finset.mem_range] at hi hj
  simp only [iterate_idAfter h1 h255] at same
  omega

/-- Passing only ids in use, one passes no more than there are. -/
theorem le_length_of_iterate_idAfter_mem {used : List Nat} {n k : Nat} (h1 : 1 ≤ n) (h255 : n ≤ 255) (hk : k ≤ 255)
    (passed : ∀ j < k, idAfter^[j] n ∈ used) : k ≤ used.length :=
  calc k
    _ = (Finset.range k).card := (Finset.card_range k).symm
    _ ≤ used.toFinset.card := Finset.card_le_card_of_injOn _
          (fun j hj => List.mem_toFinset.mpr (passed j (Finset.mem_range.mp hj))) (iterate_idAfter_injOn h1 h255 hk)
    _ ≤ used.length := used.toFinset_card_le

theorem freeId_of_not_mem {used : List Nat} {n : Nat} (free : n ∉ used) (fuel : Nat) : freeId used fuel n = n := by
  cases fuel with
  | zero => rfl
  | succ fuel => exact if_neg free

/-- The search passes ids in use only, and ends at a free id unless it spends its whole fuel. -/
theorem freeId_eq_iterate (used : List Nat) (fuel n : Nat) :
    ∃ k ≤ fuel, freeId used fuel n = idAfter^[k] n ∧ (∀ j < k, idAfter^[j] n ∈ used) ∧
      (k < fuel → freeId used fuel n ∉ used) := by
  induction fuel generalizing n with
  | zero => exact ⟨0, le_rfl, rfl, nofun, nofun⟩
  | succ fuel ih =>
    by_cases taken : n ∈ used
    · obtain ⟨k, hk, found, passed, free⟩ := ih (idAfter n)
      rw [show freeId used (fuel + 1) n = freeId used fuel (idAfter n) from if_pos taken]
      refine ⟨k + 1, Nat.succ_le_succ hk, found, fun j hj => ?_, fun h => free (Nat.lt_of_succ_lt_succ h)⟩
      cases j with
      | zero => exact taken
      | succ j => exact passed j (Nat.lt_of_succ_lt_succ hj)
    · rw [freeId_of_not_mem taken]
      exact ⟨0, Nat.zero_le _, rfl, nofun, fun _ => taken⟩

/-- With fewer than 255 ids in use the search from an id of 1 to 255 finds a free one. -/
theorem freeId_spec {used : List Nat} {n : Nat} (h1 : 1 ≤ n) (h255 : n ≤ 255) (room : used.length < 255) :
    freeId used 255 n ∉ used ∧
      ∃ k < 255, freeId used 255 n = idAfter^[k] n ∧ ∀ j < k, idAfter^[j] n ∈ used := by
  obtain ⟨k, hk, found, passed, free⟩ := freeId_eq_iterate used 255 n
  have short : k < 255 := (le_length_of_iterate_idAfter_mem h1 h255 hk passed).trans_lt room
  exact ⟨free short, k, short, found, passed⟩

theorem not_mem_usedIds_iff (s : State) (id : Nat) :
    id ∉ usedIds s ↔ (∀ i ∈ s.ie.incidents, i.id ≠ id) ∧ ∀ c ∈ s.ie.cleared, c.id ≠ id := by
  simp only [usedIds, List.mem_append, List.mem_map, not_or, not_exists, not_and, ne_eq]

theorem usedIds_length (s : State) : (usedIds s).length = s.ie.incidents.length + s.ie.cleared.length := by
  simp only [usedIds, List.length_append, List.length_map]

/-- Within the capacities of R89 and R121 at most 24 ids are in use. -/
theorem nextFreeId_spec {s : State} (incidents : s.ie.incidents.length ≤ 8) (cleared : s.ie.cleared.length ≤ 16)
    (h1 : 1 ≤ s.ie.nextId) (h255 : s.ie.nextId ≤ 255) :
    nextFreeId s ∉ usedIds s ∧
      ∃ k < 255, nextFreeId s = idAfter^[k] s.ie.nextId ∧ ∀ j < k, idAfter^[j] s.ie.nextId ∈ usedIds s := by
  have room : (usedIds s).length < 255 := by
    rw [usedIds_length]
    omega
  exact freeId_spec h1 h255 room

/-- What an opening does: a slot is free, and the record and the counter take the id of `nextFreeId`. -/
theorem openIncident_eq_some_iff {o : Origin} {st : IncState} {f : Incident → Incident} {s t : State} {id : Nat} :
    openIncident o st f s = some (id, t) ↔
      s.ie.incidents.length < 8 ∧ id = nextFreeId s ∧ t = { s with ie := { s.ie with
        incidents := s.ie.incidents ++ [f (newIncident id o st s.rt.number)], nextId := idAfter id } } := by
  unfold openIncident
  split
  next slot =>
    rw [Option.some_inj, Prod.mk.injEq]
    constructor
    · rintro ⟨rfl, rfl⟩
      exact ⟨slot, rfl, rfl⟩
    · rintro ⟨-, rfl, rfl⟩
      exact ⟨rfl, rfl⟩
  next full => exact ⟨nofun, fun ⟨slot, _⟩ => absurd slot full⟩

/-- Settles O57: the given id is an iterate of `idAfter` from the counter, and is not among the ids in use. -/
theorem openingIncidentGetsAFreeId : Obligations.OpeningIncidentGetsAFreeId := by
  intro s t o st f id incidents cleared h1 h255 opened
  obtain ⟨-, rfl, rfl⟩ := openIncident_eq_some_iff.mp opened
  obtain ⟨free, k, short, found, passed⟩ := nextFreeId_spec incidents cleared h1 h255
  obtain ⟨low, high⟩ := found ▸ iterate_idAfter_range h1 h255 k
  obtain ⟨notOpen, notCleared⟩ := (not_mem_usedIds_iff s _).mp free
  exact ⟨low, high, notOpen, notCleared, rfl, idAfter_of_le high, fun unused => freeId_of_not_mem unused 255,
    k, short, found, passed⟩

end Sys2Proof.Machine
end

section
/-! What the Exercise Controller does of itself (chapter 7): bookkeeping of its own block, and tests of valves that every
skip test of R147 passes. -/

namespace Sys2Proof.Machine

open Sys2Proof Relation

/-- One act of the Exercise Controller. -/
inductive TestAct : State → State → Prop
  | book (s : State) (x : ExerciseBlock) : TestAct s { s with xc := x }
  | start (s : State) (i : Nat) (k : NodeKey) (limit : Nat) (h : judgePlan s i = .start k limit) :
    TestAct s (startTest i k limit s)

/-- Acts of the Exercise Controller, one after another. -/
def Tests : State → State → Prop := ReflTransGen TestAct

theorem Tests.refl {s : State} : Tests s s := ReflTransGen.refl

theorem Tests.trans {s t u : State} (h : Tests s t) (h' : Tests t u) : Tests s u := ReflTransGen.trans h h'

theorem Tests.single {s t : State} (h : TestAct s t) : Tests s t := ReflTransGen.single h

theorem Tests.book (s : State) (x : ExerciseBlock) : Tests s { s with xc := x } := .single (.book s x)

theorem takePlan_tests (fuel : Nat) (s : State) : Tests s (takePlan fuel s) := by
  induction fuel generalizing s with
  | zero => exact .refl
  | succ fuel ih =>
    simp only [takePlan]
    split
    · split
      · exact .book s _
      · split
        · exact .trans (.book s _) (ih _)
        · next judged => exact .single (.start s _ _ _ judged)
    · exact .refl

theorem takeNext_tests (s : State) : Tests s (takeNext s) := takePlan_tests _ s

theorem afterVerdict_tests (s : State) : Tests s (afterVerdict s) := by
  unfold afterVerdict
  split
  · exact .book s _
  · split
    · exact .book s _
    · split
      · exact takeNext_tests s
      · exact .refl

theorem causesChanged_tests (x : ExerciseBlock) (s : State) : Tests s (causesChanged x s) := by
  simp only [causesChanged]
  split
  · exact .trans (.book s _) (takeNext_tests _)
  · exact .book s _

theorem suspendEvent_tests (s : State) : Tests s (suspendEvent s) := by
  unfold suspendEvent
  split
  · exact .refl
  · exact causesChanged_tests _ s

theorem resumeEvent_tests (s : State) : Tests s (resumeEvent s) := by
  unfold resumeEvent
  split
  · exact .refl
  · exact causesChanged_tests _ s

theorem exercisePreempted_tests (k : NodeKey) (s : State) : Tests s (exercisePreempted k s) := by
  unfold exercisePreempted
  split
  · exact .refl
  · split
    · exact .trans (.book s _) (afterVerdict_tests _)
    · exact .refl

/-- What of a change of the incidents' states the Exercise Controller hears first (R152). -/
def suspendFor (entered : Option IncState) (s : State) : State :=
  match entered with
  | some .isolating | some .probing | some .escalated => suspendEvent s
  | _ => s

theorem tellExercise_eq (entered : Option IncState) (s : State) :
    tellExercise entered s =
      if closingIncident (suspendFor entered s) then suspendFor entered s else resumeEvent (suspendFor entered s) := by
  rcases entered with _ | st
  · rfl
  · cases st <;> rfl

theorem suspendFor_tests (entered : Option IncState) (s : State) : Tests s (suspendFor entered s) := by
  unfold suspendFor
  split
  iterate 3 exact suspendEvent_tests s
  exact .refl

theorem tellExercise_tests (entered : Option IncState) (s : State) : Tests s (tellExercise entered s) := by
  rw [tellExercise_eq]
  split
  · exact suspendFor_tests entered s
  · exact .trans (suspendFor_tests entered s) (resumeEvent_tests _)

theorem beginExercise_tests (r : ExRange) (s : State) : Tests s (beginExercise r s) := by
  simp only [beginExercise]
  split
  · exact .trans (.book s _) (.book _ _)
  · exact .trans (.book s _) (takeNext_tests _)

/-- The Exercise Controller moves its own block and the valves, and no other. -/
theorem Tests.frame {s t : State} (h : Tests s t) : t = { s with vs := t.vs, xc := t.xc } := by
  induction h with
  | refl => rfl
  | tail _ act ih =>
    cases act with
    | book => rw [ih]
    | start => rw [ih]; rfl

/-- A predicate that holds of the first state and that every act keeps holds of the last. -/
theorem Tests.keeps {P : State → Prop} {s t : State} (h : Tests s t) (act : ∀ u v, TestAct u v → P u → P v) (start : P s) :
    P t := by
  induction h with
  | refl => exact start
  | tail _ last ih => exact act _ _ last ih

end Sys2Proof.Machine
end

section
/-! What the Incident Engine and the Valve Supervisor do of themselves (chapters 5 and 6), as a chain of elementary acts
on the incidents, the valves and the exercise.  Every function of the two blocks is such a chain, so that a rule about
all of them is proved once, act by act. -/

namespace Sys2Proof.Machine

open Sys2Proof Relation

/-- The record `i` keeps the capacities of an incident, or holds no more than an open one does. -/
def Within (s : State) (i : Incident) : Prop :=
  (i.members.length ≤ 8 ∨ ∃ j ∈ s.ie.incidents, i.members.length ≤ j.members.length) ∧
    (i.rows.length ≤ 4 ∨ ∃ j ∈ s.ie.incidents, i.rows.length ≤ j.rows.length)

/-- A record at its opening holds one branch at most, or the candidates of a row in force, and one row at most. -/
def SmallOpening (s : State) (i : Incident) : Prop :=
  (i.members.length ≤ 1 ∨ ∃ p ∈ s.ts.active.rows, i.members.length ≤ p.2.cands.length) ∧ i.rows.length ≤ 1

/-- One elementary act; `clears` allows the acts that clear evidence. -/
inductive Act (clears : Bool) : State → State → Prop
  | test {s t : State} (h : TestAct s t) : Act clears s t
  | valve (s : State) (k : NodeKey) (f : ValveRec → ValveRec) : Act clears s { s with vs := setValve k f s.vs }
  | issued (s : State) (k : NodeKey) (t : ValveTarget) : Act clears s { s with vs := issue k t s.vs }
  | placed (s : State) (k : NodeKey) (t : ValveTarget) (tag : Byte) : Act clears s { s with vs := placeCommand k t tag s.vs }
  | dropped (s : State) (k : NodeKey) : Act clears s { s with vs := dropCommand k s.vs }
  | header (s : State) (clock limit : Nat) : Act clears s (setHeader (fun h => (closeHeader clock limit h).1) s)
  | record (s : State) (id : Nat) (f : Incident → Incident) (h : ∀ j ∈ s.ie.incidents, Within s (f j)) :
    Act clears s (modIncident id f s)
  | aside (s : State) (e : IncidentBlock) (hi : e.incidents = s.ie.incidents) (hc : e.cleared = s.ie.cleared) :
    Act clears s { s with ie := e }
  | copied (s : State) (reports : List (RowKey × RowReport)) :
    Act clears s { s with ie := { s.ie with
      lastEvent := reports
      incidents := s.ie.incidents.map fun (i : Incident) => { i with rows := i.rows.map (copyReport reports) } } }
  | opened {s t : State} {o : Origin} {st : IncState} {f : Incident → Incident} {id : Nat}
    (h : openIncident o st f s = some (id, t)) (small : SmallOpening s (f (newIncident id o st s.rt.number))) :
    Act clears s t
  | freed (s : State) (id : Nat) (into : Option Nat) :
    Act clears s { s with ie := { s.ie with
      cleared := pushCleared ⟨id, into⟩ s.ie.cleared
      incidents := s.ie.incidents.filter fun j => decide (j.id ≠ id) } }
  | scored (s : State) (b : BranchId) (h : clears = true) : Act clears s (zeroScore b s)
  | lost (s : State) (b : BranchId) (h : clears = true) : Act clears s (zeroLoss b s)
  | headerLost (s : State) (h : clears = true) : Act clears s (zeroHeader s)

/-- Elementary acts, one after another. -/
def Engine (clears : Bool) : State → State → Prop := ReflTransGen (Act clears)

section Chains

variable {c : Bool} {s t u : State}

theorem Engine.refl : Engine c s s := ReflTransGen.refl

theorem Engine.trans (h : Engine c s t) (h' : Engine c t u) : Engine c s u := ReflTransGen.trans h h'

theorem Engine.act (h : Act c s t) : Engine c s t := ReflTransGen.single h

/-- `Engine.trans` with the last part first: a proof about `f (g s)` follows its reading. -/
theorem Engine.after (h' : Engine c t u) (h : Engine c s t) : Engine c s u := h.trans h'

theorem Engine.then (h : Engine c s t) (h' : Act c t u) : Engine c s u := ReflTransGen.tail h h'

/-- A predicate that holds of the first state and that every act keeps holds of the last. -/
theorem Engine.keeps {P : State → Prop} (h : Engine c s t) (act : ∀ u v, Act c u v → P u → P v) (start : P s) : P t := by
  induction h with
  | refl => exact start
  | tail _ last ih => exact act _ _ last ih

theorem Tests.engine (h : Tests s t) : Engine c s t := by
  induction h with
  | refl => exact .refl
  | tail _ last ih => exact ih.then (.test last)

theorem Engine.tell {e : Option IncState} (h : Engine c s t) : Engine c s (tellExercise e t) :=
  h.trans (tellExercise_tests e t).engine

theorem Engine.foldl {α : Type} (f : State → α → State) (l : List α) (h : ∀ s, ∀ a ∈ l, Engine c s (f s a)) (s : State) :
    Engine c s (l.foldl f s) := by
  induction l generalizing s with
  | nil => exact .refl
  | cons a l ih => exact (h s a List.mem_cons_self).trans (ih (fun s b hb => h s b (List.mem_cons_of_mem a hb)) _)

theorem Engine.foldl_fst {α β : Type} (f : State × β → α → State × β) (l : List α)
    (h : ∀ p, ∀ a ∈ l, Engine c p.1 (f p a).1) (p : State × β) : Engine c p.1 (l.foldl f p).1 := by
  induction l generalizing p with
  | nil => exact .refl
  | cons a l ih => exact (h p a List.mem_cons_self).trans (ih (fun p b hb => h p b (List.mem_cons_of_mem a hb)) _)

/-- What the engines leave alone, as one equation. -/
theorem Engine.frame (h : Engine c s t) :
    t = { s with fa := t.fa, de := t.de, ie := t.ie, vs := t.vs, xc := t.xc } := by
  refine h.keeps (P := fun u => u = { s with fa := u.fa, de := u.de, ie := u.ie, vs := u.vs, xc := u.xc }) ?_ rfl
  rintro u v act ih
  cases act with
  | test h => rw [(Tests.single h).frame, ih]
  | opened h => rw [(openIncident_eq_some_iff.mp h).2.2, ih]
  | _ => rw [ih] <;> rfl

/-- Acts that clear no evidence leave Flow Accounting and Drip Evidence alone as well. -/
theorem Engine.frame_quietly (h : Engine false s t) : t = { s with ie := t.ie, vs := t.vs, xc := t.xc } := by
  refine h.keeps (P := fun u => u = { s with ie := u.ie, vs := u.vs, xc := u.xc }) ?_ rfl
  rintro u v act ih
  cases act with
  | test h => rw [(Tests.single h).frame, ih]
  | opened h => rw [(openIncident_eq_some_iff.mp h).2.2, ih]
  | scored _ h | lost _ h | headerLost h => cases h
  | _ => rw [ih] <;> rfl

end Chains

section Functions

variable {c : Bool}

/-! ### Records, notices and valves -/

theorem Within.of_mem {s : State} {i j : Incident} (h : i ∈ s.ie.incidents) (hm : j.members.length ≤ i.members.length)
    (hr : j.rows.length ≤ i.rows.length) : Within s j :=
  ⟨.inr ⟨i, h, hm⟩, .inr ⟨i, h, hr⟩⟩

theorem modIncident_engine (id : Nat) (f : Incident → Incident) (s : State)
    (hm : ∀ j, (f j).members = j.members) (hr : ∀ j, (f j).rows.length = j.rows.length) : Engine c s (modIncident id f s) :=
  .act (.record s id f fun j hj => .of_mem hj (by rw [hm]) (hr j).le)

theorem changeIncident_engine (id : Nat) (f : Incident → Incident) (s : State)
    (hm : ∀ j, (f j).members = j.members) (hr : ∀ j, (f j).rows.length = j.rows.length) :
    Engine c s (changeIncident id f s) :=
  modIncident_engine id _ s hm hr

theorem setNotice_engine (b : BranchId) (n : NoticeState) (s : State) : Engine c s (setNotice b n s) :=
  .act (.aside s _ rfl rfl)

theorem ownAndIssue_engine (id : Nat) (k : NodeKey) (t : ValveTarget) (s : State) : Engine c s (ownAndIssue id k t s) :=
  (Engine.act (.valve s k _)).then (.issued _ k t)

theorem requestValve_engine (id : Nat) (b : BranchId) (t : ValveTarget) (s : State) : Engine c s (requestValve id b t s) := by
  unfold requestValve
  split
  · exact .refl
  · split
    · exact ownAndIssue_engine ..
    · exact (exercisePreempted_tests ..).engine.trans (ownAndIssue_engine ..)
    · split
      · exact ownAndIssue_engine ..
      · exact .refl

theorem closeFor_engine (id : Nat) (b : BranchId) (s : State) : Engine c s (closeFor id b s) := by
  refine ((setNotice_engine ..).trans (requestValve_engine ..)).trans (changeIncident_engine _ _ _ ?_ ?_) <;>
    (intro j; split <;> rfl)

theorem reopenProbe_engine (id : Nat) (b : BranchId) (s : State) : Engine c s (reopenProbe id b s) :=
  (requestValve_engine ..).trans (modIncident_engine _ _ _ (fun _ => rfl) fun _ => rfl)

theorem returnValve_engine (k : NodeKey) (s : State) : Engine c s { s with vs := returnValve k s.vs } :=
  .act (.valve s k _)

theorem returnValves_engine (bs : List BranchId) (s : State) :
    Engine c s { s with vs := bs.foldl (fun v b => returnValve b.valve v) s.vs } := by
  induction bs generalizing s with
  | nil => exact .refl
  | cons b bs ih => exact (returnValve_engine b.valve s).trans (ih _)

/-! ### The header policy, INCIDENT_OVERFLOW and escalation -/

theorem policyClose_engine (s : State) : Engine c s (policyClose s) := by
  unfold policyClose
  split
  · exact .refl
  · exact .act (.header s _ _)

theorem headerPolicy_engine (id : Nat) (s : State) : Engine c s (headerPolicy id s) := by
  unfold headerPolicy
  split
  · exact policyClose_engine s
  · exact changeIncident_engine _ _ _ (fun _ => rfl) fun _ => rfl

theorem overflowPolicy_engine (b : Option BranchId) (s : State) : Engine c s (overflowPolicy b s) := by
  unfold overflowPolicy
  split
  · exact policyClose_engine s
  · exact .act (.aside s _ rfl rfl)

theorem policyAgain_engine (s : State) : Engine c s (policyAgain s) := by
  unfold policyAgain
  split
  · exact policyClose_engine s
  · exact .refl

theorem escalate_engine (id : Nat) (why : Reason) (s : State) : Engine c s (escalate id why s) :=
  .tell (.after (headerPolicy_engine ..) (changeIncident_engine _ _ _ (fun _ => rfl) fun _ => rfl))

theorem overflowOn_engine (s : State) : Engine c s (overflowOn s) := by
  unfold overflowOn
  split
  · exact .refl
  · exact .act (.aside s _ rfl rfl)

theorem judgeOverflow_engine (s : State) : Engine c s (judgeOverflow s) := by
  unfold judgeOverflow
  split
  · exact .act (.aside s _ rfl rfl)
  · exact .refl

/-! ### Freeing -/

theorem clearEvidence_engine (i : Incident) (s : State) : Engine true s (clearEvidence i s) := by
  have members : Engine true s (i.members.foldl (fun s b => zeroLoss b (zeroScore b s)) s) :=
    Engine.foldl _ _ (fun s b _ => (Engine.act (.scored s b rfl)).then (.lost _ b rfl)) s
  simp only [clearEvidence]
  split
  · exact members.then (.headerLost _ rfl)
  · exact members

theorem freeIncident_engine (id : Nat) (evidence : Bool) (into : Option Nat) (s : State) (h : evidence = true → c = true) :
    Engine c s (freeIncident id evidence into s) := by
  unfold freeIncident
  split
  · exact .refl
  next i _ =>
    have cleared : Engine c s (if evidence then clearEvidence i s else s) := by
      split
      next evident => exact h evident ▸ clearEvidence_engine i s
      · exact .refl
    exact (((cleared.then (.freed _ id into)).trans (returnValves_engine i.held _)).trans (judgeOverflow_engine _)).trans
      (tellExercise_tests ..).engine

/-! ### Deciding -/

theorem reopenOther_engine (i : Incident) (b : BranchId) (s : State) : Engine c s (reopenOther i b s) := by
  unfold reopenOther
  split
  · split
    · exact reopenProbe_engine ..
    · exact .refl
  · exact .refl

theorem decideConfirmed_engine (id : Nat) (b : BranchId) (s : State) : Engine c s (decideConfirmed id b s) := by
  unfold decideConfirmed
  split
  · exact .refl
  dsimp only
  split
  · exact .tell (.after (changeIncident_engine _ _ _ (fun _ => rfl) fun _ => rfl) (reopenOther_engine ..))
  split
  · exact .after (escalate_engine ..) (changeIncident_engine _ _ _ (fun _ => rfl) fun _ => rfl)
  split
  · exact .after (escalate_engine ..) (changeIncident_engine _ _ _ (fun _ => rfl) fun _ => rfl)
  split
  · split
    · exact .tell (changeIncident_engine _ _ _ (fun _ => rfl) fun _ => List.length_map _)
    · exact .tell (changeIncident_engine _ _ _ (fun _ => rfl) fun _ => rfl)
  · exact .tell (.after (changeIncident_engine _ _ _ (fun _ => rfl) fun _ => rfl)
      (.after (closeFor_engine ..) (reopenOther_engine ..)))

theorem openIncident_engine {o : Origin} {st : IncState} {f : Incident → Incident} {s t : State} {id : Nat}
    (h : openIncident o st f s = some (id, t)) (hm : ∀ i : Incident, i.members = [] → (f i).members.length ≤ 1)
    (hr : ∀ i : Incident, (f i).rows = i.rows) : Engine c s t :=
  .act (.opened h ⟨.inl (hm _ rfl), by rw [hr]; exact Nat.zero_le 1⟩)

theorem testBranch_engine (o : Origin) (b : BranchId) (d l : Nat) (s : State) : Engine c s (testBranch o b d l s) := by
  unfold testBranch
  split
  · split
    · split
      · exact decideConfirmed_engine ..
      · exact .refl
    · split
      · exact overflowPolicy_engine ..
      · split
        next opened =>
          exact .after (decideConfirmed_engine ..)
            (.tell (openIncident_engine opened (fun _ _ => le_rfl) fun _ => rfl))
        · exact (overflowOn_engine s).trans (overflowPolicy_engine ..)
  · exact .refl

/-! ### Placing -/

theorem addMembers_length (bs ms : List BranchId) : (addMembers bs ms).1.length ≤ max 8 ms.length := by
  suffices h : ∀ acc : List BranchId × Bool, acc.1.length ≤ max 8 ms.length →
      (bs.foldl (fun (acc : List BranchId × Bool) b =>
        if b ∈ acc.1 then acc else if acc.1.length < 8 then (acc.1 ++ [b], acc.2) else (acc.1, true)) acc).1.length ≤
          max 8 ms.length from h (ms, false) (le_max_right _ _)
  induction bs with
  | nil => exact fun acc h => h
  | cons b bs ih =>
    refine fun acc h => ih _ ?_
    dsimp only
    split
    · exact h
    · split
      next room => rw [List.length_append]; exact le_max_of_le_left room
      · exact h

theorem addRows_length (es rs : List RowEntry) : (addRows es rs).1.length ≤ max 4 rs.length := by
  suffices h : ∀ acc : List RowEntry × Bool, acc.1.length ≤ max 4 rs.length →
      (es.foldl (fun (acc : List RowEntry × Bool) e =>
        if acc.1.any (fun r => decide (r.key = e.key)) then acc
        else if acc.1.length < 4 then (acc.1 ++ [e], acc.2) else (acc.1, true)) acc).1.length ≤ max 4 rs.length from
    h (rs, false) (le_max_right _ _)
  induction es with
  | nil => exact fun acc h => h
  | cons e es ih =>
    refine fun acc h => ih _ ?_
    dsimp only
    split
    · exact h
    · split
      next room => rw [List.length_append]; exact le_max_of_le_left room
      · exact h

theorem mem_of_incidentById {s : State} {id : Nat} {i : Incident} (h : incidentById s id = some i) : i ∈ s.ie.incidents :=
  List.mem_of_find?_eq_some h

theorem joinIncident_engine (id : Nat) (bs : List BranchId) (es : List RowEntry) (s : State) :
    Engine c s (joinIncident id bs es s).1 := by
  unfold joinIncident
  split
  · exact .refl
  next i found =>
    dsimp only
    split
    · exact .refl
    · exact .act (.record s id _ fun j _ =>
        ⟨(le_max_iff.mp (addMembers_length bs i.members)).imp_right fun h => ⟨i, mem_of_incidentById found, h⟩,
          (le_max_iff.mp (addRows_length es i.rows)).imp_right fun h => ⟨i, mem_of_incidentById found, h⟩⟩)

theorem capacityIf_engine (left : Bool) (id : Nat) (s : State) : Engine c s (capacityIf left id s) := by
  unfold capacityIf
  split
  · exact escalate_engine ..
  · exact .refl

theorem mergeOne_engine (dest : Nat) (acc : State × Bool) (young : Incident) : Engine c acc.1 (mergeOne dest acc young).1 :=
  (joinIncident_engine ..).trans (freeIncident_engine _ _ _ _ nofun)

/-- The candidates of a credit are no more than a row in force names. -/
def RowBounded (s : State) (n : Nat) : Prop := ∃ p ∈ s.ts.active.rows, n ≤ p.2.cands.length

theorem placeCredit_engine (k : RowKey) (index : Nat) (cands : List BranchId) (s : State) (h : RowBounded s cands.length) :
    Engine c s (placeCredit k index cands s) := by
  simp only [placeCredit]
  split
  · exact .refl
  split
  · split
    next opened =>
      obtain ⟨p, hp, bound⟩ := h
      exact .tell (.act (.opened opened ⟨.inr ⟨p, hp, (List.length_filter_le _ _).trans bound⟩, le_rfl⟩))
    · exact overflowOn_engine s
  · exact (joinIncident_engine ..).trans (capacityIf_engine ..)
  · split
    · exact (joinIncident_engine ..).trans (capacityIf_engine ..)
    · exact ((Engine.foldl_fst _ _ (fun p a _ => mergeOne_engine _ p a) (s, false)).trans (joinIncident_engine ..)).trans
        (capacityIf_engine ..)

theorem creditEvent_engine (k : RowKey) (index : Nat) (cands : List (BranchId × Nat)) (s : State)
    (h : RowBounded s cands.length) : Engine c s (creditEvent k index cands s) :=
  (placeCredit_engine k index _ s (by rwa [List.length_map])).trans
    (Engine.foldl _ _ (fun s a _ => testBranch_engine _ _ _ _ s) _)

theorem pairEvent_engine (b : BranchId) (l : Nat) (s : State) : Engine c s (pairEvent b l s) := by
  unfold pairEvent
  refine .after (judgeOverflow_engine _) (.after (testBranch_engine ..) ?_)
  refine iteInduction (motive := Engine c s) (fun _ => ?_) fun _ => .refl
  split
  next opened => exact .tell (openIncident_engine opened (fun _ _ => le_rfl) fun _ => rfl)
  · exact overflowOn_engine s

/-! ### Probing, isolation and self-clearing -/

theorem probeStep_engine (id : Nat) (failed : Option BranchId) (s : State) : Engine c s (probeStep id failed s) := by
  unfold probeStep
  split
  · exact .refl
  · dsimp only
    split
    · exact escalate_engine ..
    · split
      · exact escalate_engine ..
      · refine .after (changeIncident_engine _ _ _ (fun _ => rfl) fun _ => rfl) (.after (closeFor_engine ..) ?_)
        split
        · exact reopenProbe_engine ..
        · exact .refl

theorem turnToProbing_engine (id : Nat) (k : RowKey) (s : State) : Engine c s (turnToProbing id k s) :=
  .after (probeStep_engine ..) (.tell (changeIncident_engine _ _ _ (fun _ => rfl) fun _ => rfl))

theorem probeSucceeds_engine (i : Incident) (s : State) : Engine true s (probeSucceeds i s) := by
  unfold probeSucceeds
  dsimp only
  exact .tell (.after (Engine.foldl _ _ (fun s b _ => .act (.scored s b rfl)) _)
    (changeIncident_engine _ _ _ (fun _ => rfl) fun _ => List.length_map _))

theorem probeWindow_engine (r : Half) (i : Incident) (s : State) : Engine true s (probeWindow r i s) := by
  have settled (n : Nat) (s : State) : Engine true s (modIncident i.id (fun j => { j with settle := n }) s) :=
    modIncident_engine _ _ _ (fun _ => rfl) fun _ => rfl
  have counted (n : Nat) (s : State) : Engine true s (modIncident i.id (fun j => { j with probeQuiet := n }) s) :=
    modIncident_engine _ _ _ (fun _ => rfl) fun _ => rfl
  simp only [probeWindow]
  split
  · split
    · exact settled ..
    · split
      · split
        · exact settled ..
        · split
          · split
            · exact ((settled ..).trans (counted ..)).trans (probeSucceeds_engine ..)
            · exact (settled ..).trans (counted ..)
          · exact (settled ..).trans (probeStep_engine ..)
          · exact settled ..
      · exact settled ..
  · exact .refl

theorem isolationWatch_engine (r : Half) (i : Incident) (s : State) (h : i ∈ s.ie.incidents) :
    Engine c s (isolationWatch r i s) := by
  simp only [isolationWatch]
  split
  · have counted : Engine c s (modIncident i.id (fun j => { j with
        settle := heldAt 255 (i.settle + 1), rows := i.rows.map (heldRunAfter s (heldAt 255 (i.settle + 1))) }) s) :=
      .act (.record s _ _ fun j hj => ⟨.inr ⟨j, hj, le_rfl⟩, .inr ⟨i, h, (List.length_map _).le⟩⟩)
    split
    · exact counted.trans (escalate_engine ..)
    · exact counted
  · exact .refl

theorem watchWork_engine (i : Incident) (s : State) : Engine c s (watchWork i s) := by
  unfold watchWork
  split
  · exact turnToProbing_engine ..
  · split
    · exact freeIncident_engine _ _ _ _ nofun
    · exact .refl

theorem roundEndWork_engine (r : Half) (s : State) (id : Nat) : Engine true s (roundEndWork r s id) := by
  unfold roundEndWork
  split
  · exact .refl
  next found =>
    split
    · exact watchWork_engine ..
    · exact probeWindow_engine ..
    · exact isolationWatch_engine _ _ _ (mem_of_incidentById found)
    · exact .refl

theorem roundEndEvent_engine (r : Half) (reports : List (RowKey × RowReport)) (s : State) :
    Engine true s (roundEndEvent r reports s) :=
  .after (judgeOverflow_engine _) (.after (Engine.foldl _ _ (fun s id _ => roundEndWork_engine r s id) _)
    (.act (.copied s reports)))

/-! ### Floods and the header integral -/

theorem openEscalated_engine (o : Origin) (why : Reason) (s : State) : Engine c s (openEscalated o why s) := by
  unfold openEscalated
  split
  next opened =>
    exact .tell (.after (headerPolicy_engine ..) (openIncident_engine opened (fun i hi => by simp [hi]) fun _ => rfl))
  · exact (overflowOn_engine s).trans (overflowPolicy_engine ..)

theorem floodEvent_engine (s : State) : Engine c s (floodEvent s) := by
  unfold floodEvent
  split
  · exact .refl
  · exact openEscalated_engine ..

theorem headerPairEvent_engine (l : Nat) (s : State) : Engine c s (headerPairEvent l s) := by
  simp only [headerPairEvent]
  split
  · split
    · exact openEscalated_engine ..
    · split
      · split
        next opened =>
          exact .tell (openIncident_engine opened (fun i hi => by simp [hi]) fun _ => rfl)
        · exact (overflowOn_engine s).trans (overflowPolicy_engine ..)
      · exact .refl
  · split
    · split
      · exact escalate_engine ..
      · split
        · exact .refl
        · exact freeIncident_engine _ _ _ _ nofun
    · exact .refl

/-! ### What the Valve Supervisor reports to an incident -/

theorem reachedClosed_engine (i : Incident) (b : BranchId) (s : State) : Engine c s (reachedClosed i b s) := by
  unfold reachedClosed
  split
  · exact .tell (changeIncident_engine _ _ _ (fun _ => rfl) fun _ => List.length_map _)
  · split
    · exact modIncident_engine _ _ _ (fun _ => rfl) fun _ => rfl
    · exact .refl

theorem reachedOpen_engine (i : Incident) (b : BranchId) (s : State) : Engine true s (reachedOpen i b s) := by
  have left : Engine true s _ := ((changeIncident_engine i.id (fun j => { j with
      held := j.held.filter fun x => decide (x ≠ b), reopening := if j.reopening = some b then none else j.reopening }) s
      (fun _ => rfl) fun _ => rfl).trans (setNotice_engine b .restored _)).trans (returnValve_engine b.valve _)
  simp only [reachedOpen]
  split
  · exact left.trans (freeIncident_engine _ _ _ _ fun _ => rfl)
  · exact left

theorem valveReached_engine (id : Nat) (k : NodeKey) (t : ValveTarget) (s : State) :
    Engine true s (valveReached id k t s) := by
  unfold valveReached
  split
  · exact .refl
  · split
    · exact .refl
    · cases t with
      | toClose => exact reachedClosed_engine ..
      | toOpen => exact reachedOpen_engine ..
      | partialTest => exact .refl

theorem valveFaultEvent_engine (id : Nat) (k : NodeKey) (f : ValveFault) (s : State) :
    Engine c s (valveFaultEvent id k f s) := by
  unfold valveFaultEvent
  split
  · exact .refl
  · split
    · exact .refl
    · dsimp only
      split
      · exact escalate_engine ..
      · exact changeIncident_engine _ _ _ (fun _ => rfl) fun _ => rfl

theorem foundClosed_engine (b : BranchId) (s : State) : Engine c s (foundClosed b s) := by
  unfold foundClosed
  split
  · exact .refl
  · split
    next opened =>
      exact .tell (.after (setNotice_engine ..)
        ((openIncident_engine opened (fun _ _ => le_rfl) fun _ => rfl).then (.valve _ b.valve _)))
    · exact overflowOn_engine s

/-! ### The bank switch -/

theorem abandonProbing_engine (i : Incident) (s : State) : Engine c s (abandonProbing i s) := by
  simp only [abandonProbing]
  refine .tell (.after (changeIncident_engine _ _ _ (fun _ => rfl) fun _ => rfl) ?_)
  split
  · exact reopenProbe_engine ..
  · exact .refl

theorem adjustIncident_engine (s : State) (id : Nat) : Engine c s (adjustIncident s id) := by
  unfold adjustIncident
  split
  · exact .refl
  next i found =>
    have kept : Engine c s (modIncident id (fun j => { j with rows := keptRows s i.rows }) s) :=
      .act (.record s _ _ fun j hj =>
        ⟨.inr ⟨j, hj, le_rfl⟩, .inr ⟨i, mem_of_incidentById found, List.length_filterMap_le _ _⟩⟩)
    have owed : Engine c s (if (keptRows s i.rows).length < i.rows.length then
        changeIncident id (fun j => j) (modIncident id (fun j => { j with rows := keptRows s i.rows }) s)
        else modIncident id (fun j => { j with rows := keptRows s i.rows }) s) := by
      split
      · exact kept.trans (changeIncident_engine _ _ _ (fun _ => rfl) fun _ => rfl)
      · exact kept
    dsimp only
    split
    iterate 2
      split
      · exact owed.trans (abandonProbing_engine ..)
      · exact owed

theorem adjustIncidents_engine (s : State) : Engine c s (adjustIncidents s) :=
  Engine.foldl _ _ (fun s id _ => adjustIncident_engine s id) s

/-! ### ISOLATE and RELEASE -/

theorem isolateBranch_engine (n : Nat) (s : State) : Engine c s (isolateBranch n s).1 := by
  unfold isolateBranch
  split
  · exact .refl
  dsimp only
  split
  · exact .refl
  split
  · exact .refl
  split
  · exact .refl
  split
  · dsimp only
    exact .tell (.after (changeIncident_engine _ _ _ (fun _ => rfl) fun _ => rfl) (closeFor_engine ..))
  · split
    next opened =>
      dsimp only
      exact .tell (.after (closeFor_engine ..) (openIncident_engine opened (fun _ _ => le_rfl) fun _ => rfl))
    · exact .refl

theorem reopenHeld_engine (p : BranchId → Bool) (i : Incident) (s : State) : Engine c s (reopenHeld p i s) :=
  Engine.foldl _ _ (fun s _ _ => requestValve_engine _ _ _ s) s

theorem enterReleasing_engine (i : Incident) (s : State) : Engine true s (enterReleasing i s) := by
  have entered : Engine true s (changeIncident i.id
      (fun j => { (if i.state = .probing then endProbe j else j) with state := .releasing }) s) := by
    refine changeIncident_engine _ _ _ (fun j => ?_) fun j => ?_ <;> (dsimp only; split <;> rfl)
  simp only [enterReleasing]
  split
  · exact entered.trans (freeIncident_engine _ _ _ _ fun _ => rfl)
  · exact (entered.trans (reopenHeld_engine ..)).trans (tellExercise_tests ..).engine

theorem releaseIncident_engine (id : Nat) (s : State) : Engine true s (releaseIncident id s).1 := by
  unfold releaseIncident
  split
  · exact .refl
  · split
    · exact .refl
    · split
      · exact reopenHeld_engine ..
      · exact .refl
    iterate 2
      split
      · exact freeIncident_engine _ _ _ _ fun _ => rfl
      · exact enterReleasing_engine ..
    · exact enterReleasing_engine ..

/-! ### Valve events -/

theorem exerciseCompleted_engine (k : NodeKey) (stroke : Nat) (s : State) : Engine c s (exerciseCompleted k stroke s) := by
  unfold exerciseCompleted
  split
  · exact .refl
  · split
    · exact (((Tests.book s _).engine.then (.valve _ k _)).trans (returnValve_engine k _)).trans (afterVerdict_tests _).engine
    · exact .refl

theorem exerciseFaulted_engine (k : NodeKey) (f : ValveFault) (s : State) : Engine c s (exerciseFaulted k f s) := by
  unfold exerciseFaulted
  split
  · split
    · exact (((Tests.book s _).engine.then (.valve _ k _)).trans (returnValve_engine k _)).trans (afterVerdict_tests _).engine
    · exact .refl
  · exact .refl

theorem reportFault_engine (k : NodeKey) (o : Owner) (f : ValveFault) (s : State) : Engine c s (reportFault k o f s) := by
  cases o with
  | none => exact .refl
  | incident id => exact valveFaultEvent_engine ..
  | exercise => exact exerciseFaulted_engine ..

theorem reportCompletion_engine (k : NodeKey) (o : Owner) (t : ValveTarget) (stroke : Nat) (s : State) :
    Engine true s (reportCompletion k o t stroke s) := by
  cases o with
  | none => exact .refl
  | incident id => exact valveReached_engine ..
  | exercise => exact exerciseCompleted_engine ..

theorem changeFault_engine (k : NodeKey) (f : ValveRec → ValveRec) (s : State) : Engine c s (changeFault k f s) := by
  unfold changeFault
  split
  · exact .refl
  · dsimp only
    split
    · exact .act (.valve s k _)
    · exact (Engine.act (.valve s k _)).trans (reportFault_engine ..)

theorem valvePresence_engine (k : NodeKey) (p : Presence) (s : State) : Engine c s (valvePresence k p s) := by
  cases p with
  | unseen => exact .refl
  | present => exact changeFault_engine ..
  | missing => exact changeFault_engine ..

theorem strokeExpired_engine (k : NodeKey) (s : State) : Engine c s (strokeExpired k s) := changeFault_engine ..

theorem completeCommand_engine (k : NodeKey) (t : ValveTarget) (m : ValveSample) (s : State) :
    Engine true s (completeCommand k t m s) := by
  unfold completeCommand
  split
  · exact .refl
  next r _ =>
    have ended : Engine true s { s with vs := dropCommand k (setValve k (fun r =>
        { r with target := none, phase := .none, start := none, limit := none, attempts := 0, fault := .none }) s.vs) } :=
      (Engine.act (.valve s k _)).then (.dropped _ k)
    refine Engine.trans ?_ (reportCompletion_engine ..)
    split
    · exact ended
    · exact ended.trans (reportFault_engine ..)

theorem judgeAdoption_engine (k : NodeKey) (m : ValveSample) (s : State) : Engine c s (judgeAdoption k m s) := by
  unfold judgeAdoption
  split
  · split
    · exact foundClosed_engine ..
    · exact .refl
  · exact .refl

theorem valveSample_engine (k : NodeKey) (m : ValveSample) (s : State) : Engine true s (valveSample k m s) := by
  unfold valveSample
  split
  · exact .refl
  · have shown := (Engine.act (c := true) (.valve s k fun r =>
      { r with position := some m.position, lastStroke := some m.stroke })).trans
      (changeFault_engine k (sampleFault m.position) _)
    refine .after (judgeAdoption_engine k m _) (shown.trans ?_)
    split
    · split
      · split
        · exact completeCommand_engine ..
        · exact .refl
      · exact .refl
    · exact .refl

theorem attemptFailed_engine (k : NodeKey) (s : State) : Engine c s (attemptFailed k s) := by
  unfold attemptFailed
  split
  · exact .refl
  · split
    · exact .refl
    · dsimp only
      split
      · exact (Engine.act (.valve s k _)).then (.placed _ k _ _)
      · exact changeFault_engine ..

theorem valveOutcome_engine (k : NodeKey) (sentTag : Byte) (limit : Nat) (ack : Option (Byte × Bool)) (s : State) :
    Engine c s (valveOutcome k sentTag limit ack s) := by
  unfold valveOutcome
  split
  · exact .refl
  · split
    · exact .refl
    · split
      · split
        · exact changeFault_engine ..
        · exact attemptFailed_engine ..
      · exact attemptFailed_engine ..

end Functions

end Sys2Proof.Machine
end

section
/-! What an event does in the blocks that do not transmit: samples, evidence, flows and what the engines make of them.
Every handling of a node's outcome is a chain of such acts, which leave the clock, the pins, the rounds, the legs, the
tables and the trunk alone. -/

namespace Sys2Proof.Machine

open Sys2Proof Relation

/-- The flow side of `EvidenceBounds`. -/
def FlowBounded (f : FlowBlock) : Prop :=
  (∀ p ∈ f.branches, p.2.loss ≤ 65535 ∧ p.2.rem ≤ 59999) ∧ f.hdrLoss ≤ 65535 ∧ f.hdrRem ≤ 59999

/-- The range of R74 for one branch. -/
def ScoreBounded (x : BranchDrip) : Prop := x.score ≤ 255

/-- The drip side of `EvidenceBounds`. -/
def ScoresBounded (d : DripBlock) : Prop := ∀ p ∈ d.branches, ScoreBounded p.2

theorem evidenceBounds_iff (s : State) : EvidenceBounds s ↔ FlowBounded s.fa ∧ ScoresBounded s.de := by
  simp only [EvidenceBounds, FlowBounded, ScoresBounded, ScoreBounded, and_assoc]

/-- One act of the blocks that handle an event. -/
inductive WorkAct : State → State → Prop
  | engine {s t : State} (h : Act true s t) : WorkAct s t
  | nodes (s : State) (x : NodeDirectory) : WorkAct s { s with nd := x }
  | flows (s : State) (x : FlowBlock) (h : FlowBounded s.fa → FlowBounded x) : WorkAct s { s with fa := x }
  | drips (s : State) (x : DripBlock) (h : ScoresBounded s.de → ScoresBounded x) : WorkAct s { s with de := x }
  | free (s : State) : WorkAct s (useFree s)

/-- Such acts, one after another. -/
def Work : State → State → Prop := ReflTransGen WorkAct

section Chains

variable {s t u : State}

theorem Work.refl : Work s s := ReflTransGen.refl

theorem Work.trans (h : Work s t) (h' : Work t u) : Work s u := ReflTransGen.trans h h'

theorem Work.after (h' : Work t u) (h : Work s t) : Work s u := h.trans h'

theorem Work.act (h : WorkAct s t) : Work s t := ReflTransGen.single h

theorem Work.keeps {P : State → Prop} (h : Work s t) (act : ∀ u v, WorkAct u v → P u → P v) (start : P s) : P t := by
  induction h with
  | refl => exact start
  | tail _ last ih => exact act _ _ last ih

theorem Act.clearing {c : Bool} (h : Act c s t) : Act true s t := by
  cases h with
  | test h => exact .test h
  | valve => exact .valve ..
  | issued => exact .issued ..
  | placed => exact .placed ..
  | dropped => exact .dropped ..
  | header => exact .header ..
  | record id f h => exact .record _ id f h
  | aside e hi hc => exact .aside _ e hi hc
  | copied => exact .copied ..
  | opened h small => exact .opened h small
  | freed => exact .freed ..
  | scored b => exact .scored _ b rfl
  | lost b => exact .lost _ b rfl
  | headerLost => exact .headerLost _ rfl

theorem Engine.work {c : Bool} (h : Engine c s t) : Work s t :=
  h.keeps (P := Work s) (fun _ _ act ih => ih.trans (.act (.engine act.clearing))) .refl

theorem Work.foldl {α : Type} (f : State → α → State) (l : List α) (h : ∀ s, ∀ a ∈ l, Work s (f s a)) (s : State) :
    Work s (l.foldl f s) := by
  induction l generalizing s with
  | nil => exact .refl
  | cons a l ih => exact (h s a List.mem_cons_self).trans (ih (fun s b hb => h s b (List.mem_cons_of_mem a hb)) _)

/-- What the handling of an event leaves alone, as one equation. -/
theorem Work.frame (h : Work s t) :
    t = { s with nd := t.nd, fa := t.fa, de := t.de, ie := t.ie, vs := t.vs, xc := t.xc, free := t.free } := by
  refine h.keeps (P := fun u => u =
    { s with nd := u.nd, fa := u.fa, de := u.de, ie := u.ie, vs := u.vs, xc := u.xc, free := u.free }) ?_ rfl
  rintro u v act ih
  cases act with
  | engine h => rw [(Engine.act h).frame, ih]
  | _ => rw [ih] <;> rfl

end Chains

/-! ### Records keep the bounds of evidence -/

theorem mem_assocMap {κ ρ : Type} [DecidableEq κ] {k : κ} {f : ρ → ρ} {l : List (κ × ρ)} {p : κ × ρ}
    (h : p ∈ assocMap k f l) : p ∈ l ∨ ∃ x, (k, x) ∈ l ∧ p = (k, f x) := by
  induction l with
  | nil => exact absurd h List.not_mem_nil
  | cons q rest ih =>
    obtain ⟨j, x⟩ := q
    simp only [assocMap] at h
    split at h
    next same =>
      subst same
      rcases List.mem_cons.mp h with rfl | h
      · exact .inr ⟨x, List.mem_cons_self, rfl⟩
      · exact .inl (List.mem_cons_of_mem _ h)
    next other =>
      rcases List.mem_cons.mp h with rfl | h
      · exact .inl List.mem_cons_self
      · exact (ih h).imp (List.mem_cons_of_mem _) fun ⟨y, hy, e⟩ => ⟨y, List.mem_cons_of_mem _ hy, e⟩

theorem forall_mem_assocMap {κ ρ : Type} [DecidableEq κ] {P : ρ → Prop} {k : κ} {f : ρ → ρ} {l : List (κ × ρ)}
    (hf : ∀ x, P x → P (f x)) (h : ∀ p ∈ l, P p.2) : ∀ p ∈ assocMap k f l, P p.2 := by
  intro p hp
  rcases mem_assocMap hp with old | ⟨x, hx, rfl⟩
  · exact h p old
  · exact hf x (h _ hx)

theorem forall_mem_assocAll {κ ρ : Type} {P : ρ → Prop} {f : ρ → ρ} {l : List (κ × ρ)}
    (hf : ∀ x, P x → P (f x)) (h : ∀ p ∈ l, P p.2) : ∀ p ∈ assocAll f l, P p.2 := by
  intro p hp
  obtain ⟨q, hq, rfl⟩ := List.mem_map.mp hp
  exact hf _ (h q hq)

theorem mem_of_assocGet {κ ρ : Type} [DecidableEq κ] {k : κ} {x : ρ} {l : List (κ × ρ)} (h : assocGet k l = some x) :
    (k, x) ∈ l := by
  induction l with
  | nil => exact nomatch h
  | cons q rest ih =>
    obtain ⟨j, y⟩ := q
    simp only [assocGet] at h
    split at h
    next same => cases h; exact same ▸ List.mem_cons_self
    next => exact List.mem_cons_of_mem _ (ih h)

/-- Whatever the excess, the integral leaves an accumulator and a remainder in their ranges. -/
theorem integrate_bounds (excess elapsed forgive : Nat) {loss : Nat} (rem : Nat) (h : loss ≤ 65535) :
    (integrate excess elapsed forgive loss rem).1 ≤ 65535 ∧ (integrate excess elapsed forgive loss rem).2 ≤ 59999 := by
  rcases Nat.eq_zero_or_pos excess with rfl | positive
  · exact ⟨(Nat.sub_le loss forgive).trans h, Nat.zero_le _⟩
  · exact integrate_range positive elapsed forgive loss rem

/-! ### Drip Evidence -/

theorem setRow_work (k : RowKey) (f : RowRun → RowRun) (s : State) : Work s (setRow k f s) := .act (.drips s _ id)

theorem creditBranch_work (round : Half) (p : BranchId × Nat) (s : State) : Work s (creditBranch round p s) :=
  .act (.drips s _ fun h => forall_mem_assocMap (P := ScoreBounded) (fun _ _ => Nat.min_le_left ..) h)

theorem creditBranches_frame (round : Half) (cs : List (BranchId × Nat)) (s : State) :
    cs.foldl (fun s p => creditBranch round p s) s =
      { s with de := (cs.foldl (fun s p => creditBranch round p s) s).de } := by
  induction cs generalizing s with
  | nil => rfl
  | cons p cs ih => rw [List.foldl_cons, ih]; rfl

theorem rowCandidates_length (b : Bank) (r : RowRec) : (rowCandidates b r).length ≤ r.cands.length :=
  List.length_filterMap_le _ _

theorem creditRow_work (k : RowKey) (s : State) : Work s (creditRow k s) := by
  unfold creditRow
  split
  next index rec run found _ =>
    dsimp only
    split
    · exact .refl
    refine .after (creditEvent_engine (c := true) _ _ _ _ ⟨(index, rec), ?_, ?_⟩).work
        (.after (setRow_work k _ _) (Work.foldl _ _ (fun s p _ => creditBranch_work _ p s) s))
    · simp only [setRow_ts]
      rw [creditBranches_frame]
      exact List.mem_of_find?_eq_some found
    · rw [List.length_map]
      exact rowCandidates_length ..
  · exact .refl

theorem localSample_work (i : Nat) (active : Option Bool) (s : State) : Work s (localSample i active s) := by
  simp only [localSample]
  split
  · exact .refl
  · split
    · split
      · exact .after (creditRow_work ..) (setRow_work ..)
      · exact setRow_work ..
    · split
      · exact .act (.drips s _ id)
      · exact .refl

theorem rowPresence_work (i : Nat) (p : Presence) (s : State) : Work s (rowPresence i p s) := setRow_work ..

theorem dropReport_work (src : Byte) (payload : List Byte) (s : State) : Work s (dropReport src payload s) := by
  unfold dropReport
  split
  · dsimp only
    split
    · have marked (f : RowRun → RowRun) (k : RowKey) (b : Bool) : Work s (setRow k f (if b then useFree s else s)) := by
        refine .after (setRow_work ..) ?_
        split
        · exact .act (.free s)
        · exact .refl
      split
      · exact .after (creditRow_work ..) (.after (setRow_work ..) (marked ..))
      · exact marked ..
    · exact .refl
  · exact .refl

theorem fadeBranch_score_le (fade : Nat) (r : Half) (d : BranchDrip) : (fadeBranch fade r d).score ≤ d.score := by
  unfold fadeBranch
  split
  · exact le_rfl
  · exact Nat.sub_le ..

theorem judgeEvidence_bounded (fade : Nat) (r : Half) {d : DripBlock} (h : ScoresBounded d) :
    ScoresBounded (judgeEvidence fade r d) :=
  forall_mem_assocAll (P := ScoreBounded) (fun x hx => (fadeBranch_score_le fade r x).trans hx) h

theorem dropRound_bounded (r : Half) {d : DripBlock} (h : ScoresBounded d) : ScoresBounded (dropRound r d) :=
  forall_mem_assocAll (P := ScoreBounded) (f := fun x => { x with credited := dropMark r x.credited }) (fun _ hx => hx) h

theorem dripRoundStart_work (r : Half) (s : State) : Work s (dripRoundStart r s) := by
  have judged : Work s { s with de := judgeEvidence (settings s).fade r s.de } :=
    .act (.drips s _ (judgeEvidence_bounded _ _))
  exact (judged.trans (roundEndEvent_engine ..).work).trans
    (.act (.drips _ _ (dropRound_bounded r)))

/-! ### Flow Accounting -/

/-- The ranges of R53 for one branch. -/
def LossBounded (x : BranchFlow) : Prop := x.loss ≤ 65535 ∧ x.rem ≤ 59999

theorem setFlow_bounded {f : FlowBlock} {b : BranchId} {x : BranchFlow} (hx : LossBounded x) (h : FlowBounded f) :
    FlowBounded { f with branches := assocMap b (fun _ => x) f.branches } :=
  ⟨forall_mem_assocMap (P := LossBounded) (fun _ _ => hx) h.1, h.2⟩

theorem flowSample_work (i : Nat) (stamp : Half) (v : SideValue) (s : State) : Work s (flowSample i stamp v s) := by
  unfold flowSample
  split
  · exact .refl
  split
  · exact .refl
  split
  · exact .refl
  split
  · exact .refl
  next onSupply _ _ _ _ _ f found =>
    have stored : FlowBounded s.fa → LossBounded (storeSide onSupply v f) := by
      intro h
      cases onSupply <;> exact h.1 _ (mem_of_assocGet found)
    split
    · exact .refl
    · dsimp only
      split
      · exact .after (pairEvent_engine (c := true) ..).work (.act (.flows s _ fun h =>
          setFlow_bounded (integrate_bounds _ _ _ _ (stored h).1) h))
      · exact .act (.flows s _ fun h => setFlow_bounded (stored h) h)

theorem flowRoundStart_work (elapsed : Nat) (s : State) : Work s (flowRoundStart elapsed s) := by
  have closed : Work s (closeFlowRound elapsed s) :=
    .act (.flows s _ fun h => ⟨forall_mem_assocAll (P := LossBounded) (fun _ hf => hf) h.1, h.2⟩)
  have judged (s : State) : Work s (judgeMeters elapsed s) := .act (.flows s _ fun h => h)
  have paired (s : State) : Work s (headerPair elapsed s) := by
    unfold headerPair
    split
    · exact .after (headerPairEvent_engine (c := true) ..).work (.act (.flows s _ fun h =>
        ⟨h.1, integrate_bounds _ _ _ _ h.2.1⟩))
    · exact .act (.flows s _ fun h => h)
  have skewed (s : State) : Work s (judgeSkew s) := by
    unfold judgeSkew
    split
    · exact .act (.flows s _ fun h => h)
    · exact .refl
  exact ((closed.trans (judged _)).trans (paired _)).trans (skewed _)

/-! ### The Node Directory -/

theorem setNode_work (k : NodeKey) (f : NodeRun → NodeRun) (s : State) : Work s (setNode k f s) := .act (.nodes s _)

theorem nodeOutcome_work (k : NodeKey) (reply : Bool) (s : State) : Work s (nodeOutcome k reply s) := by
  unfold nodeOutcome
  split
  next n i r _ _ =>
    have noted : Work s (if n.presence = .missing ∧ (presenceAfter reply n).presence = .present ∧
        k ∉ (setNode k (fun _ => presenceAfter reply n) s).nd.backNow then
        { setNode k (fun _ => presenceAfter reply n) s with
          nd := { (setNode k (fun _ => presenceAfter reply n) s).nd with
            backNow := (setNode k (fun _ => presenceAfter reply n) s).nd.backNow ++ [k] } }
        else setNode k (fun _ => presenceAfter reply n) s) := by
      split
      · exact .after (.act (.nodes _ _)) (setNode_work ..)
      · exact setNode_work ..
    dsimp only
    split
    · exact noted
    · split
      · exact .after (valvePresence_engine (c := true) ..).work noted
      · exact .after (rowPresence_work ..) noted
      · exact noted
  · exact .refl

theorem floodMarksChanged_work (newlySet : Bool) (s : State) : Work s (floodMarksChanged newlySet s) := by
  simp only [floodMarksChanged]
  split
  · exact .after (floodEvent_engine (c := true) _).work (.act (.nodes s _))
  · exact .act (.nodes s _)

theorem judgeFlood_work (k : NodeKey) (d : DripFields) (level : Nat) (s : State) : Work s (judgeFlood k d level s) := by
  unfold judgeFlood
  split
  · exact .refl
  · dsimp only
    split
    · exact .refl
    · exact .after (floodMarksChanged_work ..) (setNode_work ..)

theorem dripSample_work (k : NodeKey) (i : Nat) (d : DripFields) (v : Verdict) (payload : List Byte) (s : State) :
    Work s (dripSample k i d v payload s) := by
  simp only [dripSample]
  split
  · split
    · exact .after (localSample_work ..) (.after (judgeFlood_work ..) (setNode_work ..))
    · exact .after (setNode_work ..) (.after (judgeFlood_work ..) (setNode_work ..))
  · split
    · exact localSample_work ..
    · exact .refl

theorem sampleByKind_work (k : NodeKey) (i : Nat) (r : NodeRec) (v : Verdict) (payload : List Byte) (s : State) :
    Work s (sampleByKind k i r v payload s) := by
  unfold sampleByKind
  split
  · exact dripSample_work ..
  · exact flowSample_work ..
  · split
    · exact (valveSample_engine ..).work
    · exact .refl

theorem takeSample_work (k : NodeKey) (payload : List Byte) (s : State) : Work s (takeSample k payload s) := by
  unfold takeSample
  split
  · exact .refl
  · exact .after (setNode_work ..) (.after (sampleByKind_work ..) (.after (setNode_work ..) (nodeOutcome_work ..)))

theorem useFreeIf_work (b : Bool) (s : State) : Work s (useFreeIf b s) := by
  cases b with
  | false => exact .refl
  | true => exact .act (.free s)

theorem setOutcome_work (k : NodeKey) (tag : Byte) (limit : Nat) (reply : Option Frame) (s : State) :
    Work s (setOutcome k tag limit reply s) := by
  cases reply with
  | none => exact .after (nodeOutcome_work ..) (valveOutcome_engine (c := true) ..).work
  | some f => exact .after (nodeOutcome_work ..) (.after (valveOutcome_engine (c := true) ..).work (useFreeIf_work ..))

end Sys2Proof.Machine
end

section
/-! What a whole step does: the work of the blocks, and the moves of the clock, the rounds, the legs, the tables and the
trunk.  Every step is a chain of such moves, so that a rule over every command is proved once, move by move. -/

namespace Sys2Proof.Machine

open Sys2Proof Relation

/-- The moves that only some rows make. -/
inductive Special where
  | reset
  | power
  | bankSwitch
  | headerOpen

/-- The trunk's side of `FifoBound` and `PresenceHeld`. -/
def TrunkBounded (t : TrunkBlock) : Prop :=
  t.uf.length ≤ 8 ∧ t.ur.length ≤ 8 ∧ t.df.length ≤ 8 ∧ t.presenceTimer ≤ 61000

/-- A property of banks that both banks of `x` have, both banks of `y` have. -/
def Hands (P : Bank → Prop) (x y : TableBlock) : Prop := P x.active ∧ P x.staging → P y.active ∧ P y.staging

/-- The banks of `y` are as well formed as those of `x`, and their records as good. -/
def KeepsBanks (x y : TableBlock) : Prop := Hands (fun b => b.wf = true) x y ∧ Hands goodBank x y

theorem KeepsBanks.same {x y : TableBlock} (ha : y.active = x.active) (hs : y.staging = x.staging) : KeepsBanks x y := by
  constructor <;> (intro h; rwa [ha, hs])

/-- One move of a step; `ok` allows the special moves. -/
inductive Move (ok : Special → Prop) : State → State → Prop
  | work {s t : State} (h : WorkAct s t) : Move ok s t
  | time (s : State) (d : Nat) : Move ok s (elapse d s)
  | legs (s : State) (x : LegBlock) : Move ok s { s with le := x }
  | rounds (s : State) (x : RoundTimer) : Move ok s { s with rt := x }
  | pins (s : State) (x : Pins) : Move ok s { s with pins := x }
  | trunk (s : State) (x : TrunkBlock) (hb : TrunkBounded s.ti → TrunkBounded x) (hp : x.position = s.ti.position) :
    Move ok s { s with ti := x }
  | numbered (s : State) (p : Option Nat) (h : s.ts.activeFlag = false) : Move ok s { s with ti := { s.ti with position := p } }
  | reported (s : State) (c : Cleared) (rest : List Cleared) (h : s.ie.cleared = c :: rest) :
    Move ok s { s with ie := { s.ie with cleared := rest } }
  | taken (s : State) (l : Leg) (e : ActionEntry) (v : ValveBlock) (h : takeHead l s.vs = some (e, v)) :
    Move ok s { s with vs := v }
  | limits (s : State) (atClosed atOpen : Bool) : Move ok s (setHeader (headerLimits atClosed atOpen) s)
  | strokeEnd (s : State) : Move ok s (setHeader headerExpiry s)
  | unpended (s : State) : Move ok s (setHeader (fun h => { h with fault := unpend h.fault }) s)
  | stored (s : State) (x : TableBlock) (ha : x.active = s.ts.active) (hf : x.activeFlag = s.ts.activeFlag)
    (hg : guardRank s.ts.guard ≤ guardRank x.guard) (hb : KeepsBanks s.ts x) : Move ok s { s with ts := x }
  | headerOpen (s : State) (clock limit : Nat) (h : ok .headerOpen) :
    Move ok s (setHeader (fun h => (openHeader clock limit h).1) s)
  | switched (s : State) (h : ok .bankSwitch) : Move ok s (carryOver s)
  | reset (s : State) (h : ok .reset) : Move ok s (resetUnit s)
  | power (s : State) (h : ok .power) : Move ok s (powerUp s)

/-- Moves, one after another. -/
def Moves (ok : Special → Prop) : State → State → Prop := ReflTransGen (Move ok)

section Chains

variable {ok : Special → Prop} {s t u : State}

theorem Moves.refl : Moves ok s s := ReflTransGen.refl

theorem Moves.trans (h : Moves ok s t) (h' : Moves ok t u) : Moves ok s u := ReflTransGen.trans h h'

theorem Moves.after (h' : Moves ok t u) (h : Moves ok s t) : Moves ok s u := h.trans h'

theorem Moves.one (h : Move ok s t) : Moves ok s t := ReflTransGen.single h

theorem Moves.keeps {P : State → Prop} (h : Moves ok s t) (move : ∀ u v, Move ok u v → P u → P v) (start : P s) : P t := by
  induction h with
  | refl => exact start
  | tail _ last ih => exact move _ _ last ih

theorem Move.mono {ok' : Special → Prop} (weaker : ∀ x, ok x → ok' x) (h : Move ok s t) : Move ok' s t := by
  cases h with
  | work h => exact .work h
  | time => exact .time ..
  | legs => exact .legs ..
  | rounds => exact .rounds ..
  | pins => exact .pins ..
  | trunk x hb hp => exact .trunk _ x hb hp
  | numbered p h => exact .numbered _ p h
  | reported c rest h => exact .reported _ c rest h
  | taken l e v h => exact .taken _ l e v h
  | limits => exact .limits ..
  | strokeEnd => exact .strokeEnd ..
  | unpended => exact .unpended ..
  | stored x ha hf hg hb => exact .stored _ x ha hf hg hb
  | headerOpen _ _ h => exact .headerOpen _ _ _ (weaker _ h)
  | switched h => exact .switched _ (weaker _ h)
  | reset h => exact .reset _ (weaker _ h)
  | power h => exact .power _ (weaker _ h)

theorem Moves.mono {ok' : Special → Prop} (weaker : ∀ x, ok x → ok' x) (h : Moves ok s t) : Moves ok' s t :=
  ReflTransGen.mono (fun _ _ => Move.mono weaker) _ _ h

theorem Work.moves (h : Work s t) : Moves ok s t :=
  h.keeps (P := Moves ok s) (fun _ _ act ih => ih.trans (.one (.work act))) .refl

theorem Engine.moves {c : Bool} (h : Engine c s t) : Moves ok s t := h.work.moves

theorem Tests.moves (h : Tests s t) : Moves ok s t := (h.engine (c := false)).moves

theorem Moves.book (s : State) (x : ExerciseBlock) : Moves ok s { s with xc := x } := (Tests.book s x).moves

/-- A change of the trunk that moves no FIFO, position or timer. -/
theorem Moves.trunkSame (s : State) (x : TrunkBlock) (hu : x.uf = s.ti.uf) (hr : x.ur = s.ti.ur) (hd : x.df = s.ti.df)
    (ht : x.presenceTimer = s.ti.presenceTimer) (hp : x.position = s.ti.position) : Moves ok s { s with ti := x } :=
  .one (.trunk s x (fun h => by rwa [TrunkBounded, hu, hr, hd, ht]) hp)

theorem Moves.foldl {α : Type} (f : State → α → State) (l : List α) (h : ∀ s, ∀ a ∈ l, Moves ok s (f s a)) (s : State) :
    Moves ok s (l.foldl f s) := by
  induction l generalizing s with
  | nil => exact .refl
  | cons a l ih => exact (h s a List.mem_cons_self).trans (ih (fun s b hb => h s b (List.mem_cons_of_mem a hb)) _)

end Chains

section Functions

variable {ok : Special → Prop}

/-! ### The trunk's own acts -/

theorem fillPlace_moves (d : DueReply) (s : State) : Moves ok s (fillPlace d s) := .trunkSame s _ rfl rfl rfl rfl rfl

theorem placeDue_moves (d : DueReply) (s : State) : Moves ok s (placeDue d s) := by
  unfold placeDue
  split
  · exact fillPlace_moves ..
  · exact .trunkSame s _ rfl rfl rfl rfl rfl

theorem placeOwn_moves (d : DueReply) (s : State) : Moves ok s (placeOwn d s) := by
  unfold placeOwn
  split
  · exact .trunkSame s _ rfl rfl rfl rfl rfl
  · exact .refl

theorem recordError_moves (e : FrameError) (port : Port) (s : State) : Moves ok s (recordError e port s) :=
  .trunkSame s _ rfl rfl rfl rfl rfl

theorem forwardDown_moves (port : Port) (f : Frame) (s : State) : Moves ok s (forwardDown port f s) := by
  unfold forwardDown
  split
  next room =>
    exact .one (.trunk s _ (fun h => ⟨h.1, h.2.1, (List.length_append).trans_le room, h.2.2.2⟩) rfl)
  · exact recordError_moves ..

theorem forwardUp_moves (port : Port) (f : Frame) (s : State) : Moves ok s (forwardUp port f s) := by
  unfold forwardUp
  split
  · split
    next room =>
      exact .one (.trunk s _ (fun h => ⟨(List.length_append).trans_le room, h.2.1, h.2.2.1, h.2.2.2⟩) rfl)
    · exact recordError_moves ..
  · split
    next room =>
      exact .one (.trunk s _ (fun h => ⟨h.1, (List.length_append).trans_le room, h.2.2.1, h.2.2.2⟩) rfl)
    · exact recordError_moves ..

theorem forward_moves (port : Port) (f : Frame) (s : State) : Moves ok s (forward port f s) := by
  cases port with
  | upper => exact forwardDown_moves ..
  | lower => exact forwardUp_moves ..

theorem presenceRestart_moves (s : State) : Moves ok s (presenceRestart s) :=
  .one (.trunk s _ (fun h => ⟨h.1, h.2.1, h.2.2.1, Nat.zero_le _⟩) rfl)

theorem heard_moves (port : Port) (s : State) : Moves ok s (heard port s) := by
  cases port with
  | upper => exact presenceRestart_moves s
  | lower => exact .refl

theorem beginAbsence_moves (s : State) : Moves ok s (beginAbsence s) :=
  .after (policyAgain_engine (c := false) _).moves (.trunkSame s _ rfl rfl rfl rfl rfl)

theorem judgeAbsence_moves (s : State) : Moves ok s (judgeAbsence s) := by
  simp only [judgeAbsence]
  split
  · split
    · exact .trunkSame s _ rfl rfl rfl rfl rfl
    · exact beginAbsence_moves s
  · split
    · exact .trunkSame s _ rfl rfl rfl rfl rfl
    · exact .refl

theorem presenceTimeout_moves (s : State) : Moves ok s (presenceTimeout s) := by
  unfold presenceTimeout
  split
  · exact .refl
  · exact .after (beginAbsence_moves _) (.one (.time s _))

theorem reachTime_moves (t : Nat) (s : State) : Moves ok s (reachTime t s) := .one (.time s _)

theorem numberUnit_moves (p : Byte) (s : State) : Moves ok s (numberUnit p s) := by
  refine .after (placeOwn_moves ..) ?_
  by_cases hf : s.ts.activeFlag = false
  · exact .trans (.one (.numbered s (numberCase s p).1 hf)) (.trunkSame _ _ rfl rfl rfl rfl rfl)
  · have same : (numberCase s p).1 = s.ti.position := by
      rw [Bool.not_eq_false] at hf
      simp only [numberCase, hf]
      split <;> rfl
    exact .trunkSame s _ rfl rfl rfl rfl same

theorem takeNumber_moves (payload : List Byte) (s : State) : Moves ok s (takeNumber payload s) := by
  unfold takeNumber
  split
  · exact numberUnit_moves ..
  · exact .refl

/-! ### The bank switch and the rounds -/

theorem floodAtSwitch_moves (old : List (NodeKey × NodeRun)) (s : State) : Moves ok s (floodAtSwitch old s) := by
  unfold floodAtSwitch
  split
  · exact (floodMarksChanged_work ..).moves
  · exact .one (.work (.nodes s _))

theorem installBank_moves (h : ok .bankSwitch) (s : State) : Moves ok s (installBank s) := by
  have flooded : Moves ok s (floodAtSwitch s.nd.nodes (adjustIncidents (carryOver s))) :=
    .after (floodAtSwitch_moves ..) (.after (adjustIncidents_engine (c := false) _).moves (.one (.switched s h)))
  unfold installBank
  exact .after (judgeAbsence_moves _) (iteInduction (motive := Moves ok s)
    (fun _ => .after (policyAgain_engine (c := false) _).moves flooded) fun _ => flooded)

theorem switchBank_moves (h : ok .bankSwitch) (s : State) : Moves ok s (switchBank s) := by
  unfold switchBank
  split
  · exact .trans (installBank_moves h s) (.one (.stored _ _ rfl rfl le_rfl (.same rfl rfl)))
  · exact .one (.stored s _ rfl rfl le_rfl (.same rfl rfl))

theorem closeOnTime_moves (s : State) : Moves ok s (closeOnTime s) := .one (.rounds s _)

theorem closeIfDone_moves (s : State) : Moves ok s (closeIfDone s) := by
  unfold closeIfDone
  split
  · exact closeOnTime_moves s
  · exact .refl

theorem summaryStart_moves (s : State) : Moves ok s (summaryStart s) := by
  unfold summaryStart
  split
  · exact .trunkSame s _ rfl rfl rfl rfl rfl
  · exact .refl

theorem buildPollLists_moves (s : State) : Moves ok s (buildPollLists s) := .one (.legs s _)

theorem takePeriod_moves (s : State) : Moves ok s (takePeriod s) := .one (.rounds s _)

theorem shiftBack_moves (s : State) : Moves ok s (shiftBack s) := .one (.work (.nodes s _))

theorem startRound_moves (h : ok .bankSwitch) (s : State) : Moves ok s (startRound s) := by
  have ended : Moves ok s (judgeSweepCounts (advanceRound s)) := .after (.one (.legs _ _)) (.one (.rounds s _))
  have judged := (ended.trans (flowRoundStart_work (endedElapsed (judgeSweepCounts (advanceRound s))) _).moves).trans
    (dripRoundStart_work (endedNumber (judgeSweepCounts (advanceRound s))) _).moves
  have shifted := judged.trans (shiftBack_moves _)
  refine .after (closeIfDone_moves _) (.after (summaryStart_moves _) (.after (buildPollLists_moves _)
    (.after (takePeriod_moves _) (shifted.trans ?_))))
  unfold switchIfPending
  split
  · exact switchBank_moves h _
  · exact .refl

theorem firstMeters_moves (s : State) : Moves ok s (firstMeters s) :=
  .one (.work (.flows s _ fun h => h))

theorem firstRound_moves (h : ok .bankSwitch) (s : State) : Moves ok s (firstRound s) := by
  unfold firstRound
  exact .after (closeIfDone_moves _) (.after (buildPollLists_moves _) (.after (takePeriod_moves _)
    (.after (firstMeters_moves _) (.after (.one (.stored _ _ rfl rfl le_rfl (.same rfl rfl)))
      (.after (installBank_moves h _) (.one (.rounds s _)))))))

theorem closeRound_moves (h : ok .bankSwitch) (s : State) : Moves ok s (closeRound s) := by
  unfold closeRound
  split
  · split
    · exact startRound_moves h s
    · exact closeOnTime_moves s
  · exact .refl

theorem periodTick_moves (s : State) : Moves ok s (periodTick s) := by
  simp only [periodTick]
  split
  · split
    · exact reachTime_moves ..
    · exact .after (.one (.rounds _ _)) (reachTime_moves ..)
  · exact .refl

theorem nextRound_moves (h : ok .bankSwitch) (s : State) : Moves ok s (nextRound s) := by
  unfold nextRound
  split
  · exact .after (startRound_moves h _) (reachTime_moves ..)
  · exact .refl

/-! ### The legs -/

theorem setLeg_moves (l : Leg) (f : LegEngine → LegEngine) (s : State) : Moves ok s (setLeg l f s) := .one (.legs s _)

theorem startTxn_moves (l : Leg) (p : Purpose) (k : NodeKey) (f : Frame) (s : State) : Moves ok s (startTxn l p k f s) :=
  setLeg_moves ..

theorem boundaryDiscovery_moves (l : Leg) (s : State) : Moves ok s (boundaryDiscovery l s) := by
  simp only [boundaryDiscovery]
  split
  · exact .after (setLeg_moves ..) (startTxn_moves ..)
  · exact .refl

theorem boundaryPoll_moves (l : Leg) (s : State) : Moves ok s (boundaryPoll l s) := by
  simp only [boundaryPoll]
  split
  · exact .after (setLeg_moves ..) (startTxn_moves ..)
  · exact boundaryDiscovery_moves ..

theorem boundaryRelay_moves (l : Leg) (s : State) : Moves ok s (boundaryRelay l s) := by
  unfold boundaryRelay
  split
  · split
    · split
      · exact .after (boundaryPoll_moves ..) (placeDue_moves ..)
      · exact .after (startTxn_moves ..) (.trunkSame s _ rfl rfl rfl rfl rfl)
    · exact boundaryPoll_moves ..
  · exact boundaryPoll_moves ..

theorem sweepBegun_moves (l : Leg) (s : State) : Moves ok s (sweepBegun l s) := by
  simp only [sweepBegun]
  split
  · exact .after (.one (.legs _ _)) (setLeg_moves l _ s)
  · exact .refl

theorem sweepPoll_moves {l : Leg} {s t : State} (h : sweepPoll l s = some t) : Moves ok s t := by
  unfold sweepPoll at h
  split at h
  · split at h
    · cases h
      exact .after (setLeg_moves ..) (startTxn_moves ..)
    · cases h
  · cases h

theorem boundarySweep_moves (l : Leg) (s : State) : Moves ok s (boundarySweep l s) := by
  simp only [boundarySweep]
  split
  next polled => exact .trans (sweepBegun_moves l s) (sweepPoll_moves polled)
  · exact .after (boundaryRelay_moves ..) (sweepBegun_moves l s)

theorem boundaryQueue_moves (l : Leg) (s : State) : Moves ok s (boundaryQueue l s) := by
  unfold boundaryQueue
  split
  next taken => exact .after (startTxn_moves ..) (.one (.taken s l _ _ taken))
  · exact boundarySweep_moves ..

theorem boundary_moves (l : Leg) (s : State) : Moves ok s (boundary l s) := by
  unfold boundary
  split
  · exact boundaryQueue_moves ..
  · exact .refl

theorem boundaries_moves (s : State) : Moves ok s (boundaries s) := Moves.foldl _ _ (fun s l _ => boundary_moves l s) s

theorem discoveryOutcome_moves (k : NodeKey) (reply : Option Frame) (s : State) : Moves ok s (discoveryOutcome k reply s) := by
  have found : Moves ok s (match reply with
      | some f => useFreeIf (decide (f.payload.length < 5))
          (setLeg k.leg (fun e => { e with presence := e.presence ++ [presenceEntry s.free k.node f.payload] }) s)
      | none => s) := by
    cases reply with
    | none => exact .refl
    | some f => exact .after (useFreeIf_work ..).moves (setLeg_moves ..)
  simp only [discoveryOutcome]
  split
  · exact .after (setLeg_moves ..) found
  · exact found

theorem deliver_moves (t : Txn) (reply : Option (Frame × List Byte)) (s : State) : Moves ok s (deliver t reply s) := by
  unfold deliver
  split
  iterate 2
    split
    · exact (takeSample_work ..).moves
    · exact (nodeOutcome_work ..).moves
  · exact (setOutcome_work ..).moves
  · split
    · exact .refl
    · exact placeDue_moves ..
  · exact discoveryOutcome_moves ..

theorem endTxn_moves (h : ok .bankSwitch) (l : Leg) (t : Txn) (reply : Option (Frame × List Byte)) (s : State) :
    Moves ok s (endTxn l t reply s) := by
  have delivered : Moves ok s (deliver t reply (setLeg l (fun e => { e with txn := none }) s)) :=
    .after (deliver_moves ..) (setLeg_moves ..)
  unfold endTxn
  dsimp only
  split
  · split
    · exact .after (closeRound_moves h _) (.after (setLeg_moves ..) delivered)
    · exact .after (setLeg_moves ..) delivered
  · exact .after (setLeg_moves ..) delivered
  · exact delivered

theorem replyEnd_moves (h : ok .bankSwitch) (l : Leg) (bytes : List Byte) (s : State) : Moves ok s (replyEnd l bytes s) := by
  unfold replyEnd
  split
  · exact .after (endTxn_moves h ..) (setLeg_moves ..)
  · exact .refl

theorem windowExpiry_moves (h : ok .bankSwitch) (l : Leg) (stray : Bool) (s : State) : Moves ok s (windowExpiry l stray s) := by
  have begun (s : State) : Moves ok s (if stray then setLeg l strayBytes s else s) := by
    split
    · exact setLeg_moves ..
    · exact .refl
  unfold windowExpiry
  dsimp only
  split
  · exact begun s
  · split
    · exact .after (endTxn_moves h ..) (.after (begun _) (reachTime_moves ..))
    · exact .refl

theorem lineIdle_moves (h : ok .bankSwitch) (l : Leg) (after : LineEnd) (s : State) : Moves ok s (lineIdle l after s) := by
  unfold lineIdle
  split
  · exact setLeg_moves ..
  · split
    · exact .refl
    · exact .after (endTxn_moves h ..) (setLeg_moves ..)
    · exact .refl

theorem alertBegins_moves (hold : WireHold) (s : State) : Moves ok s (alertBegins hold s) := by
  unfold alertBegins
  split
  · exact setLeg_moves ..
  · exact .refl

/-! ### The arbiters and the end of a step -/

theorem grantDrop_moves (dir : Nat → Bool) (s : State) : ∀ g, grantDrop dir s = some g → Moves ok s g.2 :=
  grantDrop_elim dir s fun _ _ _ _ _ => (setNode_work ..).moves

theorem clearConditionPending_moves (u : UnitCondition) (s : State) : Moves ok s (clearConditionPending u s) := by
  cases u with
  | flood => exact .one (.work (.nodes s _))
  | headerBackflow => exact .one (.work (.flows s _ fun h => h))
  | headerFault => exact .one (.unpended s)
  | meterSkew => exact .one (.work (.flows s _ fun h => h))
  | incidentOverflow => exact .one (.work (.engine (.aside s _ rfl rfl)))
  | roundOverrun => exact .one (.rounds s _)
  | controllerLost => exact .trunkSame s _ rfl rfl rfl rfl rfl
  | alertStuck => exact .one (.legs s _)
  | unmappedDrip => exact .one (.work (.drips s _ fun h => h))

theorem grantAlarm_moves (s : State) : ∀ g, grantAlarm s = some g → Moves ok s g.2 :=
  grantAlarm_elim s (fun _ _ h => .one (.reported s _ _ h))
    (fun _ _ => Engine.moves (c := false) (modIncident_engine _ _ _ (fun _ => rfl) fun _ => rfl))
    (fun _ => .after (useFreeIf_work ..).moves (clearConditionPending_moves ..))
    fun _ _ _ => .one (.work (.engine (.aside s _ rfl rfl)))

theorem shorter {α : Type} {a : α} {l rest : List α} {n : Nat} (h : l = a :: rest) (hl : l.length ≤ n) : rest.length ≤ n :=
  (Nat.le_succ _).trans (h ▸ hl : (a :: rest).length ≤ n)

theorem refillPlace_moves (s : State) : Moves ok s (refillPlace s) := by
  unfold refillPlace
  split
  · exact fillPlace_moves ..
  · exact .refl

theorem pickUpper_moves (s : State) : ∀ g, pickUpper s = some g → Moves ok s g.2 := by
  refine pickUpper_elim s (fun g h => ?_) ?_ (grantReply_elim s fun r _ => ?_) (fun _ g _ h => grantDrop_moves _ s g h) ?_
    fun g h => ?_
  · exact (grantAlarm_moves s g h).trans (.trunkSame _ _ rfl rfl rfl rfl rfl)
  · exact grantUf_elim s fun f rest h =>
      .one (.trunk s { s.ti with uf := rest, lastWasA := false } (fun b => ⟨shorter h b.1, b.2⟩) rfl)
  · exact .after (refillPlace_moves _) (.trunkSame s _ rfl rfl rfl rfl rfl)
  · exact grantUr_elim s fun f rest h =>
      .one (.trunk s { s.ti with ur := rest, lastWasE := true } (fun b => ⟨b.1, shorter h b.2.1, b.2.2⟩) rfl)
  · refine .trans ?_ (.trunkSame _ _ rfl rfl rfl rfl rfl)
    exact grantRoutine_elim (P := fun g => Moves ok s g.2) s (.trunkSame s _ rfl rfl rfl rfl rfl)
      (fun _ _ _ _ => (setNode_work ..).moves) g h

theorem pickLower_moves (s : State) : ∀ g, pickLower s = some g → Moves ok s g.2 := by
  refine pickLower_elim s (grantOnward_elim s fun p _ => .trunkSame s _ rfl rfl rfl rfl rfl) ?_ fun _ g _ h =>
    (grantDrop_moves _ s g h).trans (.trunkSame _ _ rfl rfl rfl rfl rfl)
  exact grantDf_elim s fun f rest h =>
    .one (.trunk s { s.ti with df := rest, lastWasDf := true } (fun b => ⟨b.1, b.2.1, shorter h b.2.2.1, b.2.2.2⟩) rfl)

theorem grantUpper_moves (s : State) : Moves ok s (grantUpper s) := by
  unfold grantUpper
  split
  · split
    next picked => exact (pickUpper_moves s _ picked).trans (.trunkSame _ _ rfl rfl rfl rfl rfl)
    · exact .refl
  · exact .refl

theorem grantLower_moves (s : State) : Moves ok s (grantLower s) := by
  unfold grantLower
  split
  · split
    next picked => exact (pickLower_moves s _ picked).trans (.trunkSame _ _ rfl rfl rfl rfl rfl)
    · exact .refl
  · exact .refl

theorem settle_moves (s : State) : Moves ok s (settle s) :=
  .after (.one (.pins _ _)) (.after (grantLower_moves _) (grantUpper_moves s))

theorem settleAll_moves (s : State) : Moves ok s (settleAll s) := .after (settle_moves _) (boundaries_moves s)

end Functions

end Sys2Proof.Machine
end

section
/-! Records as they arrive: what is read lies in the ranges of its table, and a bank that takes it stays sound
(R159, R160). -/

namespace Sys2Proof.Machine

open Sys2Proof

section Ranges

theorem le_clampTo {lo hi : Nat} (n : Nat) : lo ≤ clampTo lo hi n := le_max_left ..

theorem clampTo_le {lo hi : Nat} (h : lo ≤ hi) (n : Nat) : clampTo lo hi n ≤ hi := max_le h (min_le_left ..)

theorem le_clampInt {lo hi : Int} (n : Int) : lo ≤ clampInt lo hi n := le_max_left ..

theorem clampInt_le {lo hi : Int} (h : lo ≤ hi) (n : Int) : clampInt lo hi n ≤ hi := max_le h (min_le_left ..)

theorem clampPeriod_range (n : Nat) : 200 ≤ clampPeriod n ∧ clampPeriod n ≤ 5000 ∧ clampPeriod n % 50 = 0 := by
  have low : 200 ≤ clampTo 200 5000 n := le_clampTo n
  have high : clampTo 200 5000 n ≤ 5000 := clampTo_le (by decide) n
  unfold clampPeriod
  omega

theorem byte_toNat_le (b : Byte) : b.toNat ≤ 255 := Nat.le_of_lt_succ b.isLt

theorem ofBytes2_le (lo hi : Byte) : ofBytes2 lo hi ≤ 65535 := by
  have := byte_toNat_le lo
  have := byte_toNat_le hi
  unfold ofBytes2
  omega

theorem placeKey_node {b : Byte} {k : NodeKey} (h : placeKey b = some k) : 1 ≤ k.node ∧ k.node ≤ 30 := by
  simp only [placeKey] at h
  split at h
  · split at h
    next range => cases h; exact range
    · cases h
  · cases h

end Ranges

/-- A record read for the table `t` belongs to it and lies in its ranges. -/
def GoodRecord : TableId → RecordBody → Prop
  | _, .empty => True
  | .node, .node r => goodNode r
  | .branch, .branch r => goodBranch r
  | .drip, .row r => goodRow r
  | .settings, .settings r => goodSettings r
  | _, _ => False

section Parsing

variable {bs : List Byte} {r : RecordBody} {c : Nat}

theorem parseNode_good (h : parseNode bs = some (r, c)) : GoodRecord .node r := by
  unfold parseNode at h
  split at h
  next k p m dl dh part =>
    split at h
    next key mode place _ =>
      obtain ⟨low, high⟩ := placeKey_node place
      have delta := ofBytes2_le dl dh
      split at h
      · split at h
        · split at h
          next ev =>
            cases h
            exact ⟨low, high, delta, le_clampTo _, clampTo_le (by decide) _, clampTo_le (by decide) _, le_clampTo _,
              clampTo_le (by decide) _, ev⟩
          · cases h
        · cases h
      · cases h
        exact ⟨low, high, delta, trivial⟩
      · cases h
        exact ⟨low, high, delta, le_clampTo _, clampTo_le (by decide) _⟩
      · cases h
    · cases h
  · cases h

theorem parseBranch_good (h : parseBranch bs = some (r, c)) : GoodRecord .branch r := by
  unfold parseBranch at h
  split at h
  next fg gl gh =>
    split at h
    next inTable =>
      cases h
      exact ⟨inTable.1, inTable.2.1, inTable.2.2, le_clampInt _, clampInt_le (by decide) _, clampTo_le (by decide) _,
        le_clampTo _, clampTo_le (by decide) _, byte_toNat_le fg, ofBytes2_le gl gh⟩
    · cases h
  · cases h

theorem parseCandidates_length : ∀ part : List Byte, (parseCandidates part).length = part.length / 2
  | [] => rfl
  | [_] => by simp [parseCandidates]
  | _ :: _ :: rest => by simp only [parseCandidates, List.length_cons, parseCandidates_length rest]; omega

/-- The length of a row's record is told by its count of candidates. -/
theorem parseRow_good (h : parseRow bs = some (r, c)) (hl : ∀ n, bs[6]? = some n → bs.length = 7 + 2 * n.toNat) :
    GoodRecord .drip r := by
  unfold parseRow at h
  split at h
  next u n fa qu pe count part =>
    dsimp only at h
    split at h
    next inTable =>
      cases h
      obtain ⟨unit, node, low, high, branches⟩ := inTable
      have partLength : part.length = 2 * count.toNat := by
        have := hl count rfl
        simp only [List.length_cons] at this
        omega
      have taken : ((parseCandidates part).take count.toNat).length = count.toNat := by
        rw [List.length_take, parseCandidates_length, partLength]
        omega
      refine ⟨unit, node, clampTo_le (by decide) _, le_clampTo _, clampTo_le (by decide) _, le_clampTo _,
        clampTo_le (by decide) _, ?_, ?_, ?_⟩
      · rwa [List.length_map, taken]
      · rwa [List.length_map, taken]
      · intro x hx
        obtain ⟨p, hp, rfl⟩ := List.mem_map.mp hx
        exact ⟨of_decide_eq_true (List.all_eq_true.mp branches p hp), le_clampTo _, clampTo_le (by decide) _⟩
    · cases h
  · cases h

theorem parseSettings_good (h : parseSettings bs = some (r, c)) : GoodRecord .settings r := by
  unfold parseSettings at h
  split at h
  · split at h
    · split at h
      next hold =>
        cases h
        obtain ⟨short, long, whole⟩ := clampPeriod_range _
        exact ⟨short, long, whole, le_clampTo _, clampTo_le (by decide) _, le_clampTo _, clampTo_le (by decide) _,
          le_clampTo _, clampTo_le (by decide) _, le_clampTo _, clampTo_le (by decide) _, clampTo_le (by decide) _,
          le_clampTo _, clampTo_le (by decide) _, le_clampTo _, clampTo_le (by decide) _, hold, clampTo_le (by decide) _,
          le_clampTo _, clampTo_le (by decide) _, le_clampTo _, clampTo_le (by decide) _, le_clampInt _,
          clampInt_le (by decide) _, clampTo_le (by decide) _, le_clampTo _, clampTo_le (by decide) _, byte_toNat_le _,
          le_clampTo _, clampTo_le (by decide) _, le_clampTo _, clampTo_le (by decide) _, ofBytes2_le _ _, le_clampTo _,
          clampTo_le (by decide) _⟩
      · cases h
    · cases h
  · cases h

theorem recordSize_drip {n : Nat} (h : recordSize .drip bs = .bytes n) (filled : bs[0]? ≠ some 0) :
    ∃ count, bs[6]? = some count ∧ n = 8 + 2 * count.toNat := by
  cases bs with
  | nil => cases h
  | cons b0 rest =>
    have nonzero : b0 ≠ 0#8 := fun e => filled (congrArg some e)
    simp only [recordSize, if_neg nonzero] at h
    split at h
    · split at h
      · cases h
      next count sixth =>
        split at h
        · cases h
          exact ⟨count, sixth, rfl⟩
        · cases h
    · cases h

theorem take_dropLast {n : Nat} (whole : n ≤ bs.length) : (bs.take n).dropLast = bs.take (n - 1) := by
  rw [List.dropLast_eq_take, List.take_take, List.length_take, Nat.min_eq_left whole, Nat.min_eq_left (Nat.sub_le n 1)]

/-- The content that `recordSize` cuts out of the bytes is read as a good record. -/
theorem parseRecord_good {t : TableId} {n : Nat} (size : recordSize t bs = .bytes n) (whole : n ≤ bs.length)
    (h : parseRecord t (bs.take n).dropLast = some (r, c)) : GoodRecord t r := by
  unfold parseRecord at h
  split at h
  · cases h
  next b0 rest content =>
    split at h
    · cases h
      cases t <;> trivial
    next filled =>
      rw [take_dropLast whole] at h content
      cases t with
      | node => exact parseNode_good h
      | branch => exact parseBranch_good h
      | settings => exact parseSettings_good h
      | drip =>
        have first : bs[0]? = some b0 := by
          have := congrArg (·[0]?) content
          rw [List.getElem?_take] at this
          split at this
          · exact this
          · cases this
        obtain ⟨count, sixth, rfl⟩ := recordSize_drip size (by rw [first]; exact fun e => filled (Option.some.inj e))
        refine parseRow_good h fun m hm => ?_
        rw [List.getElem?_take_of_lt (by omega), sixth] at hm
        cases hm
        rw [List.length_take]
        omega

end Parsing

section Staging

variable {α : Type} {cap i : Nat} {x : α}

theorem tableWf_cons {lo : Option Nat} {j : Nat} {y : α} {rest : List (Nat × α)} :
    tableWf cap lo ((j, y) :: rest) = true ↔ (∀ k, lo = some k → k < j) ∧ j < cap ∧ tableWf cap (some j) rest = true := by
  cases lo <;> simp [tableWf, and_assoc]

theorem tableWf_entryPut (hi : i < cap) : ∀ {lo : Option Nat} {t : List (Nat × α)}, tableWf cap lo t = true →
    (∀ k, lo = some k → k < i) → tableWf cap lo (entryPut i x t) = true
  | lo, [], _, above => tableWf_cons.mpr ⟨above, hi, rfl⟩
  | lo, (j, y) :: rest, h, above => by
    obtain ⟨first, inTable, others⟩ := tableWf_cons.mp h
    unfold entryPut
    split
    next before => exact tableWf_cons.mpr ⟨above, hi, tableWf_cons.mpr ⟨fun k e => by cases e; exact before, inTable, others⟩⟩
    · split
      next same => subst same; exact tableWf_cons.mpr ⟨above, hi, others⟩
      · exact tableWf_cons.mpr ⟨first, inTable, tableWf_entryPut hi others fun k e => by cases e; omega⟩

theorem tableWf_weaken {lo lo' : Option Nat} {t : List (Nat × α)} (h : tableWf cap lo t = true)
    (weaker : ∀ k, lo' = some k → ∃ j, lo = some j ∧ k ≤ j) : tableWf cap lo' t = true := by
  cases t with
  | nil => rfl
  | cons p rest =>
    obtain ⟨first, inTable, others⟩ := tableWf_cons.mp h
    refine tableWf_cons.mpr ⟨fun k e => ?_, inTable, others⟩
    obtain ⟨j, low, le⟩ := weaker k e
    exact le.trans_lt (first j low)

theorem tableWf_entryDrop : ∀ {lo : Option Nat} {t : List (Nat × α)}, tableWf cap lo t = true →
    tableWf cap lo (entryDrop i t) = true
  | lo, [], h => h
  | lo, (j, y) :: rest, h => by
    obtain ⟨first, inTable, others⟩ := tableWf_cons.mp h
    unfold entryDrop
    split
    · exact tableWf_weaken others fun k e => ⟨j, rfl, (first k e).le⟩
    · exact tableWf_cons.mpr ⟨first, inTable, tableWf_entryDrop others⟩

theorem mem_entryPut {p : Nat × α} : ∀ {t : List (Nat × α)}, p ∈ entryPut i x t → p = (i, x) ∨ p ∈ t
  | [], h => .inl (List.mem_singleton.mp h)
  | (j, y) :: rest, h => by
    unfold entryPut at h
    split at h
    · exact List.mem_cons.mp h
    · split at h
      · exact (List.mem_cons.mp h).imp_right (List.mem_cons_of_mem _)
      · obtain rfl | later := List.mem_cons.mp h
        · exact .inr List.mem_cons_self
        · exact (mem_entryPut later).imp_right (List.mem_cons_of_mem _)

theorem mem_of_mem_entryDrop {p : Nat × α} : ∀ {t : List (Nat × α)}, p ∈ entryDrop i t → p ∈ t
  | [], h => h
  | (j, y) :: rest, h => by
    unfold entryDrop at h
    split at h
    · exact List.mem_cons_of_mem _ h
    · exact (List.mem_cons.mp h).elim (fun e => e ▸ List.mem_cons_self) fun later =>
        List.mem_cons_of_mem _ (mem_of_mem_entryDrop later)

theorem forall_mem_entryPut {P : Nat × α → Prop} {t : List (Nat × α)} (h : ∀ p ∈ t, P p) (new : P (i, x)) :
    ∀ p ∈ entryPut i x t, P p := fun p hp => (mem_entryPut hp).elim (fun e => e ▸ new) (h p)

theorem bank_wf_iff {b : Bank} : b.wf = true ↔
    tableWf 120 none b.nodes = true ∧ tableWf 24 none b.branches = true ∧ tableWf 48 none b.rows = true := by
  simp [Bank.wf, and_assoc]

/-- A bank stays in index order within its capacities when a record is put at an index of its table. -/
theorem putRecord_wf {t : TableId} {r : RecordBody} {b : Bank} (h : b.wf = true) (good : GoodRecord t r)
    (inTable : i ≤ lastIndex t) : (putRecord t i r b).wf = true := by
  obtain ⟨nodes, branches, rows⟩ := bank_wf_iff.mp h
  have inTable := Nat.lt_succ_of_le inTable
  cases r with
  | empty =>
    cases t with
    | node => exact bank_wf_iff.mpr ⟨tableWf_entryDrop nodes, branches, rows⟩
    | branch => exact bank_wf_iff.mpr ⟨nodes, tableWf_entryDrop branches, rows⟩
    | drip => exact bank_wf_iff.mpr ⟨nodes, branches, tableWf_entryDrop rows⟩
    | settings => exact h
  | node x =>
    cases t with
    | node => exact bank_wf_iff.mpr ⟨tableWf_entryPut inTable nodes nofun, branches, rows⟩
    | _ => cases good
  | branch x =>
    cases t with
    | branch => exact bank_wf_iff.mpr ⟨nodes, tableWf_entryPut inTable branches nofun, rows⟩
    | _ => cases good
  | row x =>
    cases t with
    | drip => exact bank_wf_iff.mpr ⟨nodes, branches, tableWf_entryPut inTable rows nofun⟩
    | _ => cases good
  | settings x => exact h

/-- The records of a bank stay good when a good one, or none, is put in it. -/
theorem putRecord_good {t : TableId} {r : RecordBody} {b : Bank} (h : goodBank b) (good : GoodRecord t r) :
    goodBank (putRecord t i r b) := by
  obtain ⟨nodes, branches, rows, sets⟩ := h
  cases r with
  | empty =>
    cases t with
    | node => exact ⟨fun p hp => nodes p (mem_of_mem_entryDrop hp), branches, rows, sets⟩
    | branch => exact ⟨nodes, fun p hp => branches p (mem_of_mem_entryDrop hp), rows, sets⟩
    | drip => exact ⟨nodes, branches, fun p hp => rows p (mem_of_mem_entryDrop hp), sets⟩
    | settings => exact ⟨nodes, branches, rows, nofun⟩
  | node x =>
    cases t with
    | node => exact ⟨forall_mem_entryPut nodes good, branches, rows, sets⟩
    | _ => cases good
  | branch x =>
    cases t with
    | branch => exact ⟨nodes, forall_mem_entryPut branches good, rows, sets⟩
    | _ => cases good
  | row x =>
    cases t with
    | drip => exact ⟨nodes, branches, forall_mem_entryPut rows good, sets⟩
    | _ => cases good
  | settings x =>
    cases t with
    | settings => exact ⟨nodes, branches, rows, fun r e => by cases e; exact good⟩
    | _ => cases good

/-- A property of banks that putting a good record in its table keeps. -/
def KeptByRecords (P : Bank → Prop) : Prop :=
  ∀ (t : TableId) (i : Nat) (r : RecordBody) (b : Bank), P b → GoodRecord t r → i ≤ lastIndex t → P (putRecord t i r b)

variable {P : Bank → Prop} (kept : KeptByRecords P)

include kept

theorem judgeRecord_keeps {t : TableId} {bs : List Byte} {n : Nat} {p : Load × Bank} (size : recordSize t bs = .bytes n)
    (whole : n ≤ bs.length) (h : P p.2) : P (judgeRecord t (bs.take n) p).2 := by
  simp only [judgeRecord]
  split
  · exact h
  split
  · exact h
  next inTable =>
    split
    · exact h
    next parsed => exact kept _ _ _ _ h (parseRecord_good size whole parsed) (Nat.le_of_not_lt inTable)

theorem takeRecords_keeps (t : TableId) (fuel : Nat) (bs : List Byte) (p : Load × Bank) (h : P p.2) :
    P (takeRecords t fuel bs p).2 := by
  induction fuel generalizing bs p with
  | zero => exact h
  | succ fuel ih =>
    unfold takeRecords
    split
    · exact h
    · split
      · exact h
      · exact h
      next n size =>
        split
        · exact h
        next whole => exact ih _ _ (judgeRecord_keeps kept size (Nat.le_of_not_lt whole) h)

theorem feedLoad_keeps (bytes : List Byte) (p : Load × Bank) (h : P p.2) : P (feedLoad bytes p).2 := by
  simp only [feedLoad]
  split
  · exact takeRecords_keeps kept _ _ _ _ h
  · exact h

end Staging

section Functions

variable {ok : Special → Prop}

theorem loadBytes_moves (bytes : List Byte) (s : State) : Moves ok s (loadBytes bytes s) := by
  simp only [loadBytes]
  split
  · exact .refl
  next l _ =>
    refine .trans (.one (.stored s { s.ts with staging := (feedLoad bytes (l, s.ts.staging)).2 } rfl rfl le_rfl ⟨?_, ?_⟩))
      (.trunkSame _ _ rfl rfl rfl rfl rfl)
    · exact fun h => ⟨h.1, feedLoad_keeps (P := fun b => b.wf = true) (fun _ _ _ _ => putRecord_wf) bytes (l, s.ts.staging) h.2⟩
    · exact fun h => ⟨h.1, feedLoad_keeps (P := goodBank) (fun _ _ _ _ b g _ => putRecord_good b g) bytes (l, s.ts.staging) h.2⟩

end Functions

end Sys2Proof.Machine
end

section
/-! Every row of the model as a chain of moves: the commands, the way of a frame, the events, and with them the whole
step. -/

namespace Sys2Proof.Machine

open Sys2Proof

/-- The rows that end a poll or a round, and so may start the next round. -/
def StartsRounds (c : Instr) : Prop :=
  c = .roundStart ∨ (∃ l bytes, c = .legReplyEnd l bytes) ∨ (∃ l stray, c = .responseWindowExpiry l stray) ∨
    ∃ l after, c = .legLineIdle l after

/-- The row is a HEADER OPEN for this unit, and no incident forbids it. -/
def OpensHeader (c : Instr) (s : State) : Prop :=
  anyEscalated s = false ∧ s.ti.upperBreak = false ∧
    ∃ (f : Frame) (p : Nat), bringsUpper f c ∧ f.kind = 0x11#8 ∧ f.payload = [0x21#8] ∧ s.ti.position = some p ∧
      (f.dest.toNat = p ∨ f.dest = 255)

/-- The row resets the unit. -/
def ResetsUnit (c : Instr) (s : State) : Prop :=
  c = .pinReset ∨ (c = .upperFrameSent ∧ ∃ f, s.ti.upperTx = some ⟨f, true⟩) ∨
    (c = .breakUpper ∧ s.ti.upperBreak = false ∧ resetReplyWaits s.ti = true)

/-- The special moves that a row may make in a state. -/
def Allowed (c : Instr) (s : State) : Special → Prop
  | .reset => ResetsUnit c s
  | .power => c = .powerOn
  | .bankSwitch => s.rt.running = false ∨ StartsRounds c
  | .headerOpen => OpensHeader c s

section Functions

variable {ok : Special → Prop}

/-! ### Commands -/

theorem carryCommit_moves {s : State} (h : s.rt.running = false → ok .bankSwitch) : Moves ok s (carryCommit s).1 := by
  unfold carryCommit
  split
  · exact .refl
  split
  · exact .refl
  split
  · exact .refl
  split
  · exact .one (.stored s _ rfl rfl le_rfl (.same rfl rfl))
  next stopped => exact firstRound_moves (h (Bool.not_eq_true _ ▸ stopped)) s

theorem discardStaging_moves (s : State) : Moves ok s (discardStaging s) :=
  .one (.stored s _ rfl rfl le_rfl ⟨fun h => ⟨h.1, h.1⟩, fun h => ⟨h.1, h.1⟩⟩)

theorem carryDiscard_moves (s : State) : Moves ok s (carryDiscard s).1 := by
  unfold carryDiscard
  split
  · exact .refl
  · exact discardStaging_moves s

theorem carryProtect_moves (level : Byte) (s : State) : Moves ok s (carryProtect level s).1 := by
  simp only [carryProtect, plain, protectUnit]
  split
  · exact .refl
  · split
    · exact .refl
    next higher => exact .one (.stored s _ rfl rfl (Nat.le_of_not_lt higher) (.same rfl rfl))

theorem carryHeaderClose_moves (s : State) : Moves ok s (carryHeaderClose s).1 :=
  .one (.work (.engine (.header s s.clock (settings s).hdrStroke)))

theorem carryHeaderOpen_moves {s : State} (h : anyEscalated s = false → ok .headerOpen) :
    Moves ok s (carryHeaderOpen s).1 := by
  unfold carryHeaderOpen
  split
  · exact .refl
  next free => exact .one (.headerOpen s s.clock (settings s).hdrStroke (h (Bool.not_eq_true _ ▸ free)))

theorem carryExerciseStart_moves (first count : Byte) (s : State) : Moves ok s (carryExerciseStart first count s).1 := by
  unfold carryExerciseStart
  split
  · exact .refl
  split
  · exact .refl
  split
  · exact .refl
  · exact (beginExercise_tests ..).moves

theorem manualExercise_moves (b : Bool) (s : State) : Moves ok s (manualExercise b s).1 := by
  unfold manualExercise
  split
  · exact .refl
  · exact (causesChanged_tests ..).moves

theorem carryExerciseAbort_moves (s : State) : Moves ok s (carryExerciseAbort s).1 := by
  unfold carryExerciseAbort
  split
  · exact .refl
  · exact .book ..

theorem discoverLeg_moves (leg : Byte) (s : State) : Moves ok s (discoverLeg leg s).1 := by
  unfold discoverLeg
  split
  · exact .refl
  · split
    · exact .refl
    · exact setLeg_moves ..

theorem carryIsolate_moves (branch : Byte) (s : State) : Moves ok s (carryIsolate branch s).1 :=
  (isolateBranch_engine (c := false) ..).moves

theorem carryRelease_moves (id : Byte) (s : State) : Moves ok s (carryRelease id s).1 := (releaseIncident_engine ..).moves

/-- What a command payload asks is a chain of moves; HEADER OPEN and COMMIT make the special ones. -/
theorem carryOf_moves {payload : List Byte} {carry : State → Carry} {s : State} (defined : carryOf payload = some carry)
    (opens : payload = [0x21#8] → anyEscalated s = false → ok .headerOpen)
    (switches : s.rt.running = false → ok .bankSwitch) : Moves ok s (carry s).1 := by
  unfold carryOf at defined
  split at defined
  · split at defined
    · cases defined; exact .refl
    split at defined
    · cases defined; exact carryCommit_moves switches
    split at defined
    · cases defined; exact carryDiscard_moves s
    split at defined
    · cases defined; exact .refl
    split at defined
    · cases defined; exact carryHeaderClose_moves s
    split at defined
    next code => cases defined; exact carryHeaderOpen_moves (opens (congrArg (fun x => [x]) code))
    split at defined
    · cases defined; exact manualExercise_moves true s
    split at defined
    · cases defined; exact manualExercise_moves false s
    split at defined
    · cases defined; exact carryExerciseAbort_moves s
    split at defined
    · cases defined; exact .refl
    split at defined
    · cases defined; exact .refl
    · cases defined
  · split at defined
    · cases defined; exact carryProtect_moves ..
    split at defined
    · cases defined; exact .refl
    split at defined
    · cases defined; exact carryIsolate_moves ..
    split at defined
    · cases defined; exact carryRelease_moves ..
    split at defined
    · cases defined; exact discoverLeg_moves ..
    split at defined
    · cases defined; exact .refl
    split at defined
    · cases defined; exact .refl
    · cases defined
  · split at defined
    · cases defined; exact carryExerciseStart_moves ..
    · cases defined
  · split at defined
    · cases defined; exact .refl
    · cases defined
  · cases defined

theorem takeCommand_moves {code : Byte} {args : List Byte} {carry : State → Carry} {s : State}
    (h : Moves ok s (carry s).1) : Moves ok s (takeCommand code args carry s) := by
  unfold takeCommand
  split
  · exact h.trans (placeDue_moves ..)
  · exact placeOwn_moves ..

/-! ### LOAD TABLE -/

theorem enterLoad_moves (l : Load) (s : State) : Moves ok s (enterLoad l s) := .trunkSame s _ rfl rfl rfl rfl rfl

theorem startLoad_moves (hdr : Header) (table first : Option Byte) (s : State) : Moves ok s (startLoad hdr table first s) := by
  unfold startLoad
  split
  · split
    · exact enterLoad_moves ..
    · exact enterLoad_moves ..
    · exact .after (placeDue_moves ..) (.trunkSame s _ rfl rfl rfl rfl rfl)
  · exact .trunkSame s _ rfl rfl rfl rfl rfl

theorem loadBegins_moves (hdr : Header) (table first : Option Byte) (s : State) : Moves ok s (loadBegins hdr table first s) := by
  unfold loadBegins
  split
  · exact .refl
  · split
    · exact .refl
    · exact startLoad_moves ..
    · exact startLoad_moves ..
    · exact .trunkSame s _ rfl rfl rfl rfl rfl

theorem answerLoad_moves (l : Load) (e : LoadEnding) (s : State) : Moves ok s (answerLoad l e s) := by
  unfold answerLoad
  split
  · exact .after (useFreeIf_work ..).moves (placeDue_moves ..)
  · exact .refl

theorem answerShort_moves (l : Load) (e : LoadEnding) (s : State) : Moves ok s (answerShort l e s) := by
  unfold answerShort
  split
  · split
    · exact placeDue_moves ..
    · exact .refl
  · exact answerLoad_moves ..

theorem concludeLoad_moves (l : Load) (e : LoadEnding) (s : State) : Moves ok s (concludeLoad l e s) := by
  unfold concludeLoad
  split
  · exact answerLoad_moves ..
  · exact answerShort_moves ..
  · split
    · exact placeOwn_moves ..
    · exact .refl
  · exact .refl
  · exact .refl

theorem wholeLoad_moves (f : Frame) (table first : Option Byte) (records : List Byte) (crc : Half) (s : State) :
    Moves ok s (wholeLoad f table first records crc s) := by
  simp only [wholeLoad]
  split
  · exact startLoad_moves ..
  · exact .after (concludeLoad_moves ..) (.after (.trunkSame _ _ rfl rfl rfl rfl rfl)
      (.after (loadBytes_moves ..) (startLoad_moves ..)))

/-! ### The way of a frame -/

/-- The frame for `dest` is for this unit. -/
def TakenHere (t : TrunkBlock) (port : Port) (kind dest : Byte) : Prop :=
  routeOf t port kind dest = .consumed ∨ routeOf t port kind dest = .consumedAndForwarded

theorem receive_moves {port : Port} {f : Frame} {consume : State → State} {s : State}
    (h : TakenHere s.ti port f.kind f.dest → Moves ok (heard port s) (consume (heard port s))) :
    Moves ok s (receive port f consume s) := by
  have heard := heard_moves (ok := ok) port s
  unfold receive
  split
  · exact .refl
  · exact .after (recordError_moves ..) heard
  · exact .after (takeNumber_moves ..) heard
  next route => exact heard.trans (h (.inl route))
  next route => exact .after (forward_moves ..) (heard.trans (h (.inr route)))
  · exact .after (forward_moves ..) heard

theorem takeRelay_moves (payload : List Byte) (s : State) : Moves ok s (takeRelay payload s) := by
  unfold takeRelay
  split
  · split
    · exact .trunkSame s _ rfl rfl rfl rfl rfl
    · exact placeDue_moves ..
  · exact placeOwn_moves ..

theorem takeCommandFrame_moves {f : Frame} {s : State}
    (opens : f.payload = [0x21#8] → anyEscalated s = false → ok .headerOpen)
    (switches : s.rt.running = false → ok .bankSwitch) : Moves ok s (takeCommandFrame f s) := by
  unfold takeCommandFrame
  split
  next defined => exact takeCommand_moves (carryOf_moves defined opens switches)
  · exact wholeLoad_moves ..
  · exact .after (takeCommand_moves .refl) (useFreeIf_work ..).moves

theorem consumeFrame_moves {f : Frame} {s : State}
    (opens : f.kind = 0x11#8 → f.payload = [0x21#8] → anyEscalated s = false → ok .headerOpen)
    (switches : s.rt.running = false → ok .bankSwitch) : Moves ok s (consumeFrame f s) := by
  unfold consumeFrame
  split
  next command => exact takeCommandFrame_moves (opens command) switches
  split
  · exact takeRelay_moves ..
  split
  · exact (dropReport_work ..).moves
  · exact .refl

/-- On the upper port a frame is taken where the port receives and its Destination is the unit's, or every unit's. -/
theorem takenHere_upper {t : TrunkBlock} {kind dest : Byte} (h : TakenHere t .upper kind dest) :
    t.upperBreak = false ∧ ∃ p, t.position = some p ∧ (dest.toNat = p ∨ dest = 255) := by
  simp only [TakenHere, routeOf, routeUpper] at h
  split at h
  · simp at h
  next released =>
    refine ⟨Bool.not_eq_true _ ▸ released, ?_⟩
    split at h
    · simp at h
    split at h
    · simp at h
    split at h
    · simp at h
    next p position =>
      refine ⟨p, position, ?_⟩
      split at h
      · simp at h
      split at h
      next same => exact .inl same
      split at h
      next every => exact .inr every
      · simp at h

theorem not_takenHere_lower_command {t : TrunkBlock} {dest : Byte} : ¬ TakenHere t .lower 0x11#8 dest := by
  have down : downwardKind 0x11#8 = true := by decide
  simp [TakenHere, routeOf, routeLower, down]

/-- A frame on the upper port is carried out by a row that brings it. -/
theorem receiveAny_upper_moves {c : Instr} {f : Frame} {s : State} (brings : bringsUpper f c) :
    Moves (Allowed c s) s (receiveAny .upper f s) := by
  refine receive_moves fun taken => consumeFrame_moves (fun command payload free => ?_) .inl
  obtain ⟨released, p, position, dest⟩ := takenHere_upper taken
  exact ⟨free, released, f, p, brings, command, payload, position, dest⟩

theorem receiveAny_lower_moves {c : Instr} {f : Frame} {s : State} : Moves (Allowed c s) s (receiveAny .lower f s) := by
  refine receive_moves fun taken => consumeFrame_moves (fun command _ _ => ?_) .inl
  exact absurd (command ▸ taken) not_takenHere_lower_command

theorem receiveAny_moves {c : Instr} {f : Frame} {port : Port} {s : State} (brings : port = .upper → bringsUpper f c) :
    Moves (Allowed c s) s (receiveAny port f s) := by
  cases port with
  | upper => exact receiveAny_upper_moves (brings rfl)
  | lower => exact receiveAny_lower_moves

theorem receiveCommand_moves {hdr : Header} {code : Byte} {args : List Byte} {carry : State → Carry} {s : State}
    (h : TakenHere s.ti .upper kindCommand hdr.dest → Moves ok (presenceRestart s) (carry (presenceRestart s)).1) :
    Moves ok s (receiveCommand hdr code args carry s) :=
  receive_moves fun taken => takeCommand_moves (h taken)

theorem loadEnds_moves (tail : List Byte) (e : LoadEnding) (s : State) : Moves ok s (loadEnds tail e s) := by
  have concluded : Moves ok s { loadBytes tail s with ti := { (loadBytes tail s).ti with load := none } } :=
    .after (.trunkSame _ _ rfl rfl rfl rfl rfl) (loadBytes_moves tail s)
  unfold loadEnds
  split
  · exact .refl
  next l _ =>
    dsimp only
    split
    · exact .after (concludeLoad_moves ..) (.after (recordError_moves ..) concluded)
    · exact .after (receive_moves fun _ => concludeLoad_moves ..) concluded

theorem failsPayload_moves (port : Port) (bytes : List Byte) (s : State) : Moves ok s (failsPayload port bytes s) := by
  unfold failsPayload
  split
  · unfold takeDamaged
    split
    · split
      · exact wholeLoad_moves ..
      · exact .refl
    · exact .refl
  · exact .refl

theorem receptionEnds_moves {port : Port} {rx : Reception} {s : State} :
    Moves (Allowed (.trunkFrameDiscard port rx) s) s (receptionEnds port rx s) := by
  unfold receptionEnds
  split
  · exact .refl
  split
  · exact recordError_moves ..
  · exact recordError_moves ..
  next bytes =>
    split
    · exact recordError_moves ..
    · exact .after (failsPayload_moves ..) (recordError_moves ..)
    next f good =>
      exact receiveAny_moves fun upper => .inr (.inr (.inr (.inr ⟨bytes, upper ▸ rfl, good⟩)))

/-! ### Events -/

theorem withService_moves (b : Bool) (s : State) : Moves ok s (withService b s) := .one (.pins s _)

theorem setHold_moves (port : Port) (held : Bool) (s : State) : Moves ok s (setHold port held s) := by
  cases port <;> exact .one (.pins s _)

theorem setMeter_moves (m : Meter) (f : MeterState → MeterState) (s : State) : Moves ok s (setMeter m f s) := by
  cases m <;> exact .one (.work (.flows s _ fun h => h))

theorem freeLower_moves (s : State) : Moves ok s (freeLower s) := .trunkSame s _ rfl rfl rfl rfl rfl

theorem lowerSent_moves (s : State) : Moves ok s (lowerSent s) := by
  unfold lowerSent
  split
  · exact freeLower_moves s
  · exact .refl

theorem lowerBreakEnd_moves (s : State) : Moves ok s (lowerBreakEnd s) := by
  unfold lowerBreakEnd
  split
  · exact .after (freeLower_moves _) (reachTime_moves ..)
  · exact .refl

theorem upperSent_moves {s : State} (h : ∀ f, s.ti.upperTx = some ⟨f, true⟩ → ok .reset) : Moves ok s (upperSent s) := by
  unfold upperSent
  split
  · exact .refl
  next x sent =>
    have freed : Moves ok s { s with ti := { s.ti with upperTx := none } } := .trunkSame s _ rfl rfl rfl rfl rfl
    refine iteInduction (motive := Moves ok s) (fun reset => freed.trans (.one (.reset _ (h x.frame ?_)))) fun _ => freed
    rw [sent, ← reset]

theorem breakUpper_moves {s : State} (h : s.ti.upperBreak = false → resetReplyWaits s.ti = true → ok .reset) :
    Moves ok s (breakUpper s) := by
  unfold breakUpper
  split
  · exact .refl
  next released =>
    have broken : Moves ok s { s with
        ti := breakTrunk s.clock s.ti, le := { s.le with legs := mapLegs (fun _ e => dropRelay e) s.le.legs } } :=
      .trans (.one (.trunk s (breakTrunk s.clock s.ti)
        (fun b => ⟨Nat.zero_le 8, Nat.zero_le 8, Nat.zero_le 8, b.2.2.2⟩) rfl)) (.one (.legs _ _))
    exact iteInduction (motive := Moves ok s)
      (fun waits => broken.trans (.one (.reset _ (h (Bool.not_eq_true _ ▸ released) waits)))) fun _ => broken

theorem headerExpiry_moves (s : State) : Moves ok s
    (match s.vs.header.timer with
      | some t => setHeader headerExpiry (reachTime (t.start + 1000 * t.limit) s)
      | none => s) := by
  split
  · exact .after (.one (.strokeEnd _)) (reachTime_moves ..)
  · exact .refl

theorem strokeTimer_moves (k : NodeKey) (s : State) :
    Moves ok s (match strokeEnd s k with | some t => strokeExpired k (reachTime t s) | none => s) := by
  split
  · exact .after (strokeExpired_engine (c := false) ..).moves (reachTime_moves ..)
  · exact .refl

end Functions

/-! ### Every row -/

/-- Every row answers a next state, and reaches it by moves it may make. -/
theorem exec_moves (c : Instr) (s : State) : ∃ t, exec c s = .next t ∧ Moves (Allowed c s) s t := by
  have settled {t : State} (h : Moves (Allowed c s) s t) : Moves (Allowed c s) s (settle t) := h.trans (settle_moves t)
  have taken {t : State} (h : Moves (Allowed c s) s t) : Moves (Allowed c s) s (settleAll t) := h.trans (settleAll_moves t)
  cases c with
  | powerOn => exact ⟨_, rfl, settled (.one (.power s rfl))⟩
  | pinReset => exact ⟨_, rfl, settled (.one (.reset s (.inl rfl)))⟩
  | breakUpper =>
    exact ⟨_, rfl, settled (breakUpper_moves fun released waits => .inr (.inr ⟨rfl, released, waits⟩))⟩
  | breakLower cut =>
    refine ⟨_, rfl, settled ?_⟩
    split
    · exact recordError_moves ..
    · exact .refl
  | periodTick => exact ⟨_, rfl, settled (periodTick_moves s)⟩
  | roundStart => exact ⟨_, rfl, taken (nextRound_moves (.inr (.inl rfl)) s)⟩
  | legRequestSent leg => exact ⟨_, rfl, settled (setLeg_moves ..)⟩
  | legReplyEnd leg bytes => exact ⟨_, rfl, taken (replyEnd_moves (.inr (.inr (.inl ⟨leg, bytes, rfl⟩))) ..)⟩
  | responseWindowExpiry leg stray =>
    exact ⟨_, rfl, taken (windowExpiry_moves (.inr (.inr (.inr (.inl ⟨leg, stray, rfl⟩)))) ..)⟩
  | legLineIdle leg after => exact ⟨_, rfl, taken (lineIdle_moves (.inr (.inr (.inr (.inr ⟨leg, after, rfl⟩)))) ..)⟩
  | alert hold => exact ⟨_, rfl, taken (alertBegins_moves ..)⟩
  | alertRelease leg => exact ⟨_, rfl, taken (setLeg_moves ..)⟩
  | strokeTimerExpiry key => exact ⟨_, rfl, taken (strokeTimer_moves ..)⟩
  | meterCount meter a b => exact ⟨_, rfl, settled (setMeter_moves ..)⟩
  | dropReportReceived port hdr payload => exact ⟨_, rfl, taken (receive_moves fun _ => (dropReport_work ..).moves)⟩
  | headerLimitChange atClosed atOpen => exact ⟨_, rfl, settled (.one (.limits ..))⟩
  | headerStrokeTimerExpiry => exact ⟨_, rfl, settled (headerExpiry_moves s)⟩
  | controllerPresenceTimeout => exact ⟨_, rfl, settled (presenceTimeout_moves s)⟩
  | trunkFrameForward port frame =>
    exact ⟨_, rfl, taken (receiveAny_moves fun upper => .inr (.inr (.inl (upper ▸ rfl))))⟩
  | trunkFrameDiscard port rx => exact ⟨_, rfl, taken receptionEnds_moves⟩
  | holdChange port held => exact ⟨_, rfl, settled (setHold_moves ..)⟩
  | upperFrameSent => exact ⟨_, rfl, settled (upperSent_moves fun f sent => .inr (.inl ⟨rfl, f, sent⟩))⟩
  | lowerFrameSent => exact ⟨_, rfl, settled (lowerSent_moves s)⟩
  | number hdr p => exact ⟨_, rfl, settled (receive_moves fun _ => .refl)⟩
  | relay hdr payload => exact ⟨_, rfl, taken (receive_moves fun _ => takeRelay_moves ..)⟩
  | undefinedCommand hdr payload =>
    exact ⟨_, rfl, taken (receiveAny_moves fun _ => .inr (.inl ⟨hdr, payload, rfl, rfl⟩))⟩
  | status hdr => exact ⟨_, rfl, settled (receiveCommand_moves fun _ => .refl)⟩
  | loadTable hdr table first service =>
    exact ⟨_, rfl, settled (.after (loadBegins_moves ..) (withService_moves ..))⟩
  | loadTableRecord bytes => exact ⟨_, rfl, settled (loadBytes_moves ..)⟩
  | loadTableEnd tail ending => exact ⟨_, rfl, settled (loadEnds_moves ..)⟩
  | readTable hdr bank table first count => exact ⟨_, rfl, settled (receiveCommand_moves fun _ => .refl)⟩
  | commit hdr service =>
    exact ⟨_, rfl, taken (.after (receiveCommand_moves fun _ => carryCommit_moves .inl) (withService_moves ..))⟩
  | discard hdr service =>
    exact ⟨_, rfl, settled (.after (receiveCommand_moves fun _ => carryDiscard_moves _) (withService_moves ..))⟩
  | protect hdr level => exact ⟨_, rfl, settled (receiveCommand_moves fun _ => carryProtect_moves ..)⟩
  | readIncidents hdr => exact ⟨_, rfl, settled (receiveCommand_moves fun _ => .refl)⟩
  | readIncident hdr id => exact ⟨_, rfl, settled (receiveCommand_moves fun _ => .refl)⟩
  | isolate hdr branch => exact ⟨_, rfl, taken (receiveCommand_moves fun _ => carryIsolate_moves ..)⟩
  | release hdr id => exact ⟨_, rfl, taken (receiveCommand_moves fun _ => carryRelease_moves ..)⟩
  | headerClose hdr => exact ⟨_, rfl, settled (receiveCommand_moves fun _ => carryHeaderClose_moves _)⟩
  | headerOpen hdr =>
    refine ⟨_, rfl, settled (receiveCommand_moves fun here => carryHeaderOpen_moves fun free => ?_)⟩
    obtain ⟨released, p, position, dest⟩ := takenHere_upper here
    exact ⟨free, released, _, p, .inl ⟨hdr, rfl, rfl⟩, rfl, rfl, position, dest⟩
  | exerciseStart hdr first count => exact ⟨_, rfl, taken (receiveCommand_moves fun _ => carryExerciseStart_moves ..)⟩
  | exerciseSuspend hdr => exact ⟨_, rfl, settled (receiveCommand_moves fun _ => manualExercise_moves ..)⟩
  | exerciseResume hdr => exact ⟨_, rfl, taken (receiveCommand_moves fun _ => manualExercise_moves ..)⟩
  | exerciseAbort hdr => exact ⟨_, rfl, settled (receiveCommand_moves fun _ => carryExerciseAbort_moves _)⟩
  | readExercise hdr => exact ⟨_, rfl, settled (receiveCommand_moves fun _ => .refl)⟩
  | discover hdr leg => exact ⟨_, rfl, taken (receiveCommand_moves fun _ => discoverLeg_moves ..)⟩
  | readPresence hdr leg => exact ⟨_, rfl, settled (receiveCommand_moves fun _ => .refl)⟩
  | readValves hdr first => exact ⟨_, rfl, settled (receiveCommand_moves fun _ => .refl)⟩
  | unitReset hdr => exact ⟨_, rfl, settled (receiveCommand_moves fun _ => .refl)⟩
  | consumedFrameDiscarded port frame =>
    exact ⟨_, rfl, taken (receiveAny_moves fun upper => .inr (.inr (.inr (.inl (upper ▸ rfl)))))⟩
  | upperBreakRelease => exact ⟨_, rfl, settled (.trunkSame s _ rfl rfl rfl rfl rfl)⟩
  | lowerBreakSentEnd => exact ⟨_, rfl, settled (lowerBreakEnd_moves s)⟩

theorem moves_of_exec {c : Instr} {s t : State} (h : exec c s = .next t) : Moves (Allowed c s) s t := by
  obtain ⟨u, next, moves⟩ := exec_moves c s
  rw [next] at h
  cases h
  exact moves

/-- A step is a chain of moves from the state with the rest of the queue. -/
theorem moves_of_step {s t : State} (h : step s = .next t) :
    ∃ queue, Moves (fun _ => True) { s with pending := queue } t := by
  unfold step at h
  split at h
  next empty =>
    cases h
    exact ⟨[], .one (by rw [← empty]; exact .time s 1)⟩
  next c rest _ =>
    exact ⟨rest, (moves_of_exec h).mono fun _ _ => trivial⟩

end Sys2Proof.Machine
end

section
/-! The rules over every step and every command that hold move by move: queues, header outputs, capacities, banks, guard
level, position. -/

open Sys2Proof Sys2Proof.Machine

namespace Sys2Proof.Machine

/-! ### The queue of commands -/

theorem Move.pending {ok : Special → Prop} {s t : State} (h : Move ok s t) : t.pending = s.pending := by
  cases h with
  | work h => rw [(Work.act h).frame]
  | _ => rfl

theorem Moves.pending {ok : Special → Prop} {s t : State} (h : Moves ok s t) : t.pending = s.pending :=
  h.keeps (P := fun u => u.pending = s.pending) (fun _ _ move ih => move.pending.trans ih) rfl

/-! ### Action Queues -/

/-- Each Action Queue of the block holds at most 8 entries. -/
def QueuesShort (v : ValveBlock) : Prop := ∀ l : Leg, (quadGet v.queues l).length ≤ 8

section Queues

variable {v : ValveBlock}

theorem quadSet_short {q : Quad (List ActionEntry)} (h : ∀ l, (quadGet q l).length ≤ 8) (l : Leg) {x : List ActionEntry}
    (hx : x.length ≤ 8) (m : Leg) : (quadGet (quadSet q l x) m).length ≤ 8 := by
  by_cases e : m = l
  · rw [e, quadGet_quadSet]
    exact hx
  · rw [quadGet_quadSet_ne q x e]
    exact h m

theorem refillOnce_short (h : QueuesShort v) (l : Leg) : QueuesShort (refillOnce l v) := by
  unfold refillOnce
  split
  next room =>
    split
    · exact h
    · dsimp only
      split
      · split
        · exact quadSet_short h l (by rw [List.length_append]; exact room)
        · exact h
      · exact h
  · exact h

theorem refill_short (l : Leg) (n : Nat) (h : QueuesShort v) : QueuesShort (refill l n v) := by
  induction n generalizing v with
  | zero => exact h
  | succ n ih => exact ih (refillOnce_short h l)

theorem placeCommand_short (k : NodeKey) (t : ValveTarget) (tag : Byte) (h : QueuesShort v) :
    QueuesShort (placeCommand k t tag v) := by
  simp only [placeCommand]
  split
  · exact quadSet_short h _ (by rw [List.length_map]; exact h _)
  split
  · exact h
  split
  next room => exact quadSet_short h _ (by rw [List.length_append]; exact room)
  · exact h

theorem dropCommand_short (k : NodeKey) (h : QueuesShort v) : QueuesShort (dropCommand k v) :=
  refill_short _ _ (quadSet_short h _ ((List.length_filter_le ..).trans (h _)))

theorem issue_short (k : NodeKey) (t : ValveTarget) (h : QueuesShort v) : QueuesShort (issue k t v) := by
  unfold issue
  split
  · exact h
  · split
    · exact h
    · exact placeCommand_short _ _ _ h

theorem takeHead_short {l : Leg} {e : ActionEntry} {w : ValveBlock} (taken : takeHead l v = some (e, w))
    (h : QueuesShort v) : QueuesShort w := by
  unfold takeHead at taken
  split at taken
  · cases taken
  next queue =>
    cases taken
    exact refill_short _ _ (quadSet_short h _ (shorter queue (h l)))

theorem TestAct.short {s t : State} (act : TestAct s t) (h : QueuesShort s.vs) : QueuesShort t.vs := by
  cases act with
  | book => exact h
  | start i k limit => exact issue_short _ _ h

theorem Act.short {c : Bool} {s t : State} (act : Act c s t) (h : QueuesShort s.vs) : QueuesShort t.vs := by
  cases act with
  | test act => exact act.short h
  | issued => exact issue_short _ _ h
  | placed => exact placeCommand_short _ _ _ h
  | dropped => exact dropCommand_short _ h
  | opened opened => rw [(openIncident_eq_some_iff.mp opened).2.2]; exact h
  | _ => exact h

theorem carryValves_short (b : Bank) (h : QueuesShort v) : QueuesShort (carryValves b v) := by
  simp only [carryValves]
  refine List.foldlRecOn allLegs _ (fun l => ?_) fun v hv l _ => refill_short l 8 hv
  fin_cases l
  · exact (List.length_filter_le ..).trans (h 0)
  · exact (List.length_filter_le ..).trans (h 1)
  · exact (List.length_filter_le ..).trans (h 2)
  · exact (List.length_filter_le ..).trans (h 3)

theorem carryOver_vs (s : State) : (carryOver s).vs = carryValves s.ts.staging s.vs := by unfold carryOver; with_reducible rfl

theorem short_of_empty (h : v.queues = ⟨[], [], [], []⟩) : QueuesShort v := fun l => by
  rw [h]
  fin_cases l <;> exact Nat.zero_le 8

theorem Move.short {ok : Special → Prop} {s t : State} (move : Move ok s t) (h : QueuesShort s.vs) : QueuesShort t.vs := by
  cases move with
  | work act =>
    cases act with
    | engine act => exact act.short h
    | _ => exact h
  | taken l e v taken => exact takeHead_short taken h
  | switched => rw [carryOver_vs]; exact carryValves_short _ h
  | reset => exact short_of_empty rfl
  | power => exact short_of_empty rfl
  | _ => exact h

end Queues

/-! ### The header drive -/

/-- The outputs, the stroke timer and HEADER_FAULT agree with the drive state. -/
def HeaderSound (h : HeaderDrive) : Prop :=
  h.closeReq = decide (h.state = .closing) ∧ h.openReq = decide (h.state = .opening) ∧
    (h.timer.isSome → h.state = .closing ∨ h.state = .opening) ∧ h.fault.active = decide (h.state = .fault)

section Header

variable {h : HeaderDrive}

theorem enterHeader_sound {st : HeaderState} {detail : Nat} {timer : Option Timer} (sound : HeaderSound h)
    (driven : timer.isSome → st = .closing ∨ st = .opening) : HeaderSound (enterHeader st detail timer h) := by
  obtain ⟨_, _, _, fault⟩ := sound
  refine ⟨rfl, rfl, driven, ?_⟩
  simp only [enterHeader]
  split
  next entered =>
    split
    next stayed => exact fault.trans (by rw [decide_eq_true stayed]; exact (decide_eq_true entered).symm)
    · exact (decide_eq_true entered).symm
  next left =>
    split
    · exact (decide_eq_false left).symm
    next never => exact fault.trans (by rw [decide_eq_false never]; exact (decide_eq_false left).symm)

theorem completeAtOnce_sound (sound : HeaderSound h) : HeaderSound (completeAtOnce h) := by
  unfold completeAtOnce
  split
  · exact enterHeader_sound sound nofun
  · split
    · exact enterHeader_sound sound nofun
    · exact sound

theorem closeHeader_sound (clock limit : Nat) (sound : HeaderSound h) : HeaderSound (closeHeader clock limit h).1 := by
  unfold closeHeader
  split
  · exact sound
  · exact sound
  · split
    · exact sound
    · exact completeAtOnce_sound (enterHeader_sound sound fun _ => .inl rfl)

theorem openHeader_sound (clock limit : Nat) (sound : HeaderSound h) : HeaderSound (openHeader clock limit h).1 := by
  unfold openHeader
  split
  · exact sound
  · exact sound
  · split
    · exact sound
    · exact completeAtOnce_sound (enterHeader_sound sound fun _ => .inr rfl)

theorem headerLimits_sound (atClosed atOpen : Bool) (sound : HeaderSound h) : HeaderSound (headerLimits atClosed atOpen h) := by
  have read : HeaderSound { h with atClosed := atClosed, atOpen := atOpen } := sound
  simp only [headerLimits]
  split
  iterate 2
    split
    · exact enterHeader_sound read nofun
    · split
      · exact enterHeader_sound read nofun
      · exact read
  · exact read
  · exact enterHeader_sound read nofun

theorem headerExpiry_sound (sound : HeaderSound h) : HeaderSound (headerExpiry h) := by
  unfold headerExpiry
  split
  · exact enterHeader_sound sound nofun
  · exact enterHeader_sound sound nofun
  · exact sound

theorem headerReset_sound (h : HeaderDrive) : HeaderSound (headerReset h) := by
  unfold HeaderSound headerReset
  cases h.atClosed <;> cases h.atOpen <;> exact ⟨rfl, rfl, nofun, rfl⟩

theorem completeAtOnce_openReq (asserted : (completeAtOnce h).openReq = true) : h.openReq = true := by
  unfold completeAtOnce at asserted
  split at asserted
  · cases asserted
  · split at asserted
    · cases asserted
    · exact asserted

/-- A close request asserts OPEN_REQ at no time. -/
theorem closeHeader_openReq {clock limit : Nat} (asserted : (closeHeader clock limit h).1.openReq = true) :
    h.openReq = true := by
  unfold closeHeader at asserted
  split at asserted
  · exact asserted
  · exact asserted
  · split at asserted
    · exact asserted
    · cases completeAtOnce_openReq asserted

theorem headerReading_ne_opening (atClosed atOpen : Bool) : headerReading atClosed atOpen ≠ .opening := by
  cases atClosed <;> cases atOpen <;> nofun

theorem headerLimits_openReq {atClosed atOpen : Bool} (asserted : (headerLimits atClosed atOpen h).openReq = true) :
    h.openReq = true := by
  simp only [headerLimits] at asserted
  split at asserted
  iterate 2
    split at asserted
    · cases asserted
    · split at asserted
      · cases asserted
      · exact asserted
  · exact asserted
  · exact absurd (of_decide_eq_true asserted) (headerReading_ne_opening atClosed atOpen)

theorem headerExpiry_openReq (asserted : (headerExpiry h).openReq = true) : h.openReq = true := by
  unfold headerExpiry at asserted
  split at asserted
  · cases asserted
  · cases asserted
  · exact asserted

end Header

section HeaderOfState

theorem refillOnce_header (l : Leg) (v : ValveBlock) : (refillOnce l v).header = v.header := by
  unfold refillOnce
  split
  · split
    · rfl
    · dsimp only
      split
      · split <;> rfl
      · rfl
  · rfl

theorem refill_header (l : Leg) (n : Nat) (v : ValveBlock) : (refill l n v).header = v.header := by
  induction n generalizing v with
  | zero => rfl
  | succ n ih => exact (ih _).trans (refillOnce_header l v)

theorem placeCommand_header (k : NodeKey) (t : ValveTarget) (tag : Byte) (v : ValveBlock) :
    (placeCommand k t tag v).header = v.header := by
  simp only [placeCommand]
  split
  · rfl
  split
  · rfl
  split <;> rfl

theorem dropCommand_header (k : NodeKey) (v : ValveBlock) : (dropCommand k v).header = v.header := refill_header ..

theorem issue_header (k : NodeKey) (t : ValveTarget) (v : ValveBlock) : (issue k t v).header = v.header := by
  unfold issue
  split
  · rfl
  · split
    · rfl
    · exact placeCommand_header ..

theorem takeHead_header {l : Leg} {e : ActionEntry} {v w : ValveBlock} (taken : takeHead l v = some (e, w)) :
    w.header = v.header := by
  unfold takeHead at taken
  split at taken
  · cases taken
  · cases taken
    exact refill_header ..

theorem carryValves_header (b : Bank) (v : ValveBlock) : (carryValves b v).header = v.header := by
  simp only [carryValves]
  exact List.foldlRecOn (motive := fun w : ValveBlock => w.header = v.header) allLegs _ rfl fun w hw l _ =>
    (refill_header l 8 w).trans hw

/-- The engines move the header drive by close requests alone. -/
theorem Act.header_cases {c : Bool} {s t : State} (act : Act c s t) : t.vs.header = s.vs.header ∨
    ∃ clock limit, t.vs.header = (closeHeader clock limit s.vs.header).1 := by
  cases act with
  | test act =>
    cases act with
    | book => exact .inl rfl
    | start => exact .inl (issue_header ..)
  | issued => exact .inl (issue_header ..)
  | placed => exact .inl (placeCommand_header ..)
  | dropped => exact .inl (dropCommand_header ..)
  | header clock limit => exact .inr ⟨clock, limit, rfl⟩
  | opened opened => rw [(openIncident_eq_some_iff.mp opened).2.2]; exact .inl rfl
  | _ => exact .inl rfl

theorem WorkAct.header_cases {s t : State} (act : WorkAct s t) : t.vs.header = s.vs.header ∨
    ∃ clock limit, t.vs.header = (closeHeader clock limit s.vs.header).1 := by
  cases act with
  | engine act => exact act.header_cases
  | _ => exact .inl rfl

theorem Move.headerSound {ok : Special → Prop} {s t : State} (move : Move ok s t) (sound : HeaderSound s.vs.header) :
    HeaderSound t.vs.header := by
  cases move with
  | work act =>
    obtain same | ⟨clock, limit, closed⟩ := act.header_cases
    · rw [same]; exact sound
    · rw [closed]; exact closeHeader_sound _ _ sound
  | taken l e v taken => rw [takeHead_header taken]; exact sound
  | limits => exact headerLimits_sound _ _ sound
  | strokeEnd => exact headerExpiry_sound sound
  | unpended => exact sound
  | headerOpen => exact openHeader_sound _ _ sound
  | switched => rw [carryOver_vs, carryValves_header]; exact sound
  | reset => exact headerReset_sound _
  | power => exact headerReset_sound _
  | _ => exact sound

/-- Only a HEADER OPEN asserts OPEN_REQ. -/
theorem Move.openReq {ok : Special → Prop} {s t : State} (move : Move ok s t) (asserted : t.vs.header.openReq = true) :
    s.vs.header.openReq = true ∨ ok .headerOpen := by
  cases move with
  | work act =>
    obtain same | ⟨clock, limit, closed⟩ := act.header_cases
    · exact .inl (same ▸ asserted)
    · exact .inl (closeHeader_openReq (closed ▸ asserted))
  | taken l e v taken => exact .inl (takeHead_header taken ▸ asserted)
  | limits => exact .inl (headerLimits_openReq asserted)
  | strokeEnd => exact .inl (headerExpiry_openReq asserted)
  | unpended => exact .inl asserted
  | headerOpen _ _ h => exact .inr h
  | switched => rw [carryOver_vs, carryValves_header] at asserted; exact .inl asserted
  | reset => cases asserted
  | power => cases asserted
  | _ => exact .inl asserted

end HeaderOfState

/-! ### Incidents and evidence -/

section Incidents

variable {s t : State}

theorem Within.bounds {i : Incident} (within : Within s i)
    (bounds : ∀ j ∈ s.ie.incidents, j.members.length ≤ 8 ∧ j.rows.length ≤ 4) : i.members.length ≤ 8 ∧ i.rows.length ≤ 4 :=
  ⟨within.1.elim id fun ⟨j, hj, le⟩ => le.trans (bounds j hj).1, within.2.elim id fun ⟨j, hj, le⟩ => le.trans (bounds j hj).2⟩

theorem pushCleared_length {c : Cleared} {q : List Cleared} (h : q.length ≤ 16) : (pushCleared c q).length ≤ 16 := by
  unfold pushCleared
  rw [List.length_append, List.length_singleton]
  split
  · rw [List.length_drop]; omega
  · omega

theorem Act.incidentBounds {c : Bool} (act : Act c s t) (good : goodBank s.ts.active) (bounds : IncidentBounds s) :
    IncidentBounds t := by
  obtain ⟨table, queue, each⟩ := bounds
  cases act with
  | test act => cases act <;> exact ⟨table, queue, each⟩
  | record id f within =>
    refine ⟨(List.length_map _).trans_le table, queue, fun i hi => ?_⟩
    obtain ⟨j, hj, rfl⟩ := List.mem_map.mp hi
    split
    · exact (within j hj).bounds each
    · exact each j hj
  | aside e hi hc => exact ⟨hi ▸ table, hc ▸ queue, hi ▸ each⟩
  | copied reports =>
    refine ⟨(List.length_map _).trans_le table, queue, fun i hi => ?_⟩
    obtain ⟨j, hj, rfl⟩ := List.mem_map.mp hi
    exact ⟨(each j hj).1, (List.length_map _).trans_le (each j hj).2⟩
  | opened opened small =>
    obtain ⟨room, rfl, rfl⟩ := openIncident_eq_some_iff.mp opened
    refine ⟨(List.length_append).trans_le room, queue, fun i hi => ?_⟩
    obtain old | new := List.mem_append.mp hi
    · exact each i old
    · obtain rfl := List.mem_singleton.mp new
      refine ⟨small.1.elim (fun one => one.trans (by decide)) fun ⟨p, hp, le⟩ => ?_, small.2.trans (by decide)⟩
      obtain ⟨-, -, -, -, -, -, -, -, cands, -⟩ := good.2.2.1 p hp
      exact (le.trans cands).trans (by decide)
  | freed =>
    exact ⟨(List.length_filter_le ..).trans table, pushCleared_length queue, fun i hi => each i (List.mem_filter.mp hi).1⟩
  | _ => exact ⟨table, queue, each⟩

theorem Act.evidenceBounds {c : Bool} (act : Act c s t) (flows : FlowBounded s.fa) (drips : ScoresBounded s.de) :
    FlowBounded t.fa ∧ ScoresBounded t.de := by
  cases act with
  | test act => cases act <;> exact ⟨flows, drips⟩
  | opened opened =>
    obtain ⟨-, -, rfl⟩ := openIncident_eq_some_iff.mp opened
    exact ⟨flows, drips⟩
  | scored => exact ⟨flows, forall_mem_assocMap (P := ScoreBounded) (fun _ _ => Nat.zero_le 255) drips⟩
  | lost =>
    exact ⟨⟨forall_mem_assocMap (P := LossBounded) (fun _ _ => ⟨Nat.zero_le 65535, Nat.zero_le 59999⟩) flows.1, flows.2⟩,
      drips⟩
  | headerLost => exact ⟨⟨flows.1, Nat.zero_le 65535, Nat.zero_le 59999⟩, drips⟩
  | _ => exact ⟨flows, drips⟩

/-- Records kept by identity, or begun, keep what both the old ones and the fresh one have. -/
theorem forall_mem_carried {α κ ρ : Type} [DecidableEq κ] {P : ρ → Prop} {old : List (κ × ρ)} {fresh : ρ}
    (keys : List (α × κ)) (hf : P fresh) (h : ∀ p ∈ old, P p.2) :
    ∀ p ∈ keys.map (fun q => (q.2, (assocGet q.2 old).getD fresh)), P p.2 := by
  intro p hp
  obtain ⟨q, -, rfl⟩ := List.mem_map.mp hp
  cases found : assocGet q.2 old with
  | none => exact hf
  | some x => exact h _ (mem_of_assocGet found)

/-- What `IncidentsAndEvidenceKeepTheirBounds` says of a state, with the banks it rests on. -/
structure Bounded (s : State) : Prop where
  incidents : IncidentBounds s
  flows : FlowBounded s.fa
  drips : ScoresBounded s.de
  banks : goodBank s.ts.active ∧ goodBank s.ts.staging

theorem goodBank_empty : goodBank Bank.empty := ⟨nofun, nofun, nofun, nofun⟩

theorem resetBlocks_bounded (g : Guard) (legs : LegEngine → LegEngine) (trunk : TrunkBlock) (s : State) :
    Bounded (resetBlocks g legs trunk s) where
  incidents := ⟨Nat.zero_le 8, Nat.zero_le 16, fun _ h => absurd h List.not_mem_nil⟩
  flows := ⟨fun _ h => absurd h List.not_mem_nil, Nat.zero_le 65535, Nat.zero_le 59999⟩
  drips := fun _ h => absurd h List.not_mem_nil
  banks := ⟨goodBank_empty, goodBank_empty⟩

theorem Move.bounded {ok : Special → Prop} (move : Move ok s t) (h : Bounded s) : Bounded t := by
  obtain ⟨incidents, flows, drips, banks⟩ := h
  cases move with
  | work act =>
    cases act with
    | engine act =>
      obtain ⟨flows, drips⟩ := act.evidenceBounds flows drips
      exact ⟨act.incidentBounds banks.1 incidents, flows, drips, (Engine.act act).frame ▸ banks⟩
    | flows x bounded => exact ⟨incidents, bounded flows, drips, banks⟩
    | drips x bounded => exact ⟨incidents, flows, bounded drips, banks⟩
    | _ => exact ⟨incidents, flows, drips, banks⟩
  | reported c rest queue => exact ⟨⟨incidents.1, shorter queue incidents.2.1, incidents.2.2⟩, flows, drips, banks⟩
  | stored x _ _ _ hb => exact ⟨incidents, flows, drips, hb.2 banks⟩
  | switched =>
    exact ⟨incidents, ⟨forall_mem_carried (P := LossBounded) _ ⟨Nat.zero_le 65535, Nat.zero_le 59999⟩ flows.1, flows.2⟩,
      forall_mem_carried (P := ScoreBounded) _ (Nat.zero_le 255) drips, banks.2, banks.2⟩
  | reset => exact resetBlocks_bounded ..
  | power =>
    obtain ⟨incidents, flows, drips, banks⟩ := resetBlocks_bounded .opened (fun _ => .reset) .reset s
    exact ⟨incidents, flows, drips, banks⟩
  | _ => exact ⟨incidents, flows, drips, banks⟩

end Incidents

end Sys2Proof.Machine
end

section
/-! The invariants of every step and the rules over every command that the moves give. -/

namespace Sys2Proof.Machine

open Sys2Proof

section Moves

variable {ok : Special → Prop} {s t : State}

/-! ### The trunk, the banks, the guard level and the position -/

theorem Work.sameTrunk (h : Work s t) : t.ti = s.ti := by rw [h.frame]

theorem Work.sameTables (h : Work s t) : t.ts = s.ts := by rw [h.frame]

theorem Move.trunkBounded (move : Move ok s t) (h : TrunkBounded s.ti) : TrunkBounded t.ti := by
  cases move with
  | work act => rw [(Work.act act).sameTrunk]; exact h
  | time d => exact ⟨h.1, h.2.1, h.2.2.1, min_le_left ..⟩
  | trunk x hb => exact hb h
  | reset => exact ⟨Nat.zero_le 8, Nat.zero_le 8, Nat.zero_le 8, Nat.zero_le 61000⟩
  | power => exact ⟨Nat.zero_le 8, Nat.zero_le 8, Nat.zero_le 8, Nat.zero_le 61000⟩
  | _ => exact h

theorem wf_empty : Bank.empty.wf = true := rfl

theorem Move.banks (move : Move ok s t) (h : BanksWf s ∧ BanksGood s) : BanksWf t ∧ BanksGood t := by
  cases move with
  | work act => unfold BanksWf BanksGood; rw [(Work.act act).sameTables]; exact h
  | stored x _ _ _ hb => exact ⟨hb.1 h.1, hb.2 h.2⟩
  | switched => exact ⟨⟨h.1.2, h.1.2⟩, h.2.2, h.2.2⟩
  | reset => exact ⟨⟨wf_empty, wf_empty⟩, goodBank_empty, goodBank_empty⟩
  | power => exact ⟨⟨wf_empty, wf_empty⟩, goodBank_empty, goodBank_empty⟩
  | _ => exact h

/-- A move lowers the guard level only at power-on, or at a reset from SERVICE to OPEN. -/
theorem Move.guard (move : Move ok s t) : guardRank s.ts.guard ≤ guardRank t.ts.guard ∨ ok .power ∨
    (s.ts.guard = .service ∧ t.ts.guard = .opened ∧ ok .reset) := by
  cases move with
  | work act => rw [(Work.act act).sameTables]; exact .inl le_rfl
  | stored x _ _ hg => exact .inl hg
  | power h => exact .inr (.inl h)
  | reset h =>
    have after : (resetUnit s).ts.guard = resetGuard s.ts.guard := rfl
    rw [after]
    cases level : s.ts.guard with
    | opened => exact .inl le_rfl
    | service => exact .inr (.inr ⟨rfl, rfl, h⟩)
    | fixed => exact .inl le_rfl
  | _ => exact .inl le_rfl

/-- From SERVICE a level below it is OPEN, whatever follows a reset is OPEN or not below SERVICE. -/
theorem guardRank_service_le (g : Guard) : g = .opened ∨ guardRank .service ≤ guardRank g := by
  cases g
  · exact .inl rfl
  · exact .inr le_rfl
  · exact .inr (by decide)

theorem eq_service_or_rank_le {g h : Guard} (low : guardRank g ≤ guardRank h) (service : h = .service) :
    g = .service ∨ g = .opened := by
  subst service
  cases g
  · exact .inr rfl
  · exact .inl rfl
  · exact absurd low (by decide)

theorem Moves.guard (moves : Moves ok s t) : guardRank s.ts.guard ≤ guardRank t.ts.guard ∨ ok .power ∨
    (s.ts.guard = .service ∧ t.ts.guard = .opened ∧ ok .reset) := by
  refine moves.keeps (P := fun t => guardRank s.ts.guard ≤ guardRank t.ts.guard ∨ ok .power ∨
    (s.ts.guard = .service ∧ t.ts.guard = .opened ∧ ok .reset)) (fun u v move ih => ?_) (.inl le_rfl)
  rcases ih with kept | power | ⟨service, opened, reset⟩
  · rcases move.guard with kept' | power | ⟨service, opened, reset⟩
    · exact .inl (kept.trans kept')
    · exact .inr (.inl power)
    · rcases eq_service_or_rank_le kept service with was | was
      · exact .inr (.inr ⟨was, opened, reset⟩)
      · exact .inl (was ▸ Nat.zero_le _)
  · exact .inr (.inl power)
  · rcases guardRank_service_le v.ts.guard with opened' | above
    · exact .inr (.inr ⟨service, opened', reset⟩)
    · exact .inl (service ▸ above)

/-- Without a reset or power-on, active tables stay and so does the position they hold. -/
theorem Moves.held (moves : Moves ok s t) (noReset : ¬ ok .reset) (noPower : ¬ ok .power) (active : s.ts.activeFlag = true) :
    t.ts.activeFlag = true ∧ t.ti.position = s.ti.position := by
  refine moves.keeps (P := fun t => t.ts.activeFlag = true ∧ t.ti.position = s.ti.position) (fun u v move ih => ?_)
    ⟨active, rfl⟩
  obtain ⟨active, same⟩ := ih
  cases move with
  | work act => rw [(Work.act act).sameTables, (Work.act act).sameTrunk]; exact ⟨active, same⟩
  | trunk x _ hp => exact ⟨active, hp.trans same⟩
  | numbered p inactive => rw [active] at inactive; cases inactive
  | stored x _ hf => exact ⟨hf.trans active, same⟩
  | switched => exact ⟨rfl, same⟩
  | reset h => exact absurd h noReset
  | power h => exact absurd h noPower
  | _ => exact ⟨active, same⟩

end Moves

/-! ### The statements -/

/-- Settles O3: every row answers a next state by moves, and no move touches the queue. -/
theorem everyCommandCompletesAndLeavesTheQueue : Obligations.EveryCommandCompletesAndLeavesTheQueue := by
  intro c s
  obtain ⟨t, next, moves⟩ := exec_moves c s
  exact ⟨t, next, moves.pending⟩

/-- Settles O5, move by move. -/
theorem queuesNeverOverflow : Obligations.QueuesNeverOverflow := by
  intro s t fifos presence queues next
  obtain ⟨queue, moves⟩ := moves_of_step next
  obtain ⟨trunk, short⟩ := moves.keeps (P := fun u => TrunkBounded u.ti ∧ QueuesShort u.vs)
    (fun _ _ move h => ⟨move.trunkBounded h.1, move.short h.2⟩) ⟨⟨fifos.1, fifos.2.1, fifos.2.2, presence⟩, queues⟩
  exact ⟨⟨trunk.1, trunk.2.1, trunk.2.2.1⟩, trunk.2.2.2, short⟩

/-- Settles O6, move by move. -/
theorem headerOutputsAgreeWithItsState : Obligations.HeaderOutputsAgreeWithItsState := by
  intro s t safe fault next
  obtain ⟨queue, moves⟩ := moves_of_step next
  obtain ⟨closeReq, openReq, timer, active⟩ := moves.keeps (P := fun u => HeaderSound u.vs.header)
    (fun _ _ move h => move.headerSound h) ⟨safe.1, safe.2.1, safe.2.2, fault⟩
  exact ⟨⟨closeReq, openReq, timer⟩, active⟩

/-- Settles O8, move by move; the banks' own ranges bound what an incident is opened with. -/
theorem incidentsAndEvidenceKeepTheirBounds : Obligations.IncidentsAndEvidenceKeepTheirBounds := by
  intro s t incidents evidence banks next
  obtain ⟨flows, drips⟩ := (evidenceBounds_iff s).mp evidence
  obtain ⟨queue, moves⟩ := moves_of_step next
  have bounded : Bounded t := moves.keeps (fun _ _ move h => move.bounded h) ⟨incidents, flows, drips, banks⟩
  exact ⟨bounded.incidents, (evidenceBounds_iff t).mpr ⟨bounded.flows, bounded.drips⟩⟩

/-- Settles O9, move by move: a bank changes by records in range at indexes of their table. -/
theorem banksStayWellFormed : Obligations.BanksStayWellFormed := by
  intro s t wf good next
  obtain ⟨queue, moves⟩ := moves_of_step next
  exact moves.keeps (P := fun u => BanksWf u ∧ BanksGood u) (fun _ _ move h => move.banks h) ⟨wf, good⟩

/-- Settles O11, move by move: only the special moves lower the level, and each row's special moves are known. -/
theorem guardNeverFalls : Obligations.GuardNeverFalls := fun _ _ _ next => (moves_of_exec next).guard

/-- Settles O14: no move but HEADER OPEN asserts OPEN_REQ. -/
theorem onlyHeaderOpenDrivesTheHeaderOpen : Obligations.OnlyHeaderOpenDrivesTheHeaderOpen := by
  intro c s t next released asserted
  have opened := (moves_of_exec next).keeps
    (P := fun u => u.vs.header.openReq = true → s.vs.header.openReq = true ∨ Allowed c s .headerOpen)
    (fun _ _ move ih h => (move.openReq h).elim ih .inr) .inl asserted
  exact opened.elim (fun h => by rw [released] at h; cases h) id

end Sys2Proof.Machine
end

section
/-! The end of a step, and the resets. -/

namespace Sys2Proof.Machine

open Sys2Proof

/-! ### The end of a step -/

theorem settle_ts (s : State) : (settle s).ts = s.ts := by
  have same := congrArg State.ts (quiet_settle s)
  exact same

theorem settle_number (s : State) : (settle s).rt.number = s.rt.number := by
  have same := congrArg (fun u : State => u.rt.number) (quiet_settle s)
  exact same

theorem setOutputs_follow (s : State) : OutputsFollow (setOutputs s) := ⟨rfl, rfl, rfl⟩

/-- Every row ends with `settle`. -/
theorem exec_settles (c : Instr) (s : State) : ∃ u, exec c s = .next (settle u) := by
  cases c <;> exact ⟨_, rfl⟩

theorem grantUpper_of_pickUpper_none {s : State} (h : pickUpper s = none) : grantUpper s = s := by
  unfold grantUpper
  rw [h]
  exact ite_self s

theorem grantLower_of_pickLower_none {s : State} (h : pickLower s = none) : grantLower s = s := by
  unfold grantLower
  rw [h]
  exact ite_self s

theorem settle_of_nothing_waits {s : State} (upper : pickUpper s = none) (lower : pickLower s = none) :
    settle s = setOutputs s := by
  unfold settle
  rw [grantUpper_of_pickUpper_none upper, grantLower_of_pickLower_none lower]

/-! ### Resets -/

section Resets

variable (s : State)

theorem pickUpper_resetUnit : pickUpper (resetUnit s) = none := rfl

theorem pickLower_resetUnit : pickLower (resetUnit s) = none := rfl

theorem headerReset_eq (h : HeaderDrive) : headerReset h =
    { state := headerReading h.atClosed h.atOpen, closeReq := false, openReq := false, atClosed := h.atClosed,
      atOpen := h.atOpen, timer := none, fault := if h.atClosed ∧ h.atOpen then ⟨true, 3, true⟩ else .clear } := by
  unfold headerReset raise
  simp only [Bool.and_eq_true]

theorem settle_resetUnit : settle (resetUnit s) = resetLeaves s := by
  rw [settle_of_nothing_waits (pickUpper_resetUnit s) (pickLower_resetUnit s)]
  unfold resetLeaves
  rw [← headerReset_eq]
  rfl

theorem settle_powerUp :
    settle (powerUp s) = { resetLeaves s with clock := 0, le := State.reset.le, ts := .reset, ti := .reset } := by
  rw [settle_of_nothing_waits (s := powerUp s) rfl rfl]
  unfold resetLeaves
  rw [← headerReset_eq]
  rfl

/-- A row that resets the unit leaves what the reset of some state leaves, and the guard level follows the row's. -/
theorem exec_of_resetsUnit {c : Instr} {s : State} (h : ResetsUnit c s) :
    ∃ u, u.ts = s.ts ∧ exec c s = .next (settle (resetUnit u)) := by
  rcases h with rfl | ⟨rfl, f, sent⟩ | ⟨rfl, released, waits⟩
  · exact ⟨s, rfl, rfl⟩
  · refine ⟨{ s with ti := { s.ti with upperTx := none } }, rfl, ?_⟩
    simp only [exec, execUpperFrameSent, upperSent, sent, if_true]
  · refine ⟨{ s with
        ti := breakTrunk s.clock s.ti, le := { s.le with legs := mapLegs (fun _ e => dropRelay e) s.le.legs } }, rfl, ?_⟩
    simp only [exec, execBreakUpper, breakUpper, released, waits, if_true, Bool.false_eq_true, if_false]

end Resets

/-! ### The statements -/

/-- Settles O1. -/
theorem stepTakesTheFrontOfTheQueue : Obligations.StepTakesTheFrontOfTheQueue := fun _ _ _ => rfl

/-- Settles O2: the presence timer rises by one below its stop, and stands at it else. -/
theorem emptyQueueLetsAMillisecondPass : Obligations.EmptyQueueLetsAMillisecondPass := by
  intro s empty
  have timer : min 61000 (s.ti.presenceTimer + 1) =
      if s.ti.presenceTimer < 61000 then s.ti.presenceTimer + 1 else 61000 := by split <;> omega
  rw [← timer]
  unfold step
  split
  · rfl
  next waiting => rw [empty] at waiting; cases waiting

/-- Settles O4, field by field of the reset state. -/
theorem invariantsHoldAtReset : Obligations.InvariantsHoldAtReset := by
  have empty : goodBank Bank.empty := goodBank_empty
  refine ⟨⟨Nat.zero_le 8, Nat.zero_le 8, Nat.zero_le 8⟩, Nat.zero_le 61000, ⟨rfl, rfl, nofun⟩, rfl, ⟨rfl, rfl, rfl⟩,
    ⟨Nat.zero_le 8, Nat.zero_le 16, fun _ h => absurd h List.not_mem_nil⟩, ?_, ⟨rfl, rfl⟩, ⟨empty, empty⟩,
    short_of_empty rfl, legsAtRest_of_check _ (by decide)⟩
  exact ⟨fun _ h => absurd h List.not_mem_nil, Nat.zero_le 65535, Nat.zero_le 59999, fun _ h => absurd h List.not_mem_nil⟩

/-- Settles O15: after a reset no transmitter has anything to grant. -/
theorem resetsClearTheUnit : Obligations.ResetsClearTheUnit := fun s =>
  ⟨congrArg Host.Outcome.next (settle_resetUnit s), congrArg Host.Outcome.next (settle_powerUp s)⟩

/-- Settles O7: every row ends by setting the outputs, and a millisecond moves none of what they follow. -/
theorem outputsFollowTheState : Obligations.OutputsFollowTheState := by
  intro s t follow next
  unfold step at next
  split at next
  · cases next
    exact follow
  · obtain ⟨u, last⟩ := exec_settles ‹_› _
    rw [last] at next
    cases next
    exact setOutputs_follow _

/-- Settles O13: active tables hold the position through every move but a reset, and a reset clears them. -/
theorem positionHeldWhileTablesAreActive : Obligations.PositionHeldWhileTablesAreActive := by
  intro c s t active next
  by_cases power : c = .powerOn
  · subst power
    cases next
    exact .inr ⟨settle_position _, congrArg TableBlock.activeFlag (settle_ts _)⟩
  by_cases reset : ResetsUnit c s
  · obtain ⟨u, -, last⟩ := exec_of_resetsUnit reset
    rw [last] at next
    cases next
    exact .inr ⟨settle_position _, congrArg TableBlock.activeFlag (settle_ts _)⟩
  · exact .inl ((moves_of_exec next).held reset power active).2

end Sys2Proof.Machine
end

section
/-! Boundaries: what one boundary of a leg may touch, and that it leaves the leg without work (R5, R6). -/

namespace Sys2Proof.Machine

open Sys2Proof

/-- What a boundary of the leg `l` may move: the engine, the valves' records and the Action Queue of the leg, the command
slot and the reply place. -/
structure LegStep (l : Leg) (s t : State) : Prop where
  frame : t = { s with le := t.le, vs := t.vs, ti := { s.ti with slot := t.ti.slot, reply := t.ti.reply } }
  others : ∀ m, m ≠ l → legAt t m = legAt s m
  queues : ∀ m, m ≠ l → quadGet t.vs.queues m = quadGet s.vs.queues m
  slot : ∀ k f, t.ti.slot = .relay k f false → s.ti.slot = .relay k f false

section Steps

variable {l : Leg} {s t u : State}

theorem LegStep.refl : LegStep l s s := ⟨rfl, fun _ _ => rfl, fun _ _ => rfl, fun _ _ h => h⟩

theorem LegStep.trans (h : LegStep l s t) (h' : LegStep l t u) : LegStep l s u where
  frame := by
    have first := h.frame
    have second := h'.frame
    rw [first] at second
    exact second
  others m hm := (h'.others m hm).trans (h.others m hm)
  queues m hm := (h'.queues m hm).trans (h.queues m hm)
  slot k f e := h.slot k f (h'.slot k f e)

/-- `LegStep.trans` with the last part first. -/
theorem LegStep.after (h' : LegStep l t u) (h : LegStep l s t) : LegStep l s u := h.trans h'

theorem LegStep.ts (h : LegStep l s t) : t.ts = s.ts := by rw [h.frame]

theorem LegStep.rt (h : LegStep l s t) : t.rt = s.rt := by rw [h.frame]

/-- The other legs rest on. -/
theorem LegStep.rest (h : LegStep l s t) {m : Leg} (hm : m ≠ l) (rest : LegAtRest s m) : LegAtRest t m :=
  legAtRest_congr s t m (h.others m hm) (h.queues m hm) h.slot (by rw [h.ts]) rest

theorem setLeg_step (l : Leg) (f : LegEngine → LegEngine) (s : State) : LegStep l s (setLeg l f s) :=
  ⟨rfl, fun _ hm => legAt_setLeg_ne s f hm, fun _ _ => rfl, fun _ _ h => h⟩

theorem startTxn_step (l : Leg) (p : Purpose) (k : NodeKey) (f : Frame) (s : State) : LegStep l s (startTxn l p k f s) :=
  setLeg_step ..

theorem placeDue_slot (d : DueReply) (s : State) (k : NodeKey) (f : Frame) (b : Bool) : (placeDue d s).ti.slot ≠ .relay k f b := by
  unfold placeDue
  split
  · exact slotAfter_ne_relay d k f b
  · nofun

theorem placeDue_frame (d : DueReply) (s : State) : placeDue d s =
    { s with ti := { s.ti with slot := (placeDue d s).ti.slot, reply := (placeDue d s).ti.reply } } := by
  unfold placeDue
  split <;> rfl

theorem placeDue_step (d : DueReply) (s : State) : LegStep l s (placeDue d s) where
  frame := by
    unfold placeDue
    split <;> rfl
  others m _ := by rw [placeDue_frame]; rfl
  queues m _ := by rw [placeDue_frame]
  slot k f h := absurd h (placeDue_slot d s k f false)

theorem refillOnce_queues_ne {m : Leg} (hm : m ≠ l) (v : ValveBlock) :
    quadGet (refillOnce l v).queues m = quadGet v.queues m := by
  unfold refillOnce
  split
  · split
    · rfl
    · dsimp only
      split
      · split
        · exact quadGet_quadSet_ne _ _ hm
        · rfl
      · rfl
  · rfl

theorem refill_queues_ne {m : Leg} (hm : m ≠ l) (n : Nat) (v : ValveBlock) :
    quadGet (refill l n v).queues m = quadGet v.queues m := by
  induction n generalizing v with
  | zero => rfl
  | succ n ih => exact (ih _).trans (refillOnce_queues_ne hm v)

theorem takeHead_queues_ne {m : Leg} {e : ActionEntry} {v w : ValveBlock} (taken : takeHead l v = some (e, w)) (hm : m ≠ l) :
    quadGet w.queues m = quadGet v.queues m := by
  unfold takeHead at taken
  split at taken
  · cases taken
  · cases taken
    exact (refill_queues_ne hm 8 _).trans (quadGet_quadSet_ne _ _ hm)

theorem takeHead_eq_none_iff {v : ValveBlock} : takeHead l v = none ↔ quadGet v.queues l = [] := by
  unfold takeHead
  split
  next empty => exact ⟨fun _ => empty, fun _ => rfl⟩
  next queue => rw [queue]; exact ⟨nofun, nofun⟩

theorem boundaryDiscovery_step (l : Leg) (s : State) : LegStep l s (boundaryDiscovery l s) := by
  simp only [boundaryDiscovery]
  split
  · exact .after (setLeg_step ..) (startTxn_step ..)
  · exact .refl

theorem boundaryPoll_step (l : Leg) (s : State) : LegStep l s (boundaryPoll l s) := by
  simp only [boundaryPoll]
  split
  · exact .after (setLeg_step ..) (startTxn_step ..)
  · exact boundaryDiscovery_step ..

theorem boundaryRelay_step (l : Leg) (s : State) : LegStep l s (boundaryRelay l s) := by
  unfold boundaryRelay
  split
  · split
    · split
      · exact .after (boundaryPoll_step ..) (placeDue_step ..)
      · exact .after (startTxn_step ..) ⟨rfl, fun _ _ => rfl, fun _ _ => rfl, nofun⟩
    · exact boundaryPoll_step ..
  · exact boundaryPoll_step ..

theorem sweepBegun_step (l : Leg) (s : State) : LegStep l s (sweepBegun l s) := by
  simp only [sweepBegun]
  split
  · exact ⟨rfl, fun _ hm => legAt_setLeg_ne s _ hm, fun _ _ => rfl, fun _ _ h => h⟩
  · exact .refl

theorem sweepPoll_step (h : sweepPoll l s = some t) : LegStep l s t := by
  unfold sweepPoll at h
  split at h
  · split at h
    · cases h
      exact .after (setLeg_step ..) (startTxn_step ..)
    · cases h
  · cases h

theorem boundarySweep_step (l : Leg) (s : State) : LegStep l s (boundarySweep l s) := by
  simp only [boundarySweep]
  split
  next polled => exact .after (sweepPoll_step polled) (sweepBegun_step l s)
  · exact .after (boundaryRelay_step ..) (sweepBegun_step l s)

theorem boundaryQueue_step (l : Leg) (s : State) : LegStep l s (boundaryQueue l s) := by
  unfold boundaryQueue
  split
  next taken =>
    exact .after (startTxn_step ..) ⟨rfl, fun _ _ => rfl, fun _ hm => takeHead_queues_ne taken hm, fun _ _ h => h⟩
  · exact boundarySweep_step ..

theorem boundary_step (l : Leg) (s : State) : LegStep l s (boundary l s) := by
  unfold boundary
  split
  · exact boundaryQueue_step ..
  · exact .refl

/-- What the boundaries move, as one equation. -/
theorem boundaries_frame (s : State) : boundaries s =
    { s with
      le := (boundaries s).le, vs := (boundaries s).vs
      ti := { s.ti with slot := (boundaries s).ti.slot, reply := (boundaries s).ti.reply } } := by
  refine List.foldlRecOn (motive := fun t : State => t = { s with
    le := t.le, vs := t.vs, ti := { s.ti with slot := t.ti.slot, reply := t.ti.reply } }) allLegs _ rfl fun t ht l _ => ?_
  have step := (boundary_step l t).frame
  rw [ht] at step
  rw [ht]
  exact step

theorem boundaries_ts (s : State) : (boundaries s).ts = s.ts := by rw [boundaries_frame]

theorem boundaries_rt (s : State) : (boundaries s).rt = s.rt := by rw [boundaries_frame]

end Steps

section Rest

variable {l : Leg} {s t : State}

/-- A leg with a transaction in flight is at rest. -/
theorem legAtRest_of_txn (h : (legAt s l).txn ≠ none) : LegAtRest s l := by
  intro ready
  obtain ⟨txn, h'⟩ := Option.ne_none_iff_exists'.mp h
  simp [legReady, h'] at ready

theorem legAt_startTxn (p : Purpose) (k : NodeKey) (f : Frame) :
    legAt (startTxn l p k f s) l = { legAt s l with txn := some ⟨p, k, f, .sending⟩ } := legAt_setLeg ..

theorem boundaryDiscovery_rest (queue : quadGet s.vs.queues l = []) (sweep : sweepPoll l s = none)
    (flag : (legAt s l).sweep = none → (legAt s l).alertFlag = false)
    (relay : ∀ k f, s.ti.slot = .relay k f false → k.leg ≠ l)
    (polled : (((legAt s l).pollList[(legAt s l).cursor]?).bind (keyAt s.ts.active)) = none) :
    LegAtRest (boundaryDiscovery l s) l := by
  simp only [boundaryDiscovery]
  split
  · refine legAtRest_of_txn ?_
    rw [legAt_setLeg, legAt_startTxn]
    nofun
  next ended => exact fun _ => ⟨queue, sweep, flag, relay, polled, Bool.not_eq_true _ ▸ ended⟩

theorem boundaryPoll_rest (queue : quadGet s.vs.queues l = []) (sweep : sweepPoll l s = none)
    (flag : (legAt s l).sweep = none → (legAt s l).alertFlag = false)
    (relay : ∀ k f, s.ti.slot = .relay k f false → k.leg ≠ l) : LegAtRest (boundaryPoll l s) l := by
  simp only [boundaryPoll]
  split
  · refine legAtRest_of_txn ?_
    rw [legAt_setLeg, legAt_startTxn]
    nofun
  next polled => exact boundaryDiscovery_rest queue sweep flag relay polled

theorem boundaryRelay_rest (queue : quadGet s.vs.queues l = []) (sweep : sweepPoll l s = none)
    (flag : (legAt s l).sweep = none → (legAt s l).alertFlag = false) : LegAtRest (boundaryRelay l s) l := by
  unfold boundaryRelay
  split
  next k inner slot =>
    split
    · split
      · have legs : legAt (placeDue (relayResult .held) s) l = legAt s l := by rw [placeDue_frame]; rfl
        refine boundaryPoll_rest ?_ ?_ ?_ fun k f h => absurd h (placeDue_slot _ s k f false)
        · rw [placeDue_frame]; exact queue
        · unfold sweepPoll at sweep ⊢
          rw [legs]
          split at sweep
          next w found =>
            split at sweep
            · cases sweep
            · rfl
          · rfl
        · rw [legs]; exact flag
      · refine legAtRest_of_txn ?_
        rw [legAt_startTxn]
        nofun
    next other =>
      exact boundaryPoll_rest queue sweep flag fun k' f' h => by rw [slot] at h; cases h; exact other
  next noRelay => exact boundaryPoll_rest queue sweep flag fun k f h => absurd h (noRelay k f)

theorem sweepBegun_flag (l : Leg) (s : State) :
    (legAt (sweepBegun l s) l).sweep = none → (legAt (sweepBegun l s) l).alertFlag = false := by
  simp only [sweepBegun]
  split
  · intro _
    change (legAt (setLeg l (beginSweep s.ts.active l) s) l).alertFlag = false
    rw [legAt_setLeg]
    rfl
  next held =>
    intro none
    rw [none] at held
    simpa using held

theorem boundarySweep_rest (queue : quadGet s.vs.queues l = []) : LegAtRest (boundarySweep l s) l := by
  simp only [boundarySweep]
  split
  next t polled =>
    refine legAtRest_of_txn ?_
    unfold sweepPoll at polled
    split at polled
    · split at polled
      · cases polled
        rw [legAt_setLeg, legAt_startTxn]
        nofun
      · cases polled
    · cases polled
  next none =>
    have sameQueue : (sweepBegun l s).vs = s.vs := by
      simp only [sweepBegun]
      split <;> rfl
    exact boundaryRelay_rest (by rw [sameQueue]; exact queue) none (sweepBegun_flag l s)

/-- A boundary leaves its leg without work. -/
theorem boundary_rest (l : Leg) (s : State) : LegAtRest (boundary l s) l := by
  unfold boundary
  split
  · unfold boundaryQueue
    split
    · refine legAtRest_of_txn ?_
      rw [legAt_startTxn]
      nofun
    next none => exact boundarySweep_rest (takeHead_eq_none_iff.mp none)
  next busy => exact fun ready => absurd ready busy

/-- The boundaries leave no leg with work. -/
theorem boundaries_rest (s : State) : LegsAtRest (boundaries s) := by
  have h0 := boundary_rest 0 s
  have h1 := boundary_rest 1 (boundary 0 s)
  have h2 := boundary_rest 2 (boundary 1 (boundary 0 s))
  have h3 := boundary_rest 3 (boundary 2 (boundary 1 (boundary 0 s)))
  have b1 := boundary_step 1 (boundary 0 s)
  have b2 := boundary_step 2 (boundary 1 (boundary 0 s))
  have b3 := boundary_step 3 (boundary 2 (boundary 1 (boundary 0 s)))
  intro l
  change LegAtRest (boundary 3 (boundary 2 (boundary 1 (boundary 0 s)))) l
  fin_cases l
  · exact b3.rest (by decide) (b2.rest (by decide) (b1.rest (by decide) h0))
  · exact b3.rest (by decide) (b2.rest (by decide) h1)
  · exact b3.rest (by decide) h2
  · exact h3

end Rest

end Sys2Proof.Machine
end

section
/-! Rows that bring the legs no work, and the round start's way with the tables: the last two rules over every step. -/

namespace Sys2Proof.Machine

open Sys2Proof

/-- The step from `s` to `t` brings no leg work: what a leg may start is the same, or less of the relay slot. -/
structure Calm (s t : State) : Prop where
  legs : t.le.legs = s.le.legs
  queues : t.vs.queues = s.vs.queues
  active : t.ts.active = s.ts.active
  slot : ∀ k f, t.ti.slot = .relay k f false → s.ti.slot = .relay k f false

section Chains

variable {s t u : State}

theorem Calm.refl : Calm s s := ⟨rfl, rfl, rfl, fun _ _ h => h⟩

theorem Calm.trans (h : Calm s t) (h' : Calm t u) : Calm s u :=
  ⟨h'.legs.trans h.legs, h'.queues.trans h.queues, h'.active.trans h.active, fun k f e => h.slot k f (h'.slot k f e)⟩

theorem Calm.after (h' : Calm t u) (h : Calm s t) : Calm s u := h.trans h'

theorem Calm.rest (h : Calm s t) (rest : LegsAtRest s) : LegsAtRest t := fun l =>
  legAtRest_congr s t l (by unfold legAt; rw [h.legs]) (by rw [h.queues]) h.slot h.active (rest l)

end Chains

section Functions

/-! ### The trunk -/

theorem fillPlace_calm (d : DueReply) (s : State) : Calm s (fillPlace d s) :=
  ⟨rfl, rfl, rfl, fun k f h => absurd h (slotAfter_ne_relay d k f false)⟩

theorem placeDue_calm (d : DueReply) (s : State) : Calm s (placeDue d s) := by
  unfold placeDue
  split
  · exact fillPlace_calm ..
  · exact ⟨rfl, rfl, rfl, nofun⟩

theorem placeOwn_calm (d : DueReply) (s : State) : Calm s (placeOwn d s) := by
  unfold placeOwn
  split
  · exact ⟨rfl, rfl, rfl, fun _ _ h => h⟩
  · exact .refl

theorem recordError_calm (e : FrameError) (port : Port) (s : State) : Calm s (recordError e port s) :=
  ⟨rfl, rfl, rfl, fun _ _ h => h⟩

theorem forward_calm (port : Port) (f : Frame) (s : State) : Calm s (forward port f s) := by
  cases port with
  | upper =>
    simp only [forward, forwardDown]
    split
    · exact ⟨rfl, rfl, rfl, fun _ _ h => h⟩
    · exact recordError_calm ..
  | lower =>
    simp only [forward, forwardUp]
    split
    iterate 2
      split
      · exact ⟨rfl, rfl, rfl, fun _ _ h => h⟩
      · exact recordError_calm ..

theorem heard_calm (port : Port) (s : State) : Calm s (heard port s) := by
  cases port <;> exact ⟨rfl, rfl, rfl, fun _ _ h => h⟩

theorem numberUnit_calm (p : Byte) (s : State) : Calm s (numberUnit p s) :=
  .after (placeOwn_calm ..) ⟨rfl, rfl, rfl, fun _ _ h => h⟩

theorem takeNumber_calm (payload : List Byte) (s : State) : Calm s (takeNumber payload s) := by
  unfold takeNumber
  split
  · exact numberUnit_calm ..
  · exact .refl

theorem takeCommand_calm {code : Byte} {args : List Byte} {carry : State → Carry} {s : State} (h : Calm s (carry s).1) :
    Calm s (takeCommand code args carry s) := by
  unfold takeCommand
  split
  · exact h.trans (placeDue_calm ..)
  · exact placeOwn_calm ..

theorem receive_calm {port : Port} {f : Frame} {consume : State → State} {s : State} (h : ∀ u, Calm u (consume u)) :
    Calm s (receive port f consume s) := by
  have heard := heard_calm port s
  unfold receive
  split
  · exact .refl
  · exact .after (recordError_calm ..) heard
  · exact .after (takeNumber_calm ..) heard
  · exact .after (h _) heard
  · exact .after (forward_calm ..) (.after (h _) heard)
  · exact .after (forward_calm ..) heard

theorem receiveCommand_calm {hdr : Header} {code : Byte} {args : List Byte} {carry : State → Carry} {s : State}
    (h : ∀ u, Calm u (carry u).1) : Calm s (receiveCommand hdr code args carry s) :=
  receive_calm fun u => takeCommand_calm (h u)

theorem settle_slot (s : State) : (settle s).ti.slot = s.ti.slot ∨ ∃ d, (settle s).ti.slot = slotAfter d := by
  have lower : (settle s).ti.slot = (grantUpper s).ti.slot := (upperSide_grantLower (grantUpper s)).2.2.2.1
  rw [lower]
  unfold grantUpper
  split
  · split
    next g u picked =>
      rcases pickUpper_reply s _ picked with ⟨-, same⟩ | ⟨r, -, -, refilled⟩
      · exact .inl same
      · change u.ti.slot = _ ∨ ∃ d, u.ti.slot = _
        have refilled : u = _ := refilled
        rw [refilled]
        unfold refillPlace
        split
        next d _ => exact .inr ⟨d, rfl⟩
        · exact .inl rfl
    · exact .inl rfl
  · exact .inl rfl

theorem settle_calm (s : State) : Calm s (settle s) where
  legs := by
    have same := congrArg (fun u : State => u.le.legs) (quiet_settle s)
    exact same
  queues := by
    have same := congrArg (fun u : State => u.vs.queues) (quiet_settle s)
    exact same
  active := by rw [settle_ts]
  slot k f h := by
    rcases settle_slot s with same | ⟨d, after⟩
    · rw [← same]; exact h
    · rw [after] at h
      exact absurd h (slotAfter_ne_relay d k f false)

/-! ### LOAD TABLE -/

theorem loadBytes_calm (bytes : List Byte) (s : State) : Calm s (loadBytes bytes s) := by
  simp only [loadBytes]
  split
  · exact .refl
  · exact ⟨rfl, rfl, rfl, fun _ _ h => h⟩

theorem startLoad_calm (hdr : Header) (table first : Option Byte) (s : State) : Calm s (startLoad hdr table first s) := by
  unfold startLoad
  split
  · split
    · exact ⟨rfl, rfl, rfl, nofun⟩
    · exact ⟨rfl, rfl, rfl, nofun⟩
    · exact .after (placeDue_calm ..) ⟨rfl, rfl, rfl, fun _ _ h => h⟩
  · exact ⟨rfl, rfl, rfl, fun _ _ h => h⟩

theorem loadBegins_calm (hdr : Header) (table first : Option Byte) (s : State) : Calm s (loadBegins hdr table first s) := by
  unfold loadBegins
  split
  · exact .refl
  · split
    · exact .refl
    · exact startLoad_calm ..
    · exact startLoad_calm ..
    · exact ⟨rfl, rfl, rfl, fun _ _ h => h⟩

theorem useFreeIf_calm (b : Bool) (s : State) : Calm s (useFreeIf b s) := by
  cases b <;> exact ⟨rfl, rfl, rfl, fun _ _ h => h⟩

theorem answerLoad_calm (l : Load) (e : LoadEnding) (s : State) : Calm s (answerLoad l e s) := by
  unfold answerLoad
  split
  · exact .after (useFreeIf_calm ..) (placeDue_calm ..)
  · exact .refl

theorem concludeLoad_calm (l : Load) (e : LoadEnding) (s : State) : Calm s (concludeLoad l e s) := by
  unfold concludeLoad
  split
  · exact answerLoad_calm ..
  · unfold answerShort
    split
    · split
      · exact placeDue_calm ..
      · exact .refl
    · exact answerLoad_calm ..
  · split
    · exact placeOwn_calm ..
    · exact .refl
  · exact .refl
  · exact .refl

theorem loadEnds_calm (tail : List Byte) (e : LoadEnding) (s : State) : Calm s (loadEnds tail e s) := by
  have taken : Calm s { loadBytes tail s with ti := { (loadBytes tail s).ti with load := none } } :=
    (loadBytes_calm tail s).trans ⟨rfl, rfl, rfl, fun _ _ h => h⟩
  unfold loadEnds
  split
  · exact .refl
  next l _ =>
    dsimp only
    split
    · exact .after (concludeLoad_calm ..) (.after (recordError_calm ..) taken)
    · exact .after (receive_calm fun _ => concludeLoad_calm ..) taken

/-! ### Other rows -/

theorem policyClose_calm (s : State) : Calm s (policyClose s) := by
  unfold policyClose
  split
  · exact .refl
  · exact ⟨rfl, rfl, rfl, fun _ _ h => h⟩

theorem policyAgain_calm (s : State) : Calm s (policyAgain s) := by
  unfold policyAgain
  split
  · exact policyClose_calm s
  · exact .refl

theorem presenceTimeout_calm (s : State) : Calm s (presenceTimeout s) := by
  unfold presenceTimeout
  split
  · exact .refl
  · exact .after (policyAgain_calm _) ⟨rfl, rfl, rfl, fun _ _ h => h⟩

theorem periodTick_calm (s : State) : Calm s (periodTick s) := by
  simp only [periodTick]
  split
  · split <;> exact ⟨rfl, rfl, rfl, fun _ _ h => h⟩
  · exact .refl

/-- With the manual cause set, the exercise is suspended, and no test begins. -/
theorem carryExerciseSuspend_calm (s : State) : Calm s (carryExerciseSuspend s).1 := by
  simp only [carryExerciseSuspend, manualExercise]
  split
  · exact .refl
  next running =>
    simp only [causesChanged]
    split
    next resumed => simp [resettle, exStateOf, running] at resumed
    · exact ⟨rfl, rfl, rfl, fun _ _ h => h⟩

theorem carryExerciseAbort_calm (s : State) : Calm s (carryExerciseAbort s).1 := by
  unfold carryExerciseAbort
  split
  · exact .refl
  · exact ⟨rfl, rfl, rfl, fun _ _ h => h⟩

theorem carryDiscard_calm (s : State) : Calm s (carryDiscard s).1 := by
  unfold carryDiscard
  split
  · exact .refl
  · exact ⟨rfl, rfl, rfl, fun _ _ h => h⟩

theorem carryProtect_calm (level : Byte) (s : State) : Calm s (carryProtect level s).1 := by
  simp only [carryProtect, plain, protectUnit]
  split
  · exact .refl
  · split
    · exact .refl
    · exact ⟨rfl, rfl, rfl, fun _ _ h => h⟩

theorem carryHeaderClose_calm (s : State) : Calm s (carryHeaderClose s).1 := ⟨rfl, rfl, rfl, fun _ _ h => h⟩

theorem carryHeaderOpen_calm (s : State) : Calm s (carryHeaderOpen s).1 := by
  unfold carryHeaderOpen
  split
  · exact .refl
  · exact ⟨rfl, rfl, rfl, fun _ _ h => h⟩

theorem setHold_calm (port : Port) (held : Bool) (s : State) : Calm s (setHold port held s) := by
  cases port <;> exact ⟨rfl, rfl, rfl, fun _ _ h => h⟩

theorem setMeter_calm (m : Meter) (f : MeterState → MeterState) (s : State) : Calm s (setMeter m f s) := by
  cases m <;> exact ⟨rfl, rfl, rfl, fun _ _ h => h⟩

theorem lowerSent_calm (s : State) : Calm s (lowerSent s) := by
  unfold lowerSent
  split
  · exact ⟨rfl, rfl, rfl, fun _ _ h => h⟩
  · exact .refl

theorem lowerBreakEnd_calm (s : State) : Calm s (lowerBreakEnd s) := by
  unfold lowerBreakEnd
  split
  · exact ⟨rfl, rfl, rfl, fun _ _ h => h⟩
  · exact .refl

/-! ### Rows that touch the engines, and resets -/

/-- A leg rests on when its transaction alone changes, and stays in flight or absent. -/
theorem legAtRest_of_txn_map {s t : State} {l : Leg} {x : Option Txn} (legs : legAt t l = { legAt s l with txn := x })
    (flight : x.isNone = (legAt s l).txn.isNone) (queues : t.vs.queues = s.vs.queues) (active : t.ts.active = s.ts.active)
    (slot : ∀ k f, t.ti.slot = .relay k f false → s.ti.slot = .relay k f false) (rest : LegAtRest s l) : LegAtRest t l := by
  intro ready
  have ready' : legReady (legAt s l) = true := by
    rw [legs] at ready
    simpa only [legReady, flight] using ready
  obtain ⟨queue, sweep, flag, relay, polled, ended⟩ := rest ready'
  rw [legs, active, queues]
  refine ⟨queue, ?_, flag, fun k f h => relay k f (slot k f h), polled, ended⟩
  unfold sweepPoll at sweep ⊢
  rw [legs]
  split at sweep
  next found =>
    split at sweep
    · cases sweep
    next beyond => simp only [found, beyond]
  next found => simp only [found]

theorem legAt_mapLegs (f : Leg → LegEngine → LegEngine) (s : State) (l : Leg) :
    quadGet (mapLegs f s.le.legs) l = f l (legAt s l) := by
  fin_cases l <;> rfl

theorem requestSent_rest (l : Leg) {s : State} (rest : LegsAtRest s) : LegsAtRest (requestSent l s) := by
  intro m
  by_cases same : m = l
  · subst same
    exact legAtRest_of_txn_map (legAt_setLeg ..) Option.isNone_map rfl rfl (fun _ _ h => h) (rest m)
  · exact (setLeg_step ..).rest same (rest m)

theorem quadGet_noQueues (l : Leg) : quadGet ValveBlock.reset.queues l = [] := by
  fin_cases l <;> rfl

theorem resetUnit_rest (s : State) : LegsAtRest (resetUnit s) := by
  intro l
  have legs : legAt (resetUnit s) l = resetLeg (legAt s l) := legAt_mapLegs (fun _ => resetLeg) s l
  intro _
  rw [sweepPoll, legs]
  exact ⟨quadGet_noQueues l, rfl, fun _ => rfl, nofun, rfl, rfl⟩

theorem powerUp_rest (s : State) : LegsAtRest (powerUp s) := by
  intro l
  have legs : legAt (powerUp s) l = .reset := legAt_mapLegs (fun _ _ => .reset) s l
  intro _
  rw [sweepPoll, legs]
  exact ⟨quadGet_noQueues l, rfl, fun _ => rfl, nofun, rfl, rfl⟩

theorem upperSent_rest {s : State} (rest : LegsAtRest s) : LegsAtRest (upperSent s) := by
  unfold upperSent
  split
  · exact rest
  · refine iteInduction (motive := LegsAtRest) (fun _ => resetUnit_rest _) fun _ => ?_
    exact Calm.rest (s := s) ⟨rfl, rfl, rfl, fun _ _ h => h⟩ rest

theorem breakUpper_rest {s : State} (rest : LegsAtRest s) : LegsAtRest (breakUpper s) := by
  unfold breakUpper
  split
  · exact rest
  · refine iteInduction (motive := LegsAtRest) (fun _ => resetUnit_rest _) fun _ l => ?_
    exact legAtRest_of_txn_map (s := s) (legAt_mapLegs (fun _ e => dropRelay e) s l) Option.isNone_map rfl rfl nofun (rest l)

end Functions

/-- Settles O10: a row that may bring work ends with the boundaries, and every other row is calm. -/
theorem noIdleLegHasWorkWaiting : Obligations.NoIdleLegHasWorkWaiting := by
  intro s t rest next
  unfold step at next
  split at next
  · cases next
    exact Calm.rest (s := s) ⟨rfl, rfl, rfl, fun _ _ h => h⟩ rest
  next c queue _ =>
    have rest : LegsAtRest { s with pending := queue } := Calm.rest (s := s) ⟨rfl, rfl, rfl, fun _ _ h => h⟩ rest
    generalize { s with pending := queue } = u at next rest
    have taken (v : State) : LegsAtRest (settleAll v) := (settle_calm _).rest (boundaries_rest v)
    have calm {v : State} (h : Calm u v) : LegsAtRest (settle v) := (h.trans (settle_calm v)).rest rest
    have settled {v : State} (h : LegsAtRest v) : LegsAtRest (settle v) := (settle_calm v).rest h
    cases c <;> (cases next)
    case powerOn => exact settled (powerUp_rest u)
    case pinReset => exact settled (resetUnit_rest u)
    case breakUpper => exact settled (breakUpper_rest rest)
    case breakLower =>
      refine calm ?_
      split
      · exact recordError_calm ..
      · exact .refl
    case periodTick => exact calm (periodTick_calm u)
    case legRequestSent => exact settled (requestSent_rest _ rest)
    case meterCount => exact calm (setMeter_calm ..)
    case headerLimitChange => exact calm ⟨rfl, rfl, rfl, fun _ _ h => h⟩
    case headerStrokeTimerExpiry =>
      refine calm ?_
      split
      · exact ⟨rfl, rfl, rfl, fun _ _ h => h⟩
      · exact .refl
    case controllerPresenceTimeout => exact calm (presenceTimeout_calm u)
    case holdChange => exact calm (setHold_calm ..)
    case upperFrameSent => exact settled (upperSent_rest rest)
    case lowerFrameSent => exact calm (lowerSent_calm u)
    case number => exact calm (receive_calm fun _ => .refl)
    case loadTable => exact calm ((loadBegins_calm ..).after ⟨rfl, rfl, rfl, fun _ _ h => h⟩)
    case loadTableRecord => exact calm (loadBytes_calm ..)
    case loadTableEnd => exact calm (loadEnds_calm ..)
    case discard => exact calm ((receiveCommand_calm carryDiscard_calm).after ⟨rfl, rfl, rfl, fun _ _ h => h⟩)
    case protect => exact calm (receiveCommand_calm (carryProtect_calm _))
    case headerClose => exact calm (receiveCommand_calm carryHeaderClose_calm)
    case headerOpen => exact calm (receiveCommand_calm carryHeaderOpen_calm)
    case exerciseSuspend => exact calm (receiveCommand_calm carryExerciseSuspend_calm)
    case exerciseAbort => exact calm (receiveCommand_calm carryExerciseAbort_calm)
    case upperBreakRelease => exact calm ⟨rfl, rfl, rfl, fun _ _ h => h⟩
    case lowerBreakSentEnd => exact calm (lowerBreakEnd_calm u)
    case status | readTable | readIncidents | readIncident | readExercise | readPresence | readValves | unitReset =>
      exact calm (receiveCommand_calm fun _ => .refl)
    all_goals exact taken _

end Sys2Proof.Machine
end

section
/-! A round start, and what it may do with the tables (R2, R168). -/

namespace Sys2Proof.Machine

open Sys2Proof

/-- The tables and the Round Timer as they stood. -/
structure SameRound (s t : State) : Prop where
  tables : t.ts = s.ts
  timer : t.rt = s.rt

section Frames

variable {s t u : State}

theorem SameRound.refl : SameRound s s := ⟨rfl, rfl⟩

theorem SameRound.trans (h : SameRound s t) (h' : SameRound t u) : SameRound s u :=
  ⟨h'.tables.trans h.tables, h'.timer.trans h.timer⟩

theorem SameRound.after (h' : SameRound t u) (h : SameRound s t) : SameRound s u := h.trans h'

theorem Work.sameRound (h : Work s t) : SameRound s t := ⟨by rw [h.frame], by rw [h.frame]⟩

theorem Engine.sameRound {c : Bool} (h : Engine c s t) : SameRound s t := h.work.sameRound

theorem LegStep.sameRound {l : Leg} (h : LegStep l s t) : SameRound s t := ⟨h.ts, h.rt⟩

theorem setLeg_sameRound (l : Leg) (f : LegEngine → LegEngine) (s : State) : SameRound s (setLeg l f s) := ⟨rfl, rfl⟩

theorem placeDue_sameRound (d : DueReply) (s : State) : SameRound s (placeDue d s) := (placeDue_step (l := 0) d s).sameRound

theorem discoveryOutcome_sameRound (k : NodeKey) (reply : Option Frame) (s : State) :
    SameRound s (discoveryOutcome k reply s) := by
  have found : SameRound s (match reply with
      | some f => useFreeIf (decide (f.payload.length < 5))
          (setLeg k.leg (fun e => { e with presence := e.presence ++ [presenceEntry s.free k.node f.payload] }) s)
      | none => s) := by
    cases reply with
    | none => exact .refl
    | some f => exact .after (useFreeIf_work ..).sameRound (setLeg_sameRound ..)
  simp only [discoveryOutcome]
  split
  · exact .after (setLeg_sameRound ..) found
  · exact found

theorem deliver_sameRound (t : Txn) (reply : Option (Frame × List Byte)) (s : State) : SameRound s (deliver t reply s) := by
  unfold deliver
  split
  iterate 2
    split
    · exact (takeSample_work ..).sameRound
    · exact (nodeOutcome_work ..).sameRound
  · exact (setOutcome_work ..).sameRound
  · split
    · exact .refl
    · exact placeDue_sameRound ..
  · exact discoveryOutcome_sameRound ..

theorem judgeAbsence_sameRound (s : State) : SameRound s (judgeAbsence s) := by
  simp only [judgeAbsence]
  split
  · split
    · exact ⟨rfl, rfl⟩
    · exact .after (policyAgain_engine (c := false) _).sameRound ⟨rfl, rfl⟩
  · split <;> exact ⟨rfl, rfl⟩

/-- The adjustments at a bank switch leave the tables and the Round Timer as the switch has left them. -/
theorem installBank_sameRound (s : State) : SameRound (carryOver s) (installBank s) := by
  have flooded : SameRound (carryOver s) (floodAtSwitch s.nd.nodes (adjustIncidents (carryOver s))) := by
    refine .after ?_ (adjustIncidents_engine (c := false) _).sameRound
    unfold floodAtSwitch
    split
    · exact (floodMarksChanged_work ..).sameRound
    · exact ⟨rfl, rfl⟩
  unfold installBank
  exact .after (judgeAbsence_sameRound _) (iteInduction (motive := SameRound (carryOver s))
    (fun _ => .after (policyAgain_engine (c := false) _).sameRound flooded) fun _ => flooded)

end Frames

/-- The ended round has been judged by every block, and no commit yet. -/
def roundJudged (s : State) : State :=
  let s1 := judgeSweepCounts (advanceRound s)
  shiftBack (dripRoundStart (endedNumber s1) (flowRoundStart (endedElapsed s1) s1))

theorem startRound_eq (s : State) : startRound s =
    closeIfDone (summaryStart (buildPollLists (takePeriod (switchIfPending (roundJudged s))))) := rfl

theorem roundJudged_sameRound (s : State) : SameRound (advanceRound s) (roundJudged s) :=
  SameRound.after (t := dripRoundStart _ _) ⟨rfl, rfl⟩ (.after (dripRoundStart_work ..).sameRound
    (.after (flowRoundStart_work ..).sameRound ⟨rfl, rfl⟩))

theorem closeIfDone_ts (s : State) : (closeIfDone s).ts = s.ts := by unfold closeIfDone; split <;> rfl

theorem summaryStart_ts (s : State) : (summaryStart s).ts = s.ts := by unfold summaryStart; split <;> rfl

theorem summaryStart_rt (s : State) : (summaryStart s).rt = s.rt := by unfold summaryStart; split <;> rfl

theorem closeIfDone_number (s : State) : (closeIfDone s).rt.number = s.rt.number := by unfold closeIfDone; split <;> rfl

theorem startRound_ts (s : State) : (startRound s).ts = (switchIfPending (roundJudged s)).ts := by
  rw [startRound_eq, closeIfDone_ts, summaryStart_ts]
  rfl

theorem startRound_number (s : State) : (startRound s).rt.number = (switchIfPending (roundJudged s)).rt.number := by
  rw [startRound_eq, closeIfDone_number, summaryStart_rt]
  rfl

/-- A pending commit switches to the staging bank, or leaves the banks. -/
theorem switchIfPending_active (s : State) : (switchIfPending s).rt = s.rt ∧
    ((switchIfPending s).ts.active = s.ts.active ∨ (switchIfPending s).ts.active = s.ts.staging ∧ s.ts.commitPending = true) := by
  unfold switchIfPending
  split
  next pending =>
    unfold switchBank
    split
    · have same := installBank_sameRound s
      exact ⟨same.timer, .inr ⟨by change (installBank s).ts.active = _; rw [same.tables]; rfl, pending⟩⟩
    · exact ⟨rfl, .inl rfl⟩
  · exact ⟨rfl, .inl rfl⟩

/-- What O12 says of the active bank, the round start included. -/
def BankHeld (s t : State) : Prop :=
  t.ts.active = s.ts.active ∨ (t.rt.number = s.rt.number + 1 ∧ t.ts.active = s.ts.staging ∧ s.ts.commitPending = true)

section BankHeld

variable {s t u : State}

theorem SameRound.held (h : SameRound s t) (h' : BankHeld t u) : BankHeld s u := by
  unfold BankHeld at h' ⊢
  rw [h.tables, h.timer] at h'
  exact h'

theorem startRound_held (s : State) : BankHeld s (startRound s) := by
  obtain ⟨timer, bank⟩ := switchIfPending_active (roundJudged s)
  have judged := roundJudged_sameRound s
  unfold BankHeld
  rw [startRound_ts, startRound_number, timer, judged.timer]
  rw [judged.tables] at bank
  exact bank.imp_right fun ⟨active, pending⟩ => ⟨rfl, active, pending⟩

theorem closeRound_held (s : State) : BankHeld s (closeRound s) := by
  unfold closeRound
  split
  · split
    · exact startRound_held s
    · exact .inl rfl
  · exact .inl rfl

theorem nextRound_held (s : State) : BankHeld s (nextRound s) := by
  unfold nextRound
  split
  · exact SameRound.held ⟨rfl, rfl⟩ (startRound_held _)
  · exact .inl rfl

theorem BankHeld.of_same (h : SameRound s t) : BankHeld s t := .inl (by rw [h.tables])

theorem endTxn_held (l : Leg) (t : Txn) (reply : Option (Frame × List Byte)) (s : State) : BankHeld s (endTxn l t reply s) := by
  have delivered : SameRound s (deliver t reply (setLeg l (fun e => { e with txn := none }) s)) :=
    .after (deliver_sameRound ..) ⟨rfl, rfl⟩
  unfold endTxn
  dsimp only
  split
  · split
    · exact (delivered.trans (setLeg_sameRound ..)).held (closeRound_held _)
    · exact .of_same (delivered.trans (setLeg_sameRound ..))
  · exact .of_same (delivered.trans (setLeg_sameRound ..))
  · exact .of_same delivered

theorem replyEnd_held (l : Leg) (bytes : List Byte) (s : State) : BankHeld s (replyEnd l bytes s) := by
  unfold replyEnd
  split
  · exact (setLeg_sameRound ..).held (endTxn_held ..)
  · exact .inl rfl

theorem windowExpiry_held (l : Leg) (stray : Bool) (s : State) : BankHeld s (windowExpiry l stray s) := by
  have begun (u : State) : SameRound u (if stray then setLeg l strayBytes u else u) := by split <;> exact ⟨rfl, rfl⟩
  unfold windowExpiry
  dsimp only
  split
  · exact .of_same (begun s)
  · split
    next m _ =>
      have reached : SameRound s (reachTime m s) := ⟨rfl, rfl⟩
      exact SameRound.held (reached.trans (begun _)) (endTxn_held ..)
    · exact .inl rfl

theorem lineIdle_held (l : Leg) (after : LineEnd) (s : State) : BankHeld s (lineIdle l after s) := by
  unfold lineIdle
  split
  · exact .inl rfl
  · split
    · exact .inl rfl
    · exact (setLeg_sameRound ..).held (endTxn_held ..)
    · exact .inl rfl

theorem BankHeld.settleAll (h : BankHeld s t) : BankHeld s (settleAll t) := by
  unfold BankHeld Machine.settleAll
  rw [settle_ts, settle_number, boundaries_ts, boundaries_rt]
  exact h

end BankHeld

/-- Without a bank switch, a reset or a power-on, the active bank stays. -/
theorem Moves.active {ok : Special → Prop} {s t : State} (moves : Moves ok s t) (noSwitch : ¬ ok .bankSwitch)
    (noReset : ¬ ok .reset) (noPower : ¬ ok .power) : t.ts.active = s.ts.active := by
  refine moves.keeps (P := fun u => u.ts.active = s.ts.active) (fun u v move ih => ?_) rfl
  cases move with
  | work act => rw [(Work.act act).sameTables]; exact ih
  | stored x ha => exact ha.trans ih
  | switched h => exact absurd h noSwitch
  | reset h => exact absurd h noReset
  | power h => exact absurd h noPower
  | _ => exact ih

/-- Settles O12: the rows that may start a round are followed one by one, every other row makes no bank switch while
rounds run. -/
theorem activeBankChangesOnlyAtARoundStart : Obligations.ActiveBankChangesOnlyAtARoundStart := by
  intro c s t _ running next
  rw [← or_assoc]
  by_cases starts : StartsRounds c
  · left
    rcases starts with rfl | ⟨l, bytes, rfl⟩ | ⟨l, stray, rfl⟩ | ⟨l, after, rfl⟩ <;> cases next
    · exact (nextRound_held s).settleAll
    · exact (replyEnd_held l bytes s).settleAll
    · exact (windowExpiry_held l stray s).settleAll
    · exact (lineIdle_held l after s).settleAll
  by_cases power : c = .powerOn
  · subst power
    cases next
    exact .inr (by rw [settle_ts]; rfl)
  by_cases reset : ResetsUnit c s
  · obtain ⟨u, -, last⟩ := exec_of_resetsUnit reset
    rw [last] at next
    cases next
    exact .inr (by rw [settle_ts]; rfl)
  · refine .inl (.inl ((moves_of_exec next).active (fun h => h.elim (fun stopped => ?_) starts) reset power))
    rw [running] at stopped
    cases stopped

end Sys2Proof.Machine
end

section
/-! Commands that are answered from the state and change none of it, or the tables alone (R23, R125, R144, R155, R162,
R163, R171, R186, R188). -/

namespace Sys2Proof.Machine

open Sys2Proof

section Completing

variable {c : Instr} {hdr : Header} {code : Byte} {args payload detail : List Byte} {carry : State → Carry}
  {s₀ s u : State} {r : Result}

theorem isReset_eq_false (h : code ≠ codeUnitReset ∨ r ≠ .ok) : isReset (commandReply code args r detail) = false :=
  decide_eq_false fun ⟨isCode, isOk⟩ => h.elim (absurd isCode) (absurd isOk)

/-- What `carry` leaves and answers, once the row is known to end with the command taken. -/
theorem completes_of_carry (he : exec c s₀ = .next (settle (receiveCommand hdr code args carry s))) (taken : Taken s hdr)
    (hc : carry (presenceRestart s) = (u, r, detail)) (hti : u.ti = (presenceRestart s).ti)
    (notReset : code ≠ codeUnitReset ∨ r ≠ .ok) (hp : replyPayload u ⟨code, args, r, detail⟩ = payload) :
    Completes c s₀ u payload := by
  have free : u.ti.reply = none := by rw [hti]; exact taken.2.2
  obtain ⟨same, slot, answered, position⟩ := command_settle hdr code args carry s taken.1 taken.2 (by rw [hc]; exact free)
    (by rw [hc]; change u.ti.df = _; rw [hti]; rfl)
  rw [hc] at same slot answered position
  have held := isReset_eq_false (args := args) (detail := detail) notReset
  rw [held] at answered
  refine ⟨_, he, same, ?_, slot.trans ?_⟩
  · rw [position, ← hp]
    exact answered
  · unfold slotAfter
    rw [held]
    rfl

/-- The same of a row that ends with the boundaries, when the command brings the legs no work. -/
theorem completes_of_carry_at_rest (he : exec c s₀ = .next (settleAll (receiveCommand hdr code args carry s)))
    (taken : Taken s hdr) (hc : carry (presenceRestart s) = (u, r, detail)) (hti : u.ti = (presenceRestart s).ti)
    (rest : LegsAtRest u) (notReset : code ≠ codeUnitReset ∨ r ≠ .ok)
    (hp : replyPayload u ⟨code, args, r, detail⟩ = payload) : Completes c s₀ u payload := by
  refine completes_of_carry (he.trans ?_) taken hc hti notReset hp
  rw [command_settleAll hdr code args carry s taken.1 taken.2 (by rw [hc, hti]; exact taken.2.2) (by rw [hc, hti]; rfl)
    (by rw [hc]; exact rest)]

theorem presenceRestart_rest (rest : LegsAtRest s) : LegsAtRest (presenceRestart s) := (heard_calm .upper s).rest rest

/-- A command refused without effect. -/
theorem replyPayload_refused {s : State} (h : r ≠ .ok) : replyPayload s ⟨code, args, r, detail⟩ = code :: resultCode r :: detail := by
  simp only [replyPayload, if_neg h]

/-- A row that refuses its command changes nothing but what its frame's arrival does. -/
theorem completes_of_refusal (he : exec c s₀ = .next (settle (receiveCommand hdr code args carry s))) (taken : Taken s hdr)
    (r : Result) (detail : List Byte) (hc : carry (presenceRestart s) = (presenceRestart s, r, detail)) (hr : r ≠ .ok) :
    Completes c s₀ (presenceRestart s) (code :: resultCode r :: detail) :=
  completes_of_carry he taken hc rfl (.inr hr) (replyPayload_refused hr)

theorem completes_of_refusal_at_rest (he : exec c s₀ = .next (settleAll (receiveCommand hdr code args carry s)))
    (taken : Taken s hdr) (rest : LegsAtRest s) (r : Result) (detail : List Byte)
    (hc : carry (presenceRestart s) = (presenceRestart s, r, detail)) (hr : r ≠ .ok) :
    Completes c s₀ (presenceRestart s) (code :: resultCode r :: detail) :=
  completes_of_carry_at_rest he taken hc rfl (presenceRestart_rest rest) (.inr hr) (replyPayload_refused hr)

theorem replyPayload_ok {s : State} : replyPayload s ⟨code, args, .ok, detail⟩ = code :: 0x00 :: okData s ⟨code, args, .ok, detail⟩ := rfl

end Completing

/-! ### STATUS -/

/-- The word of the active conditions, bit by bit. -/
theorem conditionBits_eq (s : State) : conditionBits s =
    Nat.bit s.nd.flood.active (Nat.bit s.fa.backflow.active (Nat.bit s.vs.header.fault.active
      (Nat.bit s.fa.meterSkew.active (Nat.bit s.ie.overflow.active (Nat.bit s.rt.overrun.active
        (Nat.bit s.ti.lost.active (Nat.bit s.le.stuck.active (Nat.bit s.de.unmappedDrip.active 0)))))))) := by
  have weigh (b : Bool) (w : Nat) : (if b = true then w else 0) = w * b.toNat := by cases b <;> simp
  have weighed : conditionBits s =
      (allConditions.map fun u => 2 ^ (conditionCode u - 1) * (conditionOf s u).active.toNat).sum := by
    simp only [conditionBits, weigh]
  rw [weighed]
  simp only [allConditions, List.map_cons, List.map_nil, List.sum_cons, List.sum_nil, Nat.bit_val, conditionCode,
    conditionOf]
  omega

theorem conditionBits_lt (s : State) : conditionBits s < 2 ^ 9 := by
  have small (b : Bool) : b.toNat ≤ 1 := Bool.toNat_le b
  rw [conditionBits_eq]
  simp only [Nat.bit_val]
  have := small s.nd.flood.active
  have := small s.fa.backflow.active
  have := small s.vs.header.fault.active
  have := small s.fa.meterSkew.active
  have := small s.ie.overflow.active
  have := small s.rt.overrun.active
  have := small s.ti.lost.active
  have := small s.le.stuck.active
  have := small s.de.unmappedDrip.active
  omega

theorem conditionBits_testBit (s : State) (u : UnitCondition) :
    (conditionBits s).testBit (conditionCode u - 1) = (conditionOf s u).active := by
  rw [conditionBits_eq]
  cases u <;> simp only [conditionCode, conditionOf, Nat.reduceSub, Nat.testBit_bit_zero, Nat.testBit_bit_succ]

/-- A checked frame ends an absence. -/
theorem presenceRestart_lost (s : State) : (presenceRestart s).ti.lost.active = false := by
  simp only [presenceRestart]
  split
  · rfl
  next present => exact Bool.not_eq_true _ ▸ present

/-- Settles O24: the reply's data are those of `statusData`, field by field. -/
theorem statusReportsTheBlocks : Obligations.StatusReportsTheBlocks := by
  intro hdr s taken
  have bits : (BitVec.ofNat 16 (conditionBits (presenceRestart s))).toNat = conditionBits (presenceRestart s) := by
    rw [BitVec.toNat_ofNat]
    exact Nat.mod_eq_of_lt ((conditionBits_lt _).trans (by decide))
  refine ⟨BitVec.ofNat 16 (conditionBits (presenceRestart s)), fun u => ?_, fun i beyond => ?_, ?_⟩
  · rw [← BitVec.testBit_toNat, bits, conditionBits_testBit]
  · rw [← BitVec.testBit_toNat, bits]
    exact Nat.testBit_lt_two_pow ((conditionBits_lt _).trans_le (Nat.pow_le_pow_right (by decide) beyond))
  · refine completes_of_carry rfl taken rfl rfl (.inl (by decide)) ?_
    rw [replyPayload_ok, bits]
    change _ :: _ :: statusData (presenceRestart s) = _
    unfold statusData
    rw [presenceRestart_lost]
    rfl

/-! ### READ INCIDENTS, READ INCIDENT, READ PRESENCE, READ EXERCISE -/

theorem counted_byte {α : Type} (f : α → Byte) (l : List α) : counted (fun x => [f x]) l = byte l.length :: l.map f := by
  unfold counted
  rw [List.map_eq_flatMap]

theorem readWhen_true {good : Bool} (h : good = true) (s : State) : readWhen good s = (s, .ok, []) := by
  rw [readWhen, h]
  rfl

theorem readWhen_false {good : Bool} (h : good = false) (s : State) : readWhen good s = (s, .badArgument, []) := by
  rw [readWhen, h]
  rfl

theorem legOfNat_eq_some {n : Nat} {l : Leg} (h : n = l.val) : legOfNat n = some l := by
  subst h
  exact dif_pos l.isLt

theorem incidentById_eq_none {s : State} {id : Nat} (h : ∀ i ∈ s.ie.incidents, i.id ≠ id) : incidentById s id = none :=
  List.find?_eq_none.mpr fun i hi => by simpa using h i hi

theorem incidentData_eq {s : State} {id : Byte} {i : Incident} (h : incidentById s id.toNat = some i) :
    incidentData s id = [byte i.id, originCode i.origin, incStateCode i.state, reasonCode i.reason, byte i.members.length] ++
      i.members.map (branchByte s) ++ [byte i.rows.length] ++ i.rows.flatMap rowEntryBytes ++
      [optBranchByte s i.target] ++ (match i.probeRow with | some k => [byte k.unit, byte k.node] | none => [255, 255]) ++
      [optBranchByte s i.probeBranch, probePhaseCode i.probePhase, byte i.probed.length] ++ i.probed.map (branchByte s) ++
      [optBranchByte s i.reopening, byte i.held.length] ++ i.held.map (branchByte s) ++ optRound i.closing ++
      [byte i.settle, byte i.probeQuiet] ++ bytes2 i.opened.toNat ++ bytes2 i.changed.toNat ++
      [flagByte i.headerReq, flagByte i.pending] := by
  simp only [incidentData, h, incidentBytes, counted_byte]
  simp only [counted, List.append_assoc, List.cons_append, List.nil_append] <;> rfl

/-- Settles O25: each read is answered with the data of its block. -/
theorem readsAnswerFromTheState : Obligations.ReadsAnswerFromTheState := by
  intro hdr s taken
  refine ⟨?_, fun id absent => ?_, fun id i found => ?_, fun leg none => ?_, fun leg l named => ?_, ?_⟩
  · exact completes_of_carry rfl taken rfl rfl (.inl (by decide)) rfl
  · refine completes_of_carry rfl taken (readWhen_false ?_ _) rfl (.inl (by decide)) rfl
    rw [show incidentById (presenceRestart s) id.toNat = none from incidentById_eq_none absent]
    rfl
  · have found' : incidentById (presenceRestart s) id.toNat = some i := found
    refine completes_of_carry rfl taken (readWhen_true ?_ _) rfl (.inl (by decide)) ?_
    · rw [found']
      rfl
    · rw [replyPayload_ok]
      change _ :: _ :: incidentData (presenceRestart s) id = _
      rw [incidentData_eq found']
      rfl
  · refine completes_of_carry rfl taken (readWhen_false ?_ _) rfl (.inl (by decide)) rfl
    exact decide_eq_false (Nat.not_lt.mpr none)
  · refine completes_of_carry rfl taken (readWhen_true ?_ _) rfl (.inl (by decide)) ?_
    · exact decide_eq_true (named ▸ l.isLt)
    · rw [replyPayload_ok]
      change _ :: _ :: presenceData (presenceRestart s) leg = _
      simp only [presenceData, legOfNat_eq_some named]
      rfl
  · refine completes_of_carry rfl taken rfl rfl (.inl (by decide)) ?_
    rw [replyPayload_ok]
    change _ :: _ :: exerciseData (presenceRestart s) = _
    simp only [exerciseData, counted, List.append_assoc]
    rfl

/-! ### READ VALVES and READ TABLE -/

/-- The page of READ TABLE: whole records from `i` upward, until the count, the table's end or the room is reached. -/
theorem tablePage_spec (b : Bank) (t : TableId) (last : Nat) (count i room : Nat) (start : i ≤ last + 1) :
    ∃ n, tablePage b t last count i room = (List.range n).map (fun k => tableRecordBytes b t (i + k)) ∧ n ≤ count ∧
      i + n ≤ last + 1 ∧ ((List.range n).flatMap fun k => tableRecordBytes b t (i + k)).length ≤ room ∧
      (n = count ∨ i + n = last + 1 ∨
        room < ((List.range n).flatMap fun k => tableRecordBytes b t (i + k)).length + (tableRecordBytes b t (i + n)).length) := by
  induction count generalizing i room with
  | zero => exact ⟨0, rfl, le_rfl, start, Nat.zero_le _, .inl rfl⟩
  | succ count ih =>
    simp only [tablePage]
    split
    next ended => exact ⟨0, rfl, Nat.zero_le _, start, Nat.zero_le _, .inr (.inl (by omega))⟩
    next more =>
      split
      next fits =>
        obtain ⟨n, page, counted, inside, within, stops⟩ := ih (i + 1) (room - (tableRecordBytes b t i).length) (by omega)
        have shift (k : Nat) : i + 1 + k = i + (k + 1) := by omega
        simp only [shift] at page within stops
        refine ⟨n + 1, ?_, by omega, by omega, ?_, ?_⟩
        · rw [page, List.range_succ_eq_map, List.map_cons, List.map_map]
          rfl
        · rw [List.range_succ_eq_map, List.flatMap_cons, List.length_append, List.flatMap_map]
          simp only [Nat.succ_eq_add_one, Nat.add_zero]
          omega
        · rw [List.range_succ_eq_map, List.flatMap_cons, List.length_append, List.flatMap_map]
          simp only [Nat.succ_eq_add_one, Nat.add_zero]
          omega
      next full => exact ⟨0, rfl, Nat.zero_le _, start, Nat.zero_le _, .inr (.inr (by simpa using full))⟩

theorem tableOf_eq_none {b : Byte} (h : 3 < b.toNat) : tableOf b = none := by
  unfold tableOf
  split
  iterate 4 omega
  · rfl

theorem readTableGood_eq_false {bank table first count : Byte}
    (h : 1 < bank.toNat ∨ 3 < table.toNat ∨ count = 0 ∨ ∃ x, tableOf table = some x ∧ lastIndex x < first.toNat) :
    readTableGood bank table first count = false := by
  unfold readTableGood
  rcases h with noBank | noTable | rfl | ⟨x, isTable, beyond⟩
  · rw [decide_eq_false (Nat.not_le.mpr noBank)]
    rfl
  · rw [tableOf_eq_none noTable, Bool.and_false]
  · rw [decide_eq_false (not_not_intro rfl), Bool.and_false]
    rfl
  · simp only [isTable, decide_eq_false (Nat.not_le.mpr beyond), Bool.and_false]

theorem bankOf_eq {s : State} {bank : Byte} (h : bank.toNat ≤ 1) :
    bankOf s bank = some (if bank = 0 then s.ts.active else s.ts.staging) := by
  obtain zero | one : bank.toNat = 0 ∨ bank.toNat = 1 := by omega
  · rw [if_pos (BitVec.eq_of_toNat_eq zero)]
    simp only [bankOf, zero]
  · rw [if_neg (by rintro rfl; cases one)]
    simp only [bankOf, one]

/-- Where the next page of READ VALVES begins. -/
def nextPage (all : List (Nat × NodeKey × ValveRec)) : Byte :=
  if all.length ≤ 18 then 255 else match (all.take 18).getLast? with | some p => byte (p.1 + 1) | none => 255

theorem nextPage_spec (all : List (Nat × NodeKey × ValveRec)) : all.drop 18 = [] ∧ nextPage all = 255 ∨
    all.drop 18 ≠ [] ∧ (all.take 18).length = 18 ∧ ∃ p, (all.take 18).getLast? = some p ∧ nextPage all = byte (p.1 + 1) := by
  by_cases short : all.length ≤ 18
  · exact .inl ⟨List.drop_eq_nil_of_le short, if_pos short⟩
  · have full : (all.take 18).length = 18 := List.length_take_of_le (by omega)
    refine .inr ⟨fun e => short (List.drop_eq_nil_iff.mp e), full, ?_⟩
    obtain ⟨p, last⟩ : ∃ p, (all.take 18).getLast? = some p := by
      rw [← Option.ne_none_iff_exists', Ne, List.getLast?_eq_none_iff]
      exact fun e => by rw [e] at full; cases full
    exact ⟨p, last, by rw [nextPage, if_neg short, last]⟩

/-- Settles O26: pages are cut where the list, or the room, ends. -/
theorem pagedReadsGiveWholeRecords : Obligations.PagedReadsGiveWholeRecords := by
  intro hdr s taken
  refine ⟨fun first => ?_, fun bank table first count bad => ?_, fun bank table first count x isBank isTable some inside => ?_⟩
  · refine ⟨(valveList s first.toNat).take 18, (valveList s first.toNat).drop 18, (List.take_append_drop ..).symm,
      List.length_take_le .., ?_⟩
    exact ⟨_, nextPage_spec _, completes_of_carry rfl taken rfl rfl (.inl (by decide)) rfl⟩
  · exact completes_of_carry rfl taken (readWhen_false (readTableGood_eq_false bad) _) rfl (.inl (by decide)) rfl
  · obtain ⟨n, page, counted, within, room, stops⟩ := tablePage_spec (if bank = 0 then s.ts.active else s.ts.staging) x
      (lastIndex x) count.toNat first.toNat 228 (by omega)
    refine ⟨n, counted, within, room, stops, ?_⟩
    refine completes_of_carry rfl taken (readWhen_true ?_ _) rfl (.inl (by decide)) ?_
    · simp only [readTableGood, isTable, decide_eq_true isBank, decide_eq_true some, decide_eq_true inside, Bool.and_self]
    · rw [replyPayload_ok]
      change _ :: _ :: readTableData (presenceRestart s) bank table first count = _
      have isBank : bankOf (presenceRestart s) bank = _ := bankOf_eq isBank
      simp only [readTableData, isBank, isTable]
      rw [show (if bank = 0 then (presenceRestart s).ts.active else (presenceRestart s).ts.staging) =
        if bank = 0 then s.ts.active else s.ts.staging from rfl, page, List.length_map, List.length_range, ← List.flatMap_def]
      simp only [List.append_assoc]
      rfl

/-! ### DISCARD and PROTECT -/

theorem guardForbids_eq (s : State) : guardForbids s = guardRefuses s s.pins.service := by
  unfold guardForbids guardRefuses
  cases s.ts.guard <;> cases s.pins.service <;> rfl

theorem guardOf_eq {level : Byte} {g : Guard} (h : guardRank g = level.toNat) : guardOf level = some g := by
  unfold guardOf
  rw [← h]
  cases g <;> rfl

theorem guardOf_eq_none {level : Byte} (h : 2 < level.toNat) : guardOf level = none := by
  unfold guardOf
  split
  iterate 3 omega
  · rfl

theorem guardCode_eq {level : Byte} {g : Guard} (h : guardRank g = level.toNat) : guardCode g = level := by
  refine BitVec.eq_of_toNat_eq ?_
  rw [← h]
  cases g <;> rfl

theorem exists_guardRank {n : Nat} (h : n ≤ 2) : ∃ g, guardRank g = n := by
  interval_cases n
  · exact ⟨.opened, rfl⟩
  · exact ⟨.service, rfl⟩
  · exact ⟨.fixed, rfl⟩

theorem guardRank_le (g : Guard) : guardRank g ≤ 2 := by cases g <;> decide

/-- Settles O27, by the branches of the two commands. -/
theorem discardAndProtectFollowTheGuard : Obligations.DiscardAndProtectFollowTheGuard := by
  intro hdr s taken
  refine ⟨fun b => ⟨fun refused => ?_, fun free => ?_⟩, fun level undefined => ?_, fun level low => ?_, fun level g rank high => ?_⟩
  · have forbids : guardForbids (presenceRestart (withService b s)) = true := (guardForbids_eq _).trans refused
    exact completes_of_refusal rfl (s := withService b s) taken .guarded [] (if_pos forbids) nofun
  · have forbids : ¬ guardForbids (presenceRestart (withService b s)) = true := fun h => free ((guardForbids_eq _).symm.trans h)
    exact completes_of_carry rfl (s := withService b s) (r := .ok) (detail := []) taken (if_neg forbids) rfl
      (.inl (by decide)) rfl
  · refine completes_of_refusal rfl taken .badArgument [] ?_ nofun
    simp only [carryProtect, plain, protectUnit, guardOf_eq_none undefined]
  · obtain ⟨g, rank⟩ := exists_guardRank (low.le.trans (guardRank_le s.ts.guard))
    refine completes_of_refusal rfl taken .guarded [] ?_ nofun
    have low : guardRank g < guardRank (presenceRestart s).ts.guard := rank ▸ low
    simp only [carryProtect, plain, protectUnit, guardOf_eq rank, if_pos low]
  · have high : ¬ guardRank g < guardRank (presenceRestart s).ts.guard := rank ▸ Nat.not_lt.mpr high
    refine completes_of_carry (u := { presenceRestart s with ts := { s.ts with guard := g } }) (r := .ok) (detail := []) rfl
      taken ?_ rfl (.inl (by decide)) ?_
    · simp only [carryProtect, plain, protectUnit, guardOf_eq rank, if_neg high]
      rfl
    · rw [replyPayload_ok]
      change [_, _, guardCode g] = _
      rw [guardCode_eq rank]
      rfl

end Sys2Proof.Machine
end

section
/-! COMMIT: the checks of Table 8-2 and the order in which a COMMIT is judged (R164 to R167). -/

namespace Sys2Proof.Machine

open Sys2Proof

/-! ### The checks of Table 8-2 -/

theorem firstRepeat_eq_none_iff {α κ : Type} [DecidableEq κ] (key : α → κ) (seen : List κ) (t : List (Nat × α)) :
    firstRepeat key seen t = none ↔ (t.map fun p => key p.2).Nodup ∧ ∀ p ∈ t, key p.2 ∉ seen := by
  induction t generalizing seen with
  | nil => simp [firstRepeat]
  | cons p t ih =>
    obtain ⟨i, x⟩ := p
    unfold firstRepeat
    split
    next repeated => exact ⟨nofun, fun ⟨_, fresh⟩ => absurd repeated (fresh _ (.head _))⟩
    next fresh =>
      rw [ih]
      rw [List.forall_mem_cons]
      simp only [List.map_cons, List.nodup_cons, List.mem_map, List.mem_cons, not_or, not_exists, not_and]
      exact ⟨fun ⟨nodup, apart⟩ => ⟨⟨fun q hq => (apart q hq).1, nodup⟩, fresh, fun q hq => (apart q hq).2⟩,
        fun ⟨⟨apart, nodup⟩, _, unseen⟩ => ⟨nodup, fun q hq => ⟨apart q hq, unseen q hq⟩⟩⟩

/-- The three node slots of a branch. -/
def slotsOf (r : BranchRec) : List Nat := [r.supply, r.ret, r.valve]

theorem firstShared_eq_none_iff (seen : List Nat) (t : List (Nat × BranchRec)) :
    firstShared seen t = none ↔ (t.flatMap fun p => slotsOf p.2).Nodup ∧ ∀ n ∈ t.flatMap (fun p => slotsOf p.2), n ∉ seen := by
  induction t generalizing seen with
  | nil => simp [firstShared]
  | cons p t ih =>
    obtain ⟨i, r⟩ := p
    unfold firstShared
    rw [List.flatMap_cons, List.nodup_append', List.forall_mem_append]
    split
    next shared =>
      refine ⟨nofun, fun ⟨⟨nodup, _⟩, unseen, _⟩ => ?_⟩
      simp only [slotsOf, List.forall_mem_cons] at unseen
      simp only [slotsOf, List.nodup_cons, List.mem_cons, List.not_mem_nil] at nodup
      tauto
    next apart =>
      rw [ih]
      simp only [slotsOf, List.forall_mem_cons (p := (· ∉ seen))]
      simp only [List.disjoint_cons_left, List.disjoint_nil_left, List.nodup_cons, List.mem_cons,
        List.not_mem_nil, List.nodup_nil, not_or] at apart ⊢
      constructor
      · rintro ⟨nodup, disjoint⟩
        refine ⟨⟨by tauto, nodup, fun h => (disjoint _ h).1 rfl, fun h => (disjoint _ h).2.1 rfl,
          fun h => (disjoint _ h).2.2.1 rfl, trivial⟩, by tauto, fun n hn => (disjoint n hn).2.2.2⟩
      · rintro ⟨⟨_, nodup, supply, ret, valve, _⟩, _, unseen⟩
        exact ⟨nodup, fun n hn => ⟨fun e => supply (e ▸ hn), fun e => ret (e ▸ hn), fun e => valve (e ▸ hn), unseen n hn⟩⟩

theorem firstFailing_eq_none_iff {α : Type} (ok : α → Bool) (t : List (Nat × α)) :
    firstFailing ok t = none ↔ ∀ p ∈ t, ok p.2 = true := by
  rw [firstFailing, Option.map_eq_none_iff, List.find?_eq_none]
  simp only [Bool.not_eq_true', Bool.not_eq_false]

theorem firstOffence_eq_none_iff (pos : Option Nat) (b : Bank) :
    firstOffence pos b = none ↔ b.settings.isSome ∧ firstRepeat (fun (r : NodeRec) => r.key) [] b.nodes = none ∧
      firstFailing (rightKinds b) b.branches = none ∧ firstShared [] b.branches = none ∧
      firstRepeat (rowKey pos) [] b.rows = none ∧ firstFailing (goodLocalKey pos b) b.rows = none ∧
      firstFailing (fun (r : RowRec) => r.cands.all fun c => (entryAt b.branches c.branch).isSome) b.rows = none ∧
      firstFailing (fun (r : RowRec) => decide (r.cands.map (·.branch)).Nodup) b.rows = none := by
  rw [firstOffence, List.findSome?_eq_none_iff]
  simp only [offences, List.forall_mem_cons, id_eq, Option.map_eq_none_iff, List.not_mem_nil, false_imp_iff, forall_const,
    and_true]
  cases b.settings <;> simp

/-- A local row names a DRIP entry of this unit's evidence. -/
theorem goodLocalKey_iff (pos : Option Nat) (b : Bank) (r : RowRec) : goodLocalKey pos b r = true ↔
    (resolveUnit pos r.unit = 0 →
      ∃ x d, entryAt b.nodes r.node = some x ∧ x.body = .drip d ∧ resolveUnit pos d.evUnit = 0) := by
  have isDrip (x : NodeRec) (d) : dripFields x = some d ↔ x.body = .drip d := by
    unfold dripFields
    cases x.body <;> simp
  unfold goodLocalKey
  rw [Bool.or_eq_true, decide_eq_true_iff, or_iff_not_imp_left, not_not]
  refine imp_congr_right fun _ => ?_
  split
  next d found =>
    obtain ⟨x, at_, drip⟩ := Option.bind_eq_some_iff.mp found
    rw [decide_eq_true_iff]
    refine ⟨fun own => ⟨x, d, at_, (isDrip x d).mp drip, own⟩, fun ⟨x', d', at', body, own⟩ => ?_⟩
    obtain rfl : x = x' := Option.some.inj (at_.symm.trans at')
    obtain rfl : d = d' := Option.some.inj (drip.symm.trans ((isDrip x d').mpr body))
    exact own
  next none =>
    refine ⟨nofun, fun ⟨x, d, at_, body, _⟩ => ?_⟩
    rw [at_, Option.bind_some, (isDrip x d).mpr body] at none
    cases none

/-- Settles O28: each of the eight checks finds nothing exactly when its clause holds. -/
theorem commitChecksAreThoseOfTheTable : Obligations.CommitChecksAreThoseOfTheTable := by
  intro pos b
  rw [firstOffence_eq_none_iff]
  refine and_congr_right' (and_congr ?_ (and_congr ?_ (and_congr ?_ (and_congr ?_ (and_congr ?_ (and_congr ?_ ?_))))))
  · rw [firstRepeat_eq_none_iff]
    simp
  · rw [firstFailing_eq_none_iff]
    exact forall₂_congr fun _ _ => decide_eq_true_iff
  · rw [firstShared_eq_none_iff]
    simp [slotsOf]
  · rw [firstRepeat_eq_none_iff]
    simp
  · rw [firstFailing_eq_none_iff]
    exact forall₂_congr fun p _ => goodLocalKey_iff pos b p.2
  · rw [firstFailing_eq_none_iff]
    simp only [List.all_eq_true]
  · rw [firstFailing_eq_none_iff]
    exact forall₂_congr fun _ _ => decide_eq_true_iff

/-! ### The order of judging -/

/-- The refusal of a staging bank, by the first of the three judgements that finds one. -/
theorem commitRefusal_cases (s : State) :
    match firstOffence s.ti.position s.ts.staging with
    | some o => commitRefusal s = some (.invalid, [tableCode o.table, byte o.index, byte o.reason])
    | none =>
      match overBudget s.ts.staging with
      | some l => commitRefusal s = some (.roundBudget, [byte l.val])
      | none =>
        match inUseOffence s with
        | some i => commitRefusal s = some (.inUse, [byte i])
        | none => commitRefusal s = none := by
  unfold commitRefusal
  cases firstOffence s.ti.position s.ts.staging with
  | some o => rfl
  | none =>
    cases overBudget s.ts.staging with
    | some l => rfl
    | none => cases inUseOffence s <;> rfl

/-- A COMMIT that the guard, a running exercise or a pending commit does not refuse is refused as its bank is. -/
theorem carryCommit_refused {s : State} {r : Result} {d : List Byte} (free : guardForbids s = false)
    (idle : ¬ (s.xc.state ≠ .idle ∨ s.ts.commitPending = true)) (h : commitRefusal s = some (r, d)) :
    carryCommit s = (s, r, d) := by
  simp only [carryCommit, free, Bool.false_eq_true, if_false, if_neg idle, h]

/-- A COMMIT that nothing refuses is pending while rounds run, and else starts them. -/
theorem carryCommit_accepted {s : State} (free : guardForbids s = false)
    (idle : ¬ (s.xc.state ≠ .idle ∨ s.ts.commitPending = true)) (h : commitRefusal s = none) :
    carryCommit s =
      if s.rt.running then ({ s with ts := { s.ts with commitPending := true } }, .ok, []) else (firstRound s, .ok, []) := by
  simp only [carryCommit, free, Bool.false_eq_true, if_false, if_neg idle, h]

/-- Settles O29: the judgements in their order. -/
theorem commitIsJudgedInOrder : Obligations.CommitIsJudgedInOrder := by
  intro hdr s b taken rest
  have restOf : LegsAtRest (withService b s) := legsAtRest_congr s _ rfl rfl (fun _ _ h => h) rfl rest
  have takenOf : Taken (withService b s) hdr := taken
  have forbids : guardForbids (presenceRestart (withService b s)) = guardRefuses s b := guardForbids_eq _
  dsimp only
  split
  next refused => exact completes_of_refusal_at_rest rfl takenOf restOf .guarded [] (if_pos (forbids.trans refused)) nofun
  next free =>
    have free : guardForbids (presenceRestart (withService b s)) = false := forbids.trans (Bool.not_eq_true _ ▸ free)
    split
    next busy =>
      refine completes_of_refusal_at_rest rfl takenOf restOf .busy [] ?_ nofun
      rw [carryCommit, free]
      exact if_pos busy
    next idle =>
      have refusals (r : Result) (d : List Byte) (hr : r ≠ .ok) (h : commitRefusal s = some (r, d)) :=
        completes_of_refusal_at_rest (c := .commit hdr b) (s₀ := s) rfl takenOf restOf r d
          (carryCommit_refused free idle h) hr
      have cases_ := commitRefusal_cases s
      revert cases_
      cases firstOffence s.ti.position s.ts.staging with
      | some o => exact fun found => refusals .invalid _ nofun found
      | none =>
        cases overBudget s.ts.staging with
        | some l => exact fun found => refusals .roundBudget _ nofun found
        | none =>
          cases inUseOffence s with
          | some i => exact fun found => refusals .inUse _ nofun found
          | none =>
            intro cases_ running
            have accepted : commitRefusal (presenceRestart (withService b s)) = none := cases_
            exact completes_of_carry_at_rest (r := .ok) (detail := []) rfl takenOf
              ((carryCommit_accepted free idle accepted).trans (if_pos running)) rfl
              (legsAtRest_congr (presenceRestart (withService b s)) _ rfl rfl (fun _ _ h => h) rfl
                (presenceRestart_rest restOf)) (.inl (by decide)) rfl

end Sys2Proof.Machine
end

section
/-! The header drive's commands and events, and UNIT RESET (R139 to R143, R181). -/

namespace Sys2Proof.Machine

open Sys2Proof

/-! ### UNIT RESET -/

/-- Settles O36: the reply keeps the slot, and its end is a row that resets the unit. -/
theorem unitResetTakesEffectAfterItsReply : Obligations.UnitResetTakesEffectAfterItsReply := by
  refine ⟨fun hdr s taken => ?_, fun s f sent => ?_⟩
  · obtain ⟨same, slot, answered, -⟩ := command_settle hdr codeUnitReset [] carryUnitReset s taken.1 taken.2 taken.2.2 rfl
    exact ⟨_, rfl, same, slot, answered⟩
  · rw [← settle_resetUnit]
    simp only [exec, execUpperFrameSent, upperSent, sent, if_true]

/-! ### What the limits and the timer make of the drive -/

/-- An undriven state entered is one that stands. -/
theorem enterHeader_stands {st : HeaderState} {detail : Nat} {h : HeaderDrive} (undriven : st ≠ .closing ∧ st ≠ .opening) :
    stands st h.atClosed h.atOpen (enterHeader st detail none h) :=
  ⟨rfl, decide_eq_false undriven.1, decide_eq_false undriven.2, rfl, rfl, rfl⟩

theorem enterHeader_fault {detail : Nat} {timer : Option Timer} {h : HeaderDrive} (other : h.state ≠ .fault) :
    (enterHeader .fault detail timer h).fault = raise detail := by
  simp only [enterHeader, if_true, if_neg other]

/-- A driven state entered from outside is a stroke under way. -/
theorem enterHeader_strokes (s : State) {st : HeaderState} (driven : st = .closing ∨ st = .opening) :
    strokes s st (enterHeader st 0 (some ⟨s.clock, (settings s).hdrStroke⟩) s.vs.header) := by
  have notFault : st ≠ .fault := by rcases driven with rfl | rfl <;> decide
  refine ⟨rfl, rfl, rfl, rfl, rfl, rfl, ?_⟩
  simp only [enterHeader, if_neg notFault]
  by_cases faulted : s.vs.header.state = .fault
  · simp [faulted, settleClear]
  · simp [faulted]

/-- A close request outside CLOSED and CLOSING, both limits not asserted together: CLOSED at once at the limit, else a
stroke. -/
theorem closeHeader_drives (s : State) (closed : s.vs.header.state ≠ .closed) (closing : s.vs.header.state ≠ .closing)
    (apart : ¬ (s.vs.header.atClosed = true ∧ s.vs.header.atOpen = true)) :
    ∃ h, closeHeader s.clock (settings s).hdrStroke s.vs.header = (h, .ok) ∧
      if s.vs.header.atClosed then stands .closed true false h else strokes s .closing h := by
  have drives : closeHeader s.clock (settings s).hdrStroke s.vs.header =
      (completeAtOnce (enterHeader .closing 0 (some ⟨s.clock, (settings s).hdrStroke⟩) s.vs.header), .ok) := by
    unfold closeHeader
    split
    · contradiction
    · contradiction
    · exact if_neg fun both => apart both.2
  refine ⟨_, drives, ?_⟩
  have strokes_ := enterHeader_strokes s (.inl rfl : HeaderState.closing = .closing ∨ _)
  obtain ⟨state, -, -, -, atClosed, atOpen, -⟩ := id strokes_
  unfold completeAtOnce
  rw [state, atClosed, atOpen]
  split
  next limit =>
    have other : s.vs.header.atOpen = false := Bool.not_eq_true _ ▸ fun h => apart ⟨limit, h⟩
    rw [if_pos ⟨rfl, limit, by rw [other]; exact Bool.false_ne_true⟩]
    have := enterHeader_stands (st := .closed) (detail := 0) (h := enterHeader .closing 0 (some ⟨s.clock, (settings s).hdrStroke⟩) s.vs.header)
      ⟨nofun, nofun⟩
    rwa [atClosed, atOpen, limit, other] at this
  next free =>
    rw [if_neg fun h => free h.2.1, if_neg (by simp)]
    exact strokes_

/-- The same of an open request. -/
theorem openHeader_drives (s : State) (opened : s.vs.header.state ≠ .opened) (opening : s.vs.header.state ≠ .opening)
    (apart : ¬ (s.vs.header.atClosed = true ∧ s.vs.header.atOpen = true)) :
    ∃ h, openHeader s.clock (settings s).hdrStroke s.vs.header = (h, .ok) ∧
      if s.vs.header.atOpen then stands .opened false true h else strokes s .opening h := by
  have drives : openHeader s.clock (settings s).hdrStroke s.vs.header =
      (completeAtOnce (enterHeader .opening 0 (some ⟨s.clock, (settings s).hdrStroke⟩) s.vs.header), .ok) := by
    unfold openHeader
    split
    · contradiction
    · contradiction
    · exact if_neg fun both => apart both.2
  refine ⟨_, drives, ?_⟩
  have strokes_ := enterHeader_strokes s (.inr rfl : _ ∨ HeaderState.opening = .opening)
  obtain ⟨state, -, -, -, atClosed, atOpen, -⟩ := id strokes_
  unfold completeAtOnce
  have notClosing : ¬ (HeaderState.opening = .closing ∧ s.vs.header.atClosed = true ∧ ¬ s.vs.header.atOpen = true) := nofun
  rw [state, atClosed, atOpen, if_neg notClosing]
  split
  next limit =>
    have other : s.vs.header.atClosed = false := Bool.not_eq_true _ ▸ fun h => apart ⟨h, limit⟩
    rw [if_pos ⟨rfl, limit, by rw [other]; exact Bool.false_ne_true⟩]
    have := enterHeader_stands (st := .opened) (detail := 0) (h := enterHeader .opening 0 (some ⟨s.clock, (settings s).hdrStroke⟩) s.vs.header)
      ⟨nofun, nofun⟩
    rwa [atClosed, atOpen, limit, other] at this
  next free =>
    rw [if_neg fun h => free h.2.1]
    exact strokes_

section Commands

variable {hdr : Header} {s : State} {h : HeaderDrive}

theorem movesHeader_close {P : HeaderDrive → Prop} (taken : Taken s hdr)
    (drives : closeHeader s.clock (settings s).hdrStroke s.vs.header = (h, .ok)) (hP : P h) :
    movesHeader (.headerClose hdr) s 0x20 0x00 P := by
  refine ⟨h, hP, completes_of_carry (r := .ok) (detail := []) rfl taken ?_ rfl (.inl (by decide)) rfl⟩
  change plain (setHeader (fun h => (closeHeader s.clock (settings s).hdrStroke h).1) (presenceRestart s),
    (closeHeader s.clock (settings s).hdrStroke s.vs.header).2) = _
  rw [plain, setHeader]
  change ({ presenceRestart s with vs := { s.vs with
    header := (closeHeader s.clock (settings s).hdrStroke s.vs.header).1 } }, _, _) = _
  rw [drives]

theorem movesHeader_open {P : HeaderDrive → Prop} (taken : Taken s hdr) (none : anyEscalated s = false)
    (drives : openHeader s.clock (settings s).hdrStroke s.vs.header = (h, .ok)) (hP : P h) :
    movesHeader (.headerOpen hdr) s 0x21 0x00 P := by
  refine ⟨h, hP, completes_of_carry (r := .ok) (detail := []) rfl taken ?_ rfl (.inl (by decide)) rfl⟩
  rw [carryHeaderOpen, show anyEscalated (presenceRestart s) = false from none]
  change ({ presenceRestart s with vs := { s.vs with
    header := (openHeader s.clock (settings s).hdrStroke s.vs.header).1 } },
    (openHeader s.clock (settings s).hdrStroke s.vs.header).2, _) = _
  rw [drives]

/-- Both limits asserted in FAULT refuse either request. -/
theorem header_refused (fault : s.vs.header.state = .fault) (atClosed : s.vs.header.atClosed = true)
    (atOpen : s.vs.header.atOpen = true) :
    closeHeader s.clock (settings s).hdrStroke s.vs.header = (s.vs.header, .valveFault) ∧
      openHeader s.clock (settings s).hdrStroke s.vs.header = (s.vs.header, .valveFault) := by
  simp only [closeHeader, openHeader, fault, atClosed, atOpen, and_self, if_true]

end Commands

/-- Settles O37, by the drive state and the limits. -/
theorem headerCommandsFollowTheDriveState : Obligations.HeaderCommandsFollowTheDriveState := by
  intro hdr s taken
  dsimp only
  refine ⟨fun already => ?_, fun fault atClosed atOpen => ?_, fun closed closing apart => ?_, fun escalated => ?_,
    fun none => ⟨fun already => ?_, fun fault atClosed atOpen => ?_, fun opened opening apart => ?_⟩⟩
  · refine movesHeader_close (h := s.vs.header) taken ?_ rfl
    rcases already with e | e <;> simp only [closeHeader, e]
  · refine completes_of_refusal rfl taken .valveFault [] ?_ nofun
    change ({ presenceRestart s with vs := { s.vs with
      header := (closeHeader s.clock (settings s).hdrStroke s.vs.header).1 } },
      (closeHeader s.clock (settings s).hdrStroke s.vs.header).2, _) = _
    rw [(header_refused fault atClosed atOpen).1]
    rfl
  · obtain ⟨h, drives, state⟩ := closeHeader_drives s closed closing apart
    exact movesHeader_close taken drives state
  · exact completes_of_refusal rfl taken .wrongState [] (if_pos escalated) nofun
  · refine movesHeader_open (h := s.vs.header) taken none ?_ rfl
    rcases already with e | e <;> simp only [openHeader, e]
  · refine completes_of_refusal rfl taken .valveFault [] ?_ nofun
    rw [carryHeaderOpen, show anyEscalated (presenceRestart s) = false from none]
    change ({ presenceRestart s with vs := { s.vs with
      header := (openHeader s.clock (settings s).hdrStroke s.vs.header).1 } },
      (openHeader s.clock (settings s).hdrStroke s.vs.header).2, _) = _
    rw [(header_refused fault atClosed atOpen).2]
    rfl
  · obtain ⟨h, drives, state⟩ := openHeader_drives s opened opening apart
    exact movesHeader_open taken none drives state

/-! ### Events of the drive -/

/-- What a grant may move of the header drive is the pending flag of its condition. -/
theorem header_of_quiet {t u : State} (same : quiet t = quiet u) :
    ∃ b, t.vs.header = { u.vs.header with fault := { u.vs.header.fault with pending := b } } := by
  have header := congrArg (fun s => s.vs.header) same
  refine ⟨t.vs.header.fault.pending, ?_⟩
  rcases ht : t.vs.header with ⟨_, _, _, _, _, _, _, _, _⟩
  rcases hu : u.vs.header with ⟨_, _, _, _, _, _, _, _, _⟩
  simp only [quiet, ht, hu, HeaderDrive.mk.injEq, unpend, Condition.mk.injEq, and_true] at header ⊢
  exact header

/-- The end of a step with the header drive moved to `h`. -/
theorem settle_header {s : State} {h : HeaderDrive} :
    let t := settle (setHeader (fun _ => h) s)
    quiet t = quiet { s with vs := { s.vs with header := t.vs.header } } ∧
      ∃ b, t.vs.header = { h with fault := { h.fault with pending := b } } := by
  intro t
  have same : quiet t = quiet (setHeader (fun _ => h) s) := quiet_settle _
  obtain ⟨b, moved⟩ := header_of_quiet same
  refine ⟨same.trans ?_, b, moved⟩
  rw [moved]
  rfl

/-- The state of the drive after a change of its limits, by the state before. -/
theorem headerLimits_state (a b : Bool) (h : HeaderDrive) :
    (headerLimits a b h).atClosed = a ∧ (headerLimits a b h).atOpen = b ∧
    (h.state = .closing → (a = true → stands (if b then .fault else .closed) a b (headerLimits a b h)) ∧
      (a = false → headerLimits a b h = { h with atClosed := a, atOpen := b })) ∧
    (h.state = .opening → (b = true → stands (if a then .fault else .opened) a b (headerLimits a b h)) ∧
      (b = false → headerLimits a b h = { h with atClosed := a, atOpen := b })) ∧
    (h.state = .opened ∨ h.state = .closed ∨ h.state = .unknown →
      stands (if a then (if b then .fault else .closed) else if b then .opened else .unknown) a b (headerLimits a b h)) ∧
    (h.state = .fault → (headerLimits a b h).state = .fault) ∧
    (h.state ≠ .fault → (headerLimits a b h).state = .fault → (headerLimits a b h).fault = raise 3) := by
  unfold headerLimits
  cases st : h.state <;> cases a <;> cases b <;>
    simp [stands, enterHeader, headerReading]

/-- Settles O38. -/
theorem headerEventsMoveTheDrive : Obligations.HeaderEventsMoveTheDrive := by
  refine ⟨fun s a b => ?_, fun s x timed st driven state => ?_⟩
  · obtain ⟨atClosed, atOpen, closing, opening, undriven, fault, raised⟩ := headerLimits_state a b s.vs.header
    obtain ⟨same, c, moved⟩ := settle_header (s := s) (h := headerLimits a b s.vs.header)
    refine ⟨_, rfl, same, ?_⟩
    change (settle (setHeader (headerLimits a b) s)).vs.header = _ at moved
    rw [moved]
    refine ⟨atClosed, atOpen, fun e => ⟨(closing e).1, fun free => ?_⟩, fun e => ⟨(opening e).1, fun free => ?_⟩, undriven,
      fault, fun other entered => ?_⟩
    · rw [(closing e).2 free]
      exact ⟨e, rfl, rfl⟩
    · rw [(opening e).2 free]
      exact ⟨e, rfl, rfl⟩
    · rw [raised other entered]
      exact ⟨rfl, rfl⟩
  · have expires : headerExpiry s.vs.header = enterHeader .fault (if st = .closing then 1 else 2) none s.vs.header := by
      simp only [List.mem_cons, List.not_mem_nil, or_false] at driven
      rcases driven with rfl | rfl <;> simp only [headerExpiry, state] <;> rfl
    obtain ⟨same, c, moved⟩ := settle_header (s := reachTime (x.start + 1000 * x.limit) s) (h := headerExpiry s.vs.header)
    have notFault : s.vs.header.state ≠ .fault := by
      rw [state]
      rintro rfl
      simp at driven
    refine ⟨_, ?_, same, ?_⟩
    · simp only [exec, execHeaderStrokeTimerExpiry, timed]
      rfl
    · rw [moved, expires]
      refine ⟨enterHeader_stands (st := .fault) (detail := 0) (h := s.vs.header) ⟨nofun, nofun⟩, ?_⟩
      rw [enterHeader_fault notFault]
      exact ⟨rfl, rfl⟩

end Sys2Proof.Machine
end

section
/-! The meters' counting, the confirm tests, and the reading back of frames and records (R58, R100, R159, R160, R185). -/

namespace Sys2Proof.Machine

open Sys2Proof

/-! ### Meters and confirm tests -/

/-- A change of the signals by its step in the quadrature sequence. -/
theorem meterStep_eq (a b : Bool) (x : MeterState) : meterStep a b x =
    let step := (quadrature a b + 4 - quadrature x.a x.b) % 4
    { x with
      a := a, b := b
      count := if step = 1 then x.count + 1 else if step = 3 then x.count - 1 else x.count
      countError := x.countError || decide (step = 2) } := by
  obtain ⟨a', b', _, _, error, _, _⟩ := x
  cases a <;> cases b <;> cases a' <;> cases b' <;> simp [meterStep, quadrature, forwardStep]

/-- Settles O51. -/
theorem metersCountQuadrature : Obligations.MetersCountQuadrature := by
  intro s m a b
  refine ⟨_, rfl, ?_⟩
  rw [quiet_settle]
  cases m with
  | supply =>
    change quiet { s with fa := { s.fa with supplyMeter := meterStep a b s.fa.supplyMeter } } = _
    rw [meterStep_eq]
  | ret =>
    change quiet { s with fa := { s.fa with returnMeter := meterStep a b s.fa.returnMeter } } = _
    rw [meterStep_eq]

/-- The highest score of a list, with a margin, is reached by `d` exactly when the margin and every score are. -/
theorem foldl_max_add_le {α : Type} (score : α → Nat) (lead d : Nat) : ∀ (l : List α) (m : Nat),
    l.foldl (fun m x => max m (score x)) m + lead ≤ d ↔ m + lead ≤ d ∧ ∀ x ∈ l, score x + lead ≤ d
  | [], m => by simp
  | x :: l, m => by
    have highest : max m (score x) + lead ≤ d ↔ m + lead ≤ d ∧ score x + lead ≤ d := by omega
    rw [List.foldl_cons, foldl_max_add_le score lead d l, List.forall_mem_cons, highest, and_assoc]

/-- Settles O55: the highest other score is reached exactly when each is. -/
theorem confirmTestsAreThoseOfTheRule : Obligations.ConfirmTestsAreThoseOfTheRule := by
  intro s b r d l found
  simp only [confirms, found, Bool.or_eq_true, decide_eq_true_iff, or_assoc, foldl_max_add_le, Nat.zero_add]
  refine or_congr_right (or_congr_left (and_congr_right' (and_congr_right' ?_)))
  cases incidentOf s b with
  | none => simp
  | some i => simp [and_imp]

/-! ### Frames -/

theorem byte_toNat {n : Nat} (h : n ≤ 255) : (byte n).toNat = n := by
  rw [byte, BitVec.toNat_ofNat]
  exact Nat.mod_eq_of_lt (by omega)

/-- Settles O58: the header's length field and check, then the payload and its CRC. -/
theorem framesAreReadBack : Obligations.FramesAreReadBack := by
  rintro ⟨dest, src, place, kind, payload⟩ short
  have length : (byte payload.length).toNat = payload.length := byte_toNat short
  by_cases empty : payload = []
  · subst empty
    simp [encodeFrame, checkFrame, byte]
  · have some_ : payload.length ≠ 0 := fun h => empty (List.length_eq_zero_iff.mp h)
    simp only [encodeFrame, if_neg empty, List.cons_append, List.nil_append, checkFrame, if_true, length,
      if_neg some_, List.take_left, List.drop_left]
    exact if_pos ⟨List.length_append, trivial⟩

/-! ### Fields of a record -/

theorem ofBytes2_bytes2 {n : Nat} (h : n ≤ 65535) : ofBytes2 (byte n) (byte (n / 256)) = n := by
  unfold ofBytes2
  rw [byte_toNat (n := n / 256) (by omega), byte, BitVec.toNat_ofNat]
  omega

theorem signedOf2_signed2 {i : Int} (lo : -2048 ≤ i) (hi : i ≤ 2047) :
    signedOf2 (byte (BitVec.ofInt 16 i).toNat) (byte ((BitVec.ofInt 16 i).toNat / 256)) = i := by
  unfold signedOf2
  rw [ofBytes2_bytes2 (Nat.le_of_lt_succ (BitVec.ofInt 16 i).isLt), BitVec.ofNat_toNat, BitVec.setWidth_eq,
    BitVec.toInt_ofInt_eq_self (by decide) (by omega) (by omega)]

theorem clampTo_eq_self {lo hi n : Nat} (h₁ : lo ≤ n) (h₂ : n ≤ hi) : clampTo lo hi n = n := by
  unfold clampTo
  omega

theorem clampInt_eq_self {lo hi n : Int} (h₁ : lo ≤ n) (h₂ : n ≤ hi) : clampInt lo hi n = n := by
  unfold clampInt
  omega

theorem flagOf_flagByte (b : Bool) : flagOf (flagByte b) = some b := by cases b <;> rfl

theorem mirrorOf_mirrorCode (m : MirrorMode) : mirrorOf (mirrorCode m) = some m := by cases m <;> rfl

theorem placeKey_placeByte {k : NodeKey} (lo : 1 ≤ k.node) (hi : k.node ≤ 30) : placeKey (placeByte k) = some k := by
  obtain ⟨leg, node⟩ := k
  have inRange : 32 * leg.val + node ≤ 255 := by
    have := leg.isLt
    dsimp only at hi
    omega
  have legPart : (32 * leg.val + node) / 32 = leg.val := by
    dsimp only at hi
    omega
  have nodePart : (32 * leg.val + node) % 32 = node := by
    dsimp only at hi
    omega
  simp only [placeKey, placeByte, byte_toNat inRange, legPart, nodePart, legOfNat_eq_some (l := leg) rfl]
  exact if_pos ⟨lo, hi⟩

/-! ### Records -/

/-- A record with its CRC-8 is read back when its content is, and its length is found. -/
theorem withCheck_reads {x : TableId} {bs : List Byte} {body : RecordBody}
    (size : recordSize x (withCheck bs) = .bytes (bs.length + 1)) (parse : parseRecord x bs = some (body, 0)) :
    recordSize x (withCheck bs) = .bytes (withCheck bs).length ∧
      (withCheck bs).getLast? = some (crc8 (withCheck bs).dropLast) ∧
      parseRecord x (withCheck bs).dropLast = some (body, 0) := by
  unfold withCheck at size ⊢
  rw [List.dropLast_concat, List.getLast?_concat, List.length_append]
  exact ⟨size, rfl, parse⟩

/-- Nothing counts as changed when no field is. -/
theorem changedCount_eq_zero {ps : List (Int × Int)} (h : ∀ p ∈ ps, p.1 = p.2) : changedCount ps = 0 := by
  rw [changedCount, List.length_eq_zero_iff, List.filter_eq_nil_iff]
  exact fun p hp => by simpa using h p hp

theorem node_reads (r : NodeRec) (good : goodNode r) :
    recordSize .node (nodeRecordBytes r) = .bytes (nodeRecordBytes r).length ∧
      (nodeRecordBytes r).getLast? = some (crc8 (nodeRecordBytes r).dropLast) ∧
      parseRecord .node (nodeRecordBytes r).dropLast = some (.node r, 0) := by
  obtain ⟨key, mirror, delta, body⟩ := r
  obtain ⟨lo, hi, small, fields⟩ := good
  have place : placeKey (placeByte key) = some key := placeKey_placeByte lo hi
  have delta_ := ofBytes2_bytes2 small
  cases body with
  | flow =>
    refine withCheck_reads ?_ ?_
    · simp [recordSize, withCheck, nodeKind, nodeKindCode, placeOk, place, bytes2]
    · simp [parseRecord, parseNode, nodeKind, nodeKindCode, place, mirrorOf_mirrorCode, bytes2, delta_]
  | valve limit =>
    obtain ⟨one, most⟩ : 1 ≤ limit ∧ limit ≤ 60 := fields
    have limit_ : (byte limit).toNat = limit := byte_toNat (by omega)
    refine withCheck_reads ?_ ?_
    · simp [recordSize, withCheck, nodeKind, nodeKindCode, placeOk, place, bytes2]
    · simp [parseRecord, parseNode, nodeKind, nodeKindCode, place, mirrorOf_mirrorCode, bytes2, delta_, limit_,
        clampTo_eq_self one most, changedCount]
  | drip d =>
    obtain ⟨wet, wet', hyst, flood, flood', unit⟩ : 1 ≤ d.wet ∧ d.wet ≤ 255 ∧ d.hyst ≤ 64 ∧ 1 ≤ d.flood ∧ d.flood ≤ 255 ∧
      d.evUnit ≤ 4 := fields
    refine withCheck_reads ?_ ?_
    · simp [recordSize, withCheck, nodeKind, nodeKindCode, placeOk, place, bytes2]
    · simp [parseRecord, parseNode, nodeKind, nodeKindCode, place, mirrorOf_mirrorCode, bytes2, delta_, flagOf_flagByte,
        byte_toNat wet', byte_toNat (show d.hyst ≤ 255 by omega), byte_toNat flood', byte_toNat (show d.evUnit ≤ 255 by omega),
        clampTo_eq_self wet wet', clampTo_eq_self (Nat.zero_le _) hyst, clampTo_eq_self flood flood', unit, changedCount]

theorem branch_reads (r : BranchRec) (good : goodBranch r) :
    recordSize .branch (branchRecordBytes r) = .bytes (branchRecordBytes r).length ∧
      (branchRecordBytes r).getLast? = some (crc8 (branchRecordBytes r).dropLast) ∧
      parseRecord .branch (branchRecordBytes r).dropLast = some (.branch r, 0) := by
  obtain ⟨supply, ret, valve, low, high, deadband, trip, trip', forgive, tag⟩ := good
  refine withCheck_reads rfl ?_
  cases r
  dsimp only at supply ret valve low high deadband trip trip' forgive tag
  simp [-BitVec.toNat_ofInt, parseRecord, parseBranch, bytes2, signed2, byte_toNat (supply.trans (by decide)),
    byte_toNat (ret.trans (by decide)), byte_toNat (valve.trans (by decide)), byte_toNat forgive, supply, ret, valve,
    signedOf2_signed2 low high, ofBytes2_bytes2 (deadband.trans (by decide)), ofBytes2_bytes2 trip', ofBytes2_bytes2 tag,
    clampInt_eq_self low high, clampTo_eq_self (Nat.zero_le _) deadband, clampTo_eq_self trip trip', changedCount]

/-- A row's candidates are read back from their bytes. -/
theorem parseCandidates_bytes : ∀ {cs : List Candidate}, (∀ c ∈ cs, c.branch ≤ 23 ∧ 1 ≤ c.weight ∧ c.weight ≤ 100) →
    parseCandidates (cs.flatMap fun c => [byte c.branch, byte c.weight]) = cs.map fun c => (c.branch, c.weight)
  | [], _ => rfl
  | c :: cs, good => by
    obtain ⟨⟨branch, -, weight⟩, rest⟩ := List.forall_mem_cons.mp good
    rw [List.flatMap_cons, List.map_cons, ← parseCandidates_bytes rest]
    simp only [List.cons_append, List.nil_append, parseCandidates, byte_toNat (show c.branch ≤ 255 by omega),
      byte_toNat (show c.weight ≤ 255 by omega)]

theorem row_reads (r : RowRec) (good : goodRow r) :
    recordSize .drip (rowRecordBytes r) = .bytes (rowRecordBytes r).length ∧
      (rowRecordBytes r).getLast? = some (crc8 (rowRecordBytes r).dropLast) ∧
      parseRecord .drip (rowRecordBytes r).dropLast = some (.row r, 0) := by
  obtain ⟨unit, node, fall, quiet, quiet', persist, persist', some_, few, cands⟩ := good
  have count : (byte r.cands.length).toNat = r.cands.length := byte_toNat (by omega)
  refine withCheck_reads ?_ ?_
  · simp [recordSize, withCheck, count, some_, few]
    omega
  · have whole : (r.cands.map fun c => (c.branch, c.weight)).take r.cands.length = r.cands.map fun c => (c.branch, c.weight) :=
      List.take_of_length_le (List.length_map _).le
    have branches : (r.cands.map fun c => (c.branch, c.weight)).all (fun p => decide (p.1 ≤ 23)) = true := by
      simpa using fun c hc => (cands c hc).1
    have weights : (r.cands.map fun c => (c.branch, c.weight)).map (fun p => (⟨p.1, clampTo 1 100 p.2⟩ : Candidate)) = r.cands := by
      rw [List.map_map]
      refine (List.map_congr_left fun c hc => ?_).trans (List.map_id _)
      obtain ⟨-, one, most⟩ := cands c hc
      change (⟨c.branch, clampTo 1 100 c.weight⟩ : Candidate) = c
      rw [clampTo_eq_self one most]
    have kept : ∀ c ∈ r.cands, (c.weight : Int) = (clampTo 1 100 c.weight : Nat) := fun c hc => by
      rw [clampTo_eq_self (cands c hc).2.1 (cands c hc).2.2]
    cases r
    dsimp only at unit node fall quiet quiet' persist persist' some_ few count whole branches weights kept cands
    simp only [parseRecord, parseRow, List.cons_append, List.nil_append, parseCandidates_bytes cands, count, whole, branches,
      weights, byte_toNat (unit.trans (by decide)), byte_toNat (node.trans (by decide)), byte_toNat (fall.trans (by decide)),
      byte_toNat (quiet'.trans (by decide)), byte_toNat (persist'.trans (by decide)), clampTo_eq_self (Nat.zero_le _) fall,
      clampTo_eq_self quiet quiet', clampTo_eq_self persist persist']
    have filled : (1 : Byte) ≠ 0#8 := by decide
    rw [if_neg filled, if_pos ⟨unit, node, some_, few, trivial⟩, changedCount_eq_zero]
    simpa using kept

theorem settings_reads (r : Settings) (good : goodSettings r) :
    recordSize .settings (settingsRecordBytes r) = .bytes (settingsRecordBytes r).length ∧
      (settingsRecordBytes r).getLast? = some (crc8 (settingsRecordBytes r).dropLast) ∧
      parseRecord .settings (settingsRecordBytes r).dropLast = some (.settings r, 0) := by
  refine withCheck_reads rfl ?_
  obtain ⟨p1, p2, p3, w1, w2, i1, i2, a1, a2, f1, f2, l2, c1, c2, k1, k2, h1, h2, s1, s2, r1, r2, o1, o2, d2, t1, t2, g2, st1, st2,
    b1, b2, sk, v1, v2⟩ := good
  have period : clampPeriod r.period = r.period := by
    rw [clampPeriod, clampTo_eq_self p1 p2]
    omega
  cases r
  dsimp only at *
  simp [-BitVec.toNat_ofInt, parseRecord, parseSettings, bytes2, signed2, flagOf_flagByte, period,
    byte_toNat (w2.trans (by decide)), byte_toNat (i2.trans (by decide)), byte_toNat (a2.trans (by decide)), byte_toNat f2,
    byte_toNat (l2.trans (by decide)), byte_toNat (c2.trans (by decide)), byte_toNat k2, byte_toNat (h1.trans (by decide)),
    byte_toNat (h2.trans (by decide)), byte_toNat g2, byte_toNat (st2.trans (by decide)), byte_toNat (b2.trans (by decide)),
    byte_toNat (v2.trans (by decide)), ofBytes2_bytes2 (p2.trans (by decide)), ofBytes2_bytes2 s2, ofBytes2_bytes2 r2,
    ofBytes2_bytes2 (d2.trans (by decide)), ofBytes2_bytes2 t2, ofBytes2_bytes2 sk, signedOf2_signed2 o1 o2,
    clampInt_eq_self o1 o2, clampTo_eq_self w1 w2, clampTo_eq_self i1 i2, clampTo_eq_self a1 a2, clampTo_eq_self f1 f2,
    clampTo_eq_self (Nat.zero_le _) l2, clampTo_eq_self c1 c2, clampTo_eq_self k1 k2, clampTo_eq_self (Nat.zero_le _) h2,
    clampTo_eq_self s1 s2, clampTo_eq_self r1 r2, clampTo_eq_self (Nat.zero_le _) d2, clampTo_eq_self t1 t2,
    clampTo_eq_self st1 st2, clampTo_eq_self b1 b2, clampTo_eq_self v1 v2, h1, changedCount]

/-- Settles O59: record by record. -/
theorem recordsAreReadBack : Obligations.RecordsAreReadBack :=
  ⟨node_reads, branch_reads, row_reads, settings_reads, fun x => by cases x <;> exact ⟨rfl, rfl, rfl⟩⟩

end Sys2Proof.Machine
end

section
/-! LOAD TABLE: its first bytes, its records and its end (R158 to R161). -/

namespace Sys2Proof.Machine

open Sys2Proof

/-! ### Slot and reply place at the end of a step -/

/-- No reply waiting for the place, the end of a step leaves the slot alone. -/
theorem settle_slot_of_not_due {s : State} (h : ∀ d, s.ti.slot ≠ .due d) : (settle s).ti.slot = s.ti.slot := by
  have lower : (settle s).ti.slot = (grantUpper s).ti.slot := (upperSide_grantLower (grantUpper s)).2.2.2.1
  rw [lower]
  unfold grantUpper
  split
  · split
    next picked =>
      obtain ⟨-, slot⟩ | ⟨r, -, -, refilled⟩ := pickUpper_reply s _ picked
      · exact slot
      · dsimp only at refilled
        rw [refilled]
        unfold refillPlace
        split
        next due => exact absurd due (h _)
        · rfl
    · rfl
  · rfl

section Placing

variable {d : DueReply} {w : State}

theorem placeDue_eq (free : w.ti.reply = none) : placeDue d w = fillPlace d w := by
  unfold placeDue
  rw [free]

theorem placeOwn_eq (free : w.ti.reply = none) :
    placeOwn d w = { w with ti := { w.ti with reply := some ⟨buildReply w d, false⟩ } } := by
  unfold placeOwn
  rw [free]

theorem buildReply_src : (buildReply w d).src = unitByte w.ti.position := by cases d <;> rfl

/-- A reply placed in a step is answered, and holds the slot as its kind gives. -/
theorem settle_fillPlace : let t := settle (fillPlace d w)
    quiet t = quiet w ∧ t.ti.slot = slotAfter d ∧ Answered t (buildReply w d) (isReset d) ∧ t.ti.position = w.ti.position := by
  obtain ⟨slot, answered⟩ := settle_answered (fillPlace d w) ⟨buildReply w d, isReset d⟩ rfl (slotAfter_ne_due d) buildReply_src
  exact ⟨(quiet_settle _).trans (quiet_fillPlace d w), slot, answered, settle_position _⟩

/-- A reply the Trunk Interface makes itself is answered, and leaves the slot alone. -/
theorem settle_placeOwn (free : w.ti.reply = none) (notDue : ∀ e, w.ti.slot ≠ .due e) : let t := settle (placeOwn d w)
    quiet t = quiet w ∧ t.ti.slot = w.ti.slot ∧ Answered t (buildReply w d) false ∧ t.ti.position = w.ti.position := by
  rw [placeOwn_eq free]
  obtain ⟨slot, answered⟩ := settle_answered { w with ti := { w.ti with reply := some ⟨buildReply w d, false⟩ } }
    ⟨buildReply w d, false⟩ rfl notDue buildReply_src
  exact ⟨quiet_settle _, slot, answered, settle_position _⟩

end Placing

/-- A row whose command is answered where its reply place is free. -/
theorem completes_of_placed {c : Instr} {s₀ w u : State} {code : Byte} {args detail payload : List Byte} {r : Result}
    (he : exec c s₀ = .next (settle (fillPlace (commandReply code args r detail) w))) (notReset : code ≠ codeUnitReset ∨ r ≠ .ok)
    (hq : quiet w = quiet u) (hp : replyPayload w ⟨code, args, r, detail⟩ = payload) : Completes c s₀ u payload := by
  obtain ⟨same, slot, answered, position⟩ := settle_fillPlace (d := commandReply code args r detail) (w := w)
  have notReset := isReset_eq_false (args := args) (detail := detail) notReset
  rw [notReset] at answered
  refine ⟨_, he, same.trans hq, ?_, slot.trans ?_⟩
  · rw [position, ← hp]
    exact answered
  · unfold slotAfter
    rw [notReset]
    rfl

/-! ### First bytes -/

/-- A frame for this unit is consumed here, sent to it alone or to all. -/
theorem route_forUnit {s : State} {kind dest : Byte} (h : ForUnit s dest) (down : upwardKind kind = false)
    (notNumber : kind ≠ kindNumber) :
    routeOf s.ti .upper kind dest = .consumed ∨ routeOf s.ti .upper kind dest = .consumedAndForwarded := by
  obtain ⟨receives, p, position, one, four, rfl | ⟨rfl, -⟩⟩ := h
  · left
    have here : (byte p).toNat = p := byte_toNat (by omega)
    simp [routeOf, routeUpper, receives, down, notNumber, position, here]
  · right
    have above : ¬ 255 < p := by omega
    have other : 255 ≠ p := by omega
    simp [routeOf, routeUpper, receives, down, notNumber, position, above, other]

theorem loadBegins_forUnit {hdr : Header} {s : State} {table first : Option Byte} (h : ForUnit s hdr.dest)
    (none : s.ti.load = none) : loadBegins hdr table first s = startLoad hdr table first s := by
  unfold loadBegins
  rw [none]
  rcases route_forUnit h (kind := kindCommand) rfl (by decide) with route | route <;> rw [route] <;> rfl

/-- The data of a LOAD TABLE's reply follow its result whatever that is. -/
theorem replyPayload_load {s : State} {r : Result} {detail : List Byte} :
    replyPayload s ⟨codeLoadTable, [], r, detail⟩ = 0x02 :: resultCode r :: detail := by
  unfold replyPayload
  split
  · simp only [okData]
    rfl
  · rfl

section FirstBytes

variable {hdr : Header} {s : State} {table first : Option Byte}

theorem startLoad_refused {r : Result} (free : CanAnswer s) (judged : judgeLoad s hdr.dest table first = .refuse r) :
    startLoad hdr table first s = fillPlace (commandReply codeLoadTable [] r [])
      { s with ti := { s.ti with load := some (freshLoad hdr .refused table first) } } := by
  simp only [startLoad, slotFree, free.1, decide_true, if_true, judged]
  exact placeDue_eq free.2

theorem startLoad_accepted {t : TableId} (free : CanAnswer s) (judged : judgeLoad s hdr.dest table first = .accept t) :
    startLoad hdr table first s = enterLoad (freshLoad hdr (.accepted t) table first) s := by
  simp only [startLoad, slotFree, free.1, decide_true, if_true, judged]

theorem startLoad_short (free : CanAnswer s) (judged : judgeLoad s hdr.dest table first = .short) :
    startLoad hdr table first s = enterLoad (freshLoad hdr .short table first) s := by
  simp only [startLoad, slotFree, free.1, decide_true, if_true, judged]

end FirstBytes

/-- Settles O31, by the judgement of the first bytes. -/
theorem loadTableIsJudgedOnItsFirstBytes : Obligations.LoadTableIsJudgedOnItsFirstBytes := by
  intro hdr s table first b taken idle
  have begins : exec (.loadTable hdr table first b) s = .next (settle (startLoad hdr table first (withService b s))) := by
    rw [← loadBegins_forUnit (s := withService b s) taken.1 idle]
    rfl
  have free : CanAnswer (withService b s) := taken.2
  have refused {r : Result} (judged : judgeLoad (withService b s) hdr.dest table first = .refuse r) :
      Completes (.loadTable hdr table first b) s
        { withService b s with ti := { s.ti with load := some (freshLoad hdr .refused table first) } } [0x02, resultCode r] := by
    rw [startLoad_refused free judged] at begins
    exact completes_of_placed begins (.inl (by decide)) rfl replyPayload_load
  have enters {mode : LoadMode} (entered : startLoad hdr table first (withService b s) =
      enterLoad (freshLoad hdr mode table first) (withService b s)) :
      ∃ t, exec (.loadTable hdr table first b) s = .next t ∧ t.ti.slot = .loading ∧
        quiet t = quiet { withService b s with ti := { s.ti with load := some (freshLoad hdr mode table first) } } := by
    rw [entered] at begins
    exact ⟨_, begins, settle_slot_of_not_due nofun, quiet_settle _⟩
  have forbids : guardForbids (withService b s) = guardRefuses s b := guardForbids_eq _
  have judged : judgeLoad (withService b s) hdr.dest table first =
      if hdr.dest = 255 then .refuse .badArgument else if guardRefuses s b then .refuse .guarded else judgeTable table first := by
    rw [judgeLoad, forbids]
  dsimp only
  by_cases toAll : hdr.dest = 255
  · rw [if_pos toAll] at judged ⊢
    exact refused judged
  rw [if_neg toAll] at judged ⊢
  by_cases guarded : guardRefuses s b = true
  · rw [if_pos guarded] at judged ⊢
    exact refused judged
  rw [if_neg guarded] at judged ⊢
  unfold judgeTable at judged
  cases table with
  | none => exact enters (startLoad_short free judged)
  | some id =>
    dsimp only at judged ⊢
    cases named : tableOf id with
    | none =>
      rw [named] at judged
      exact refused judged
    | some x =>
      rw [named] at judged
      cases first with
      | none => exact enters (startLoad_short free judged)
      | some n =>
        dsimp only at judged ⊢
        by_cases beyond : lastIndex x < n.toNat
        · rw [if_pos beyond] at judged ⊢
          exact refused judged
        · rw [if_neg beyond] at judged ⊢
          exact enters (startLoad_accepted free judged)

/-! ### Records -/

theorem loadBytes_some {s : State} {l : Load} (h : s.ti.load = some l) (bytes : List Byte) :
    loadBytes bytes s = { s with
      ti := { s.ti with load := some (feedLoad bytes (l, s.ts.staging)).1 }
      ts := { s.ts with staging := (feedLoad bytes (l, s.ts.staging)).2 } } := by
  simp only [loadBytes, h]

theorem takeRecords_of_stop {t : TableId} {fuel : Nat} {bs : List Byte} {p : Load × Bank} (h : p.1.stop.isSome = true) :
    takeRecords t fuel bs p = p := by
  cases fuel with
  | zero => rfl
  | succ n => exact if_pos h

theorem takeRecords_nil (t : TableId) (fuel : Nat) (p : Load × Bank) : takeRecords t fuel [] p = p := by
  cases fuel with
  | zero => rfl
  | succ n =>
    unfold takeRecords
    split
    · rfl
    · rfl

/-- One whole record is judged, and nothing follows it. -/
theorem takeRecords_whole {t : TableId} {fuel : Nat} {bs : List Byte} {p : Load × Bank} (goes : p.1.stop = none)
    (whole : recordSize t bs = .bytes bs.length) : takeRecords t (fuel + 1) bs p = judgeRecord t bs p := by
  unfold takeRecords
  simp only [goes, Option.isSome_none, Bool.false_eq_true, if_false, whole, lt_irrefl, List.drop_length, List.take_length]
  exact takeRecords_nil ..

theorem feedLoad_accepted {l : Load} {x : TableId} (h : l.mode = .accepted x) (bytes : List Byte) (b : Bank) :
    feedLoad bytes (l, b) = takeRecords x (bytes.length + 1) bytes ({ l with payload := l.payload ++ bytes }, b) := by
  simp only [feedLoad, h]

/-- No bytes, no change. -/
theorem feedLoad_nil (p : Load × Bank) : feedLoad [] p = p := by
  unfold feedLoad
  simp only [List.append_nil]
  split
  · exact takeRecords_nil ..
  · rfl

theorem loadBytes_nil (s : State) : loadBytes [] s = s := by
  unfold loadBytes
  split
  · rfl
  next l loading =>
    rw [feedLoad_nil]
    dsimp only
    rw [← loading]

/-- Settles O32, by the judgement of the record. -/
theorem loadRecordsAreAppliedWhole : Obligations.LoadRecordsAreAppliedWhole := by
  intro s l bytes loading
  have after {l' : Load} {bank : Bank}
      (fed : feedLoad bytes (l, s.ts.staging) = ({ l' with payload := l.payload ++ bytes }, bank)) :
      ∃ t, exec (.loadTableRecord bytes) s = .next t ∧
        quiet t = quiet { s with ti := { s.ti with load := some { l' with payload := l.payload ++ bytes } },
                                 ts := { s.ts with staging := bank } } := by
    refine ⟨_, rfl, (quiet_settle _).trans ?_⟩
    rw [loadBytes_some loading, fed]
  refine ⟨fun inert => after ?_, fun x accepted => ?_⟩
  · rcases inert with mode | mode | mode | mode <;> simp only [feedLoad, mode]
  have fed := feedLoad_accepted accepted bytes s.ts.staging
  refine ⟨fun stopped => after (fed.trans (takeRecords_of_stop stopped)), fun goes bad => after (fed.trans ?_),
    fun goes whole => ?_⟩
  · unfold takeRecords
    simp only [goes, Option.isSome_none, Bool.false_eq_true, if_false, bad]
    rfl
  · have judged := fed.trans (takeRecords_whole goes whole)
    unfold judgeRecord at judged
    dsimp only at judged ⊢
    split at judged
    next failed =>
      rw [if_pos failed]
      exact after (l' := { l with stop := some .checkFailed }) judged
    next passed =>
      rw [if_neg passed]
      split at judged
      next beyond =>
        rw [if_pos beyond]
        exact after (l' := { l with stop := some .badRecord }) judged
      next inside =>
        rw [if_neg inside]
        cases parsed : parseRecord x bytes.dropLast with
        | none =>
          rw [parsed] at judged
          exact after (l' := { l with stop := some .badRecord }) judged
        | some found =>
          obtain ⟨body, n⟩ := found
          rw [parsed] at judged
          exact after (l' := { l with applied := l.applied + 1, clamped := l.clamped + n, next := l.next + 1 }) judged

/-! ### The end of the frame -/

section Ending

variable {s w : State} {l : Load} {e : LoadEnding}

/-- A load of this unit that ends with an error. -/
theorem loadEnds_error {k : FrameError} (loading : s.ti.load = some l) (error : loadError l.payload e = some k) :
    loadEnds [] e s = concludeLoad l e (recordError k .upper { s with ti := { s.ti with load := none } }) := by
  simp only [loadEnds, loadBytes_nil, loading, error]

/-- A load for this unit's position that ends whole and good is a checked frame. -/
theorem loadEnds_good {p : Nat} (loading : s.ti.load = some l) (good : loadError l.payload e = none)
    (receives : s.ti.upperBreak = false) (position : s.ti.position = some p) (low : p ≤ 4) (dest : l.hdr.dest = byte p) :
    loadEnds [] e s = concludeLoad l e (presenceRestart { s with ti := { s.ti with load := none } }) := by
  have here : (byte p).toNat = p := byte_toNat (by omega)
  have route : routeOf { s.ti with load := none } .upper kindCommand (byte p) = .consumed := by
    have down : upwardKind kindCommand = false := rfl
    have notNumber : kindCommand ≠ kindNumber := by decide
    simp [routeOf, routeUpper, receives, position, here, down, notNumber]
  simp only [loadEnds, loadBytes_nil, loading, good, receive, loadFrame, dest, route]
  rfl

theorem concludeLoad_answers (h : l.mode = .short ∧ loadGood l.payload e = false ∨ ∃ x, l.mode = .accepted x)
    (slot : w.ti.slot = .loading) (free : w.ti.reply = none) :
    concludeLoad l e w = useFreeIf (loadOpen l e) (fillPlace (loadReply w.free l e) w) := by
  have answers : answerLoad l e w = useFreeIf (loadOpen l e) (fillPlace (loadReply w.free l e) w) := by
    rw [answerLoad, if_pos slot, placeDue_eq free]
  rcases h with ⟨short, bad⟩ | ⟨x, accepted⟩
  · simpa only [concludeLoad, short, answerShort, bad, Bool.false_eq_true, if_false] using answers
  · simpa only [concludeLoad, accepted] using answers

/-- The reply of R161 is built from the load alone. -/
theorem useFreeIf_fillPlace (b : Bool) (free : Nat) : useFreeIf b (fillPlace (loadReply free l e) w) =
    fillPlace (loadReply free l e) (useFreeIf b w) := by
  cases b <;> rfl

/-- The reply of R161, field by field. -/
theorem completes_of_answered {u : State} {code : Byte} {whole failed : Bool}
    (ends : loadEnds [] e s = useFreeIf (loadOpen l e) (fillPlace (loadReply w.free l e) w)) (hq : quiet w = quiet u)
    (verdict : loadVerdict w.free l.payload e = (whole, failed)) (result : resultCode (loadResult l.stop whole failed) = code) :
    ∃ table first : Byte, (∀ b, l.table = some b → table = b) ∧ (∀ b, l.first = some b → first = b) ∧
      Completes (.loadTableEnd [] e) s u
        [0x02, code, table, first, byte l.applied, flagByte whole, flagByte failed, byte l.clamped,
          if l.stop.isSome then byte l.next else 255] := by
  refine ⟨l.table.getD (Config.freeByte w.free 0), l.first.getD (Config.freeByte w.free 1), fun b named => by rw [named]; rfl,
    fun b named => by rw [named]; rfl, ?_⟩
  rw [useFreeIf_fillPlace] at ends
  refine completes_of_placed (congrArg (fun x => Host.Outcome.next (settle x)) ends) (.inl (by decide))
    ((quiet_useFreeIf _ _).trans hq) ?_
  rw [replyPayload_load, verdict, result]
  rfl

end Ending

/-- Settles O33: each ending reaches the reply of R161, or the refusal of a whole frame that was too short. -/
theorem loadTableEndIsAnswered : Obligations.LoadTableEndIsAnswered := by
  intro s l p loading mode slot reply receives position low dest
  dsimp only
  have badOrAccepted {e : LoadEnding} (bad : loadGood l.payload e = false) :
      l.mode = .short ∧ loadGood l.payload e = false ∨ ∃ x, l.mode = .accepted x := mode.imp_left fun short => ⟨short, bad⟩
  have fails {e : LoadEnding} {k : FrameError} (error : loadError l.payload e = some k) (bad : loadGood l.payload e = false) :=
    (loadEnds_error loading error).trans (concludeLoad_answers (w := recordError k .upper { s with ti := { s.ti with load := none } })
      (badOrAccepted bad) slot reply)
  have partly {whole failed : Bool} (bad : (whole && !failed) = false) : resultCode (loadResult l.stop whole failed) =
      match l.stop with | some .badRecord => 0x04 | some .checkFailed => 0x05 | none => 0x05 := by
    unfold loadResult
    rw [bad]
    rcases l.stop with _ | (_ | _) <;> rfl
  have good := loadEnds_good (e := .whole (crc16 l.payload)) loading (if_pos rfl) receives position low dest
  have intact : decide (crc16 l.payload ≠ crc16 l.payload) = false := decide_eq_false (not_not_intro rfl)
  refine ⟨fun whole => ?_, fun short => ?_, fun c wrong => ?_, fun c => ?_, ?_⟩
  · obtain ⟨x, accepted⟩ := mode.resolve_left whole
    have ends := good.trans (concludeLoad_answers (w := presenceRestart { s with ti := { s.ti with load := none } })
      (.inr ⟨x, accepted⟩) slot reply)
    refine completes_of_answered ends rfl (congrArg (Prod.mk true) intact) ?_
    unfold loadResult
    rcases l.stop with _ | (_ | _) <;> rfl
  · have conclude : concludeLoad l (.whole (crc16 l.payload)) (presenceRestart { s with ti := { s.ti with load := none } }) =
        fillPlace (commandReply codeLoadTable [] .badArgument [])
          (presenceRestart { s with ti := { s.ti with load := none } }) := by
      simp only [concludeLoad, short, answerShort, loadGood, decide_true, if_true]
      exact (if_pos slot).trans (placeDue_eq reply)
    exact completes_of_placed (congrArg (fun x => Host.Outcome.next (settle x)) (good.trans conclude)) (.inl (by decide)) rfl
      replyPayload_load
  · exact completes_of_answered (failed := true) (fails (e := .whole c) (if_neg wrong) (decide_eq_false wrong)) rfl
      (congrArg (Prod.mk true) (decide_eq_true wrong)) (partly rfl)
  · obtain ⟨table, first, isTable, isFirst, completes⟩ :=
      completes_of_answered (fails (e := .overlong c) rfl rfl) rfl rfl (partly rfl)
    refine ⟨table, first, isTable, isFirst, ?_⟩
    have failed : flagByte (decide (c ≠ crc16 l.payload)) = if c = crc16 l.payload then 0x00 else 0x01 := by
      by_cases e : c = crc16 l.payload <;> simp [e, flagByte]
    rw [← failed]
    exact completes
  · refine ⟨_, ?_, completes_of_answered (fails (e := .broken) rfl rfl) rfl rfl (partly rfl)⟩
    unfold flagByte
    split
    · exact .inr rfl
    · exact .inl rfl

end Sys2Proof.Machine
end

section
/-! What the arbiters move, and the rows of the trunk that end with them: BREAK, HOLD, forwarded frames and NUMBER
(R174 to R178, R180, R182, R183). -/

namespace Sys2Proof.Machine

open Sys2Proof

/-! ### What one grant of the lower arbiter moves -/

/-- The runtime of a node whose DROP REPORT material has been granted. -/
def materialTaken (n : NodeRun) : NodeRun := { n with evPending := false, pendDrops := 0, pendOnset := false }

/-- `t` is `s` with the lower side of the trunk moved, and the material of one node taken at most. -/
def LowerMoved (s t : State) : Prop :=
  ∃ nodes df onward tx last,
    t = { s with
      nd := { s.nd with nodes := nodes }
      ti := { s.ti with df := df, onward := onward, lowerTx := tx, lastWasDf := last } } ∧
    (nodes = s.nd.nodes ∨ ∃ k, nodes = assocMap k materialTaken s.nd.nodes)

/-- The state after a lower grant, its frame on the wire. -/
def sentDown (g : Grant) : State := { g.2 with ti := { g.2.ti with lowerTx := .frame g.1.frame } }

theorem pickLower_moved (s : State) : ∀ g, pickLower s = some g → LowerMoved s (sentDown g) :=
  pickLower_elim (P := fun g => LowerMoved s (sentDown g)) s
    (grantOnward_elim s fun _ _ => ⟨_, _, _, _, _, rfl, .inl rfl⟩)
    (grantDf_elim (P := fun g => LowerMoved s (sentDown (nameDf true g))) s fun _ _ _ => ⟨_, _, _, _, _, rfl, .inl rfl⟩)
    (fun _ g _ granted => grantDrop_elim (P := fun g => LowerMoved s (sentDown (nameDf false g))) _ s
      (fun _ r _ _ _ => ⟨_, _, _, _, _, rfl, .inr ⟨r.key, rfl⟩⟩) g granted)

theorem grantLower_moved (s : State) : LowerMoved s (grantLower s) := by
  have still : LowerMoved s s := ⟨_, _, _, _, _, rfl, .inl rfl⟩
  unfold grantLower
  split
  · split
    next picked => exact pickLower_moved s _ picked
    · exact still
  · exact still

theorem grantLower_of_pickLower {s : State} {g : Grant} (ready : lowerReady s = true) (picked : pickLower s = some g) :
    grantLower s = sentDown g := by
  simp only [grantLower, ready, if_true, picked]
  rfl

theorem grantUpper_of_not_ready {s : State} (h : upperReady s = false) : grantUpper s = s := by
  simp only [grantUpper, h, Bool.false_eq_true, if_false]

theorem grantLower_of_not_ready {s : State} (h : lowerReady s = false) : grantLower s = s := by
  simp only [grantLower, h, Bool.false_eq_true, if_false]

/-- DF after a lower grant: as before, or less its head, which is on the wire. -/
theorem grantLower_df (s : State) : (grantLower s).ti.df = s.ti.df ∨
    ∃ f, s.ti.df = f :: (grantLower s).ti.df ∧ (grantLower s).ti.lowerTx = .frame f := by
  unfold grantLower
  split
  · split
    next picked =>
      exact pickLower_elim (P := fun g => (sentDown g).ti.df = s.ti.df ∨
          ∃ f, s.ti.df = f :: (sentDown g).ti.df ∧ (sentDown g).ti.lowerTx = .frame f) s
        (grantOnward_elim s fun _ _ => .inl rfl)
        (grantDf_elim (P := fun g => (sentDown (nameDf true g)).ti.df = s.ti.df ∨
          ∃ f, s.ti.df = f :: (sentDown (nameDf true g)).ti.df ∧ (sentDown (nameDf true g)).ti.lowerTx = .frame f) s
          fun f _ head => .inr ⟨f, head, rfl⟩)
        (fun _ g _ granted => grantDrop_elim (P := fun g => (sentDown (nameDf false g)).ti.df = s.ti.df ∨
          ∃ f, s.ti.df = f :: (sentDown (nameDf false g)).ti.df ∧ (sentDown (nameDf false g)).ti.lowerTx = .frame f) _ s
          (fun _ _ _ _ _ => .inl rfl) g granted) _ picked
    · exact .inl rfl
  · exact .inl rfl

/-! ### What one grant of the upper arbiter moves -/

/-- The state after an upper grant, its frame on the wire. -/
def sentUp (g : Grant) : State := { g.2 with ti := { g.2.ti with upperTx := some g.1 } }

theorem grantUpper_of_pickUpper {s : State} {g : Grant} (ready : upperReady s = true) (picked : pickUpper s = some g) :
    grantUpper s = sentUp g := by
  simp only [grantUpper, ready, if_true, picked]
  rfl

/-- What holds of every choice of the upper arbiter, and of none, holds after it. -/
theorem grantUpper_elim {P : State → Prop} (s : State) (still : P s) (sent : ∀ g, pickUpper s = some g → P (sentUp g)) :
    P (grantUpper s) := by
  unfold grantUpper
  split
  · split
    next picked => exact sent _ picked
    · exact still
  · exact still

/-- UF and UR of `t` are those of `s`, or one of them less its head, which is on the wire. -/
def FifosMoved (s t : State) : Prop :=
  (t.ti.uf = s.ti.uf ∨ ∃ f, s.ti.uf = f :: t.ti.uf ∧ t.ti.upperTx = some ⟨f, false⟩) ∧
    (t.ti.ur = s.ti.ur ∨ ∃ f, s.ti.ur = f :: t.ti.ur ∧ t.ti.upperTx = some ⟨f, false⟩)

theorem grantAlarm_ti (s : State) : ∀ g, grantAlarm s = some g → g.2.ti = { s.ti with lost := g.2.ti.lost } :=
  grantAlarm_elim (P := fun g => g.2.ti = { s.ti with lost := g.2.ti.lost }) s (fun _ _ _ => rfl) (fun _ _ => rfl)
    (fun u => by
      dsimp only
      rw [useFreeIf_ti]
      cases u <;> rfl) (fun _ _ _ => rfl)

theorem refillPlace_fifos (s : State) : (refillPlace s).ti.uf = s.ti.uf ∧ (refillPlace s).ti.ur = s.ti.ur := by
  unfold refillPlace
  split
  · exact ⟨rfl, rfl⟩
  · exact ⟨rfl, rfl⟩

theorem grantUpper_fifos (s : State) : FifosMoved s (grantUpper s) := by
  refine grantUpper_elim s ⟨.inl rfl, .inl rfl⟩ (pickUpper_elim (P := fun g => FifosMoved s (sentUp g)) s ?_ ?_ ?_ ?_ ?_ ?_)
  · intro g granted
    have kept := grantAlarm_ti s g granted
    have uf : g.2.ti.uf = s.ti.uf := by rw [kept]
    have ur : g.2.ti.ur = s.ti.ur := by rw [kept]
    exact ⟨.inl uf, .inl ur⟩
  · exact grantUf_elim (P := fun g => FifosMoved s (sentUp (nameA false g))) s
      fun f _ head => ⟨.inr ⟨f, head, rfl⟩, .inl rfl⟩
  · refine grantReply_elim (P := fun g => FifosMoved s (sentUp g)) s fun r _ => ?_
    obtain ⟨uf, ur⟩ := refillPlace_fifos { s with ti := { s.ti with reply := none } }
    exact ⟨.inl uf, .inl ur⟩
  · intro p g _ granted
    exact grantDrop_elim (P := fun g => FifosMoved s (sentUp g)) _ s (fun _ _ _ _ _ => ⟨.inl rfl, .inl rfl⟩) g granted
  · exact grantUr_elim (P := fun g => FifosMoved s (sentUp (nameE true g))) s
      fun f _ head => ⟨.inl rfl, .inr ⟨f, head, rfl⟩⟩
  · exact grantRoutine_elim (P := fun g => FifosMoved s (sentUp (nameE false g))) s ⟨.inl rfl, .inl rfl⟩
      fun _ _ _ _ => ⟨.inl rfl, .inl rfl⟩

theorem settle_fifos (s : State) : FifosMoved s (settle s) := by
  obtain ⟨uf, ur, -, -, tx, -, -⟩ := upperSide_grantLower (grantUpper s)
  have moved := grantUpper_fifos s
  unfold FifosMoved at moved ⊢
  change ((grantLower (grantUpper s)).ti.uf = _ ∨ ∃ f, _ = f :: (grantLower (grantUpper s)).ti.uf ∧
      (grantLower (grantUpper s)).ti.upperTx = _) ∧
    ((grantLower (grantUpper s)).ti.ur = _ ∨ ∃ f, _ = f :: (grantLower (grantUpper s)).ti.ur ∧
      (grantLower (grantUpper s)).ti.upperTx = _)
  rw [uf, ur, tx]
  exact moved

theorem settle_df (s : State) : (settle s).ti.df = s.ti.df ∨
    ∃ f, s.ti.df = f :: (settle s).ti.df ∧ (settle s).ti.lowerTx = .frame f := by
  rw [← (lowerSide_grantUpper s).1]
  exact grantLower_df (grantUpper s)

/-! ### BREAK -/

theorem settle_pins_holds (s : State) : (settle s).pins.holdToAbove = decide (7 ≤ (settle s).ti.df.length) ∧
    (settle s).pins.holdToBelow = decide (7 ≤ (settle s).ti.uf.length ∨ 7 ≤ (settle s).ti.ur.length) := ⟨rfl, rfl⟩

/-- An empty FIFO stays empty at the end of a step. -/
theorem settle_fifos_empty {s : State} (uf : s.ti.uf = []) (ur : s.ti.ur = []) (df : s.ti.df = []) :
    (settle s).ti.uf = [] ∧ (settle s).ti.ur = [] ∧ (settle s).ti.df = [] := by
  obtain ⟨upper, upper'⟩ := settle_fifos s
  refine ⟨upper.elim (·.trans uf) fun ⟨f, head, _⟩ => ?_, upper'.elim (·.trans ur) fun ⟨f, head, _⟩ => ?_,
    (settle_df s).elim (·.trans df) fun ⟨f, head, _⟩ => ?_⟩
  · rw [uf] at head
    cases head
  · rw [ur] at head
    cases head
  · rw [df] at head
    cases head

/-- No reply in the place and none that waits for it, none stands there at the end of the step. -/
theorem settle_reply_none {s : State} (free : s.ti.reply = none) : (settle s).ti.reply = none := by
  have lower : (settle s).ti.reply = (grantUpper s).ti.reply := (upperSide_grantLower (grantUpper s)).2.2.1
  rw [lower]
  refine grantUpper_elim (P := fun t => t.ti.reply = none) s free fun g picked => ?_
  obtain ⟨reply, -⟩ | ⟨r, occupied, -⟩ := pickUpper_reply s g picked
  · exact reply.trans free
  · rw [free] at occupied
    cases occupied

/-- A lower transmitter that is not free goes on, and its sources stay. -/
theorem settle_lower_busy {s : State} (busy : s.ti.lowerTx ≠ .free ∨ s.pins.holdFromBelow = true) :
    (settle s).ti.lowerTx = s.ti.lowerTx ∧ (settle s).ti.onward = s.ti.onward ∧ (settle s).ti.df = s.ti.df := by
  obtain ⟨df, tx, onward, -, pins⟩ := lowerSide_grantUpper s
  have notReady : lowerReady (grantUpper s) = false := by
    unfold lowerReady
    rw [tx, pins]
    rcases busy with sending | held
    · rw [decide_eq_false sending, Bool.false_and]
    · rw [held, Bool.not_true, Bool.and_false]
  have same : settle s = setOutputs (grantUpper s) := congrArg setOutputs (grantLower_of_not_ready notReady)
  rw [same]
  exact ⟨tx, onward, df⟩

/-- An upper transmitter that may send nothing goes on, and its sources stay. -/
theorem settle_upper_held {s : State} (held : s.pins.holdFromAbove = true) :
    (settle s).ti.upperTx = s.ti.upperTx ∧ (settle s).ti.uf = s.ti.uf ∧ (settle s).ti.ur = s.ti.ur ∧
      (settle s).ti.reply = s.ti.reply := by
  have notReady : upperReady s = false := by rw [upperReady, held, Bool.not_true, Bool.and_false]
  have same : settle s = setOutputs (grantLower s) := by
    unfold settle
    rw [grantUpper_of_not_ready notReady]
  obtain ⟨uf, ur, reply, -, tx, -, -⟩ := upperSide_grantLower s
  rw [same]
  exact ⟨tx, uf, ur, reply⟩

/-- Settles O16: a BREAK leaves a trunk with nothing to grant downward, and nothing of its own upward. -/
theorem breakClearsTheTrunk : Obligations.BreakClearsTheTrunk := by
  refine ⟨fun s released waits => ?_, fun s => ⟨_, rfl, quiet_settle _⟩, fun s => ⟨_, rfl, quiet_settle _⟩,
    fun s => ⟨_, rfl, quiet_settle _⟩⟩
  obtain ⟨w, isW⟩ : ∃ w, w = { s with
      ti := breakTrunk s.clock s.ti, le := { s.le with legs := mapLegs (fun _ e => dropRelay e) s.le.legs } } := ⟨_, rfl⟩
  have breaks : exec .breakUpper s = .next (settle w) := by
    simp only [exec, execBreakUpper, breakUpper, released, waits, Bool.false_eq_true, if_false, isW]
  have broken : w.ti = breakTrunk s.clock s.ti := by rw [isW]
  have slotFree_ : w.ti.slot = .empty := by rw [broken]; rfl
  obtain ⟨uf, ur, df⟩ := settle_fifos_empty (s := w) (by rw [broken]; rfl) (by rw [broken]; rfl) (by rw [broken]; rfl)
  obtain ⟨tx, onward, -⟩ := settle_lower_busy (s := w) (.inl (by rw [broken]; nofun))
  obtain ⟨above, below⟩ := settle_pins_holds w
  refine ⟨settle w, breaks, ?_, uf, ur, df, ?_, settle_reply_none (by rw [broken]; rfl), ?_, ?_, ?_, ?_⟩
  · rw [quiet_settle, isW]
    rfl
  · rw [settle_slot_of_not_due (by rw [slotFree_]; nofun), slotFree_]
  · rw [tx, broken]
    rfl
  · rw [onward, broken]
    rfl
  · rw [above, df]
    rfl
  · rw [below, uf, ur]
    rfl

/-! ### DROP REPORTs that wait -/

/-- What `pendingDrop` finds at one node. -/
def dropAt (dir : Nat → Bool) (s : State) (p : Nat × NodeRec) : Option (Nat × NodeRec × NodeRun × Nat) :=
  match dripFields p.2, assocGet p.2.key s.nd.nodes with
  | some d, some n =>
    let u := resolveUnit s.ti.position d.evUnit
    if n.evPending ∧ u ≠ 0 ∧ dir u then some (p.1, p.2, n, u) else none
  | _, _ => none

theorem pendingDrop_eq (dir : Nat → Bool) (s : State) : pendingDrop dir s = s.ts.active.nodes.findSome? (dropAt dir s) := rfl

theorem dropAt_eq_some_iff {dir : Nat → Bool} {s : State} {p : Nat × NodeRec} {x : Nat × NodeRec × NodeRun × Nat} :
    dropAt dir s p = some x ↔ ∃ d n, p.2.body = .drip d ∧ assocGet p.2.key s.nd.nodes = some n ∧ n.evPending = true ∧
      resolveUnit s.ti.position d.evUnit ≠ 0 ∧ dir (resolveUnit s.ti.position d.evUnit) = true ∧
      x = (p.1, p.2, n, resolveUnit s.ti.position d.evUnit) := by
  unfold dropAt dripFields
  cases p.2.body with
  | flow => simp
  | valve => simp
  | drip d =>
    cases assocGet p.2.key s.nd.nodes with
    | none => simp
    | some n =>
      dsimp only
      constructor
      · intro found
        split at found
        next waits => exact ⟨d, n, rfl, rfl, waits.1, waits.2.1, waits.2.2, (Option.some.inj found).symm⟩
        next => cases found
      · rintro ⟨d', n', isD, isN, pending, other, allows, rfl⟩
        cases isD
        cases isN
        exact if_pos ⟨pending, other, allows⟩

theorem dropAt_eq_none_iff {dir : Nat → Bool} {s : State} {p : Nat × NodeRec} :
    dropAt dir s p = none ↔ ¬ dropWaits (fun u => dir u = true) s p.2 := by
  rw [← not_iff_not, not_not, ← Ne, Option.ne_none_iff_exists']
  constructor
  · rintro ⟨x, found⟩
    obtain ⟨d, n, body, run, pending, other, allows, -⟩ := dropAt_eq_some_iff.mp found
    exact ⟨d, n, body, run, pending, other, allows⟩
  · rintro ⟨d, n, body, run, pending, other, allows⟩
    exact ⟨_, dropAt_eq_some_iff.mpr ⟨d, n, body, run, pending, other, allows, rfl⟩⟩

theorem pendingDrop_eq_none_iff {dir : Nat → Bool} {s : State} :
    pendingDrop dir s = none ↔ ∀ q ∈ s.ts.active.nodes, ¬ dropWaits (fun u => dir u = true) s q.2 := by
  rw [pendingDrop_eq, List.findSome?_eq_none_iff]
  exact forall₂_congr fun _ _ => dropAt_eq_none_iff

/-- The node with the lowest index whose material waits is the one found. -/
theorem pendingDrop_of_first {dir : Nat → Bool} {s : State} {before after : List (Nat × NodeRec)} {i : Nat} {r : NodeRec}
    {d : DripFields} {n : NodeRun} (nodes : s.ts.active.nodes = before ++ (i, r) :: after)
    (first : ∀ q ∈ before, ¬ dropWaits (fun u => dir u = true) s q.2) (body : r.body = .drip d)
    (run : assocGet r.key s.nd.nodes = some n) (pending : n.evPending = true)
    (other : resolveUnit s.ti.position d.evUnit ≠ 0) (allows : dir (resolveUnit s.ti.position d.evUnit) = true) :
    pendingDrop dir s = some (i, r, n, resolveUnit s.ti.position d.evUnit) := by
  have none : before.findSome? (dropAt dir s) = none :=
    List.findSome?_eq_none_iff.mpr fun q hq => dropAt_eq_none_iff.mpr (first q hq)
  have here : dropAt dir s (i, r) = some (i, r, n, resolveUnit s.ti.position d.evUnit) :=
    dropAt_eq_some_iff.mpr ⟨d, n, body, run, pending, other, allows, rfl⟩
  rw [pendingDrop_eq, nodes, List.findSome?_append, none, Option.none_or, List.findSome?_cons, here]

theorem grantDrop_eq_none_iff {dir : Nat → Bool} {s : State} : grantDrop dir s = none ↔ pendingDrop dir s = none := by
  unfold grantDrop
  cases pendingDrop dir s with
  | none => exact iff_of_true rfl rfl
  | some x => exact iff_of_false nofun nofun

/-! ### What an upper grant leaves of the lower sources -/

/-- The DROP REPORT material of a node's runtime. -/
def materialOf (n : NodeRun) : Bool × Nat × Bool × Nat × Nat :=
  (n.evPending, n.pendDrops, n.pendOnset, n.pendLevel, n.pendStamp)

/-- The nodes of `t` are those of `s`, but that one may have lost its MIRROR, or its material to a DROP REPORT upward. -/
def NodesMoved (s t : State) : Prop :=
  t.nd.nodes = s.nd.nodes ∨ (∃ k f, (∀ n, materialOf (f n) = materialOf n) ∧ t.nd.nodes = assocMap k f s.nd.nodes) ∨
    ∃ p x, s.ti.position = some p ∧ pendingDrop (fun u => decide (u < p)) s = some x ∧
      t.nd.nodes = assocMap x.2.1.key materialTaken s.nd.nodes

theorem refillPlace_nd (s : State) : (refillPlace s).nd = s.nd := by
  unfold refillPlace
  split <;> rfl

theorem grantUpper_nodes (s : State) : NodesMoved s (grantUpper s) := by
  refine grantUpper_elim s (.inl rfl) (pickUpper_elim (P := fun g => NodesMoved s (sentUp g)) s ?_ ?_ ?_ ?_ ?_ ?_)
  · refine grantAlarm_elim (P := fun g => NodesMoved s (sentUp (nameA true g))) s (fun _ _ _ => .inl rfl) (fun _ _ => .inl rfl)
      (fun u => .inl ?_) (fun _ _ _ => .inl rfl)
    change (useFreeIf (conditionOpen s u) (clearConditionPending u s)).nd.nodes = _
    cases conditionOpen s u <;> cases u <;> rfl
  · exact grantUf_elim (P := fun g => NodesMoved s (sentUp (nameA false g))) s fun _ _ _ => .inl rfl
  · exact grantReply_elim (P := fun g => NodesMoved s (sentUp g)) s
      fun _ _ => .inl (congrArg NodeDirectory.nodes (refillPlace_nd { s with ti := { s.ti with reply := none } }))
  · intro p g position granted
    exact grantDrop_elim (P := fun g => NodesMoved s (sentUp g)) _ s
      (fun i r n u found => .inr (.inr ⟨p, (i, r, n, u), position, found, rfl⟩)) g granted
  · exact grantUr_elim (P := fun g => NodesMoved s (sentUp (nameE true g))) s fun _ _ _ => .inl rfl
  · exact grantRoutine_elim (P := fun g => NodesMoved s (sentUp (nameE false g))) s (.inl rfl)
      fun _ r m _ => .inr (.inl ⟨r.key, fun n => { n with
        mirrorPending := false, lastMirrored := mirrorValue (nodeKind r) m.verdict m.payload }, fun _ => rfl, rfl⟩)

/-- What the upper arbiter leaves of a node's runtime: material that still waits has waited before, and that of a node
that waits to go up is the only one it takes. -/
theorem grantUpper_material {s : State} {k : NodeKey} {n' : NodeRun}
    (run : assocGet k (grantUpper s).nd.nodes = some n') :
    ∃ n, assocGet k s.nd.nodes = some n ∧ (n'.evPending = true → n.evPending = true) ∧
      (materialOf n' = materialOf n ∨ ∃ p q, s.ti.position = some p ∧ q ∈ s.ts.active.nodes ∧ q.2.key = k ∧
        dropWaits (· < p) s q.2) := by
  obtain same | ⟨j, f, keeps, moved⟩ | ⟨p, x, position, found, moved⟩ := grantUpper_nodes s
  · rw [same] at run
    exact ⟨n', run, fun h => h, .inl rfl⟩
  · rw [moved] at run
    by_cases here : k = j
    · subst here
      rw [assocGet_assocMap, Option.map_eq_some_iff] at run
      obtain ⟨n, run, rfl⟩ := run
      exact ⟨n, run, fun h => (congrArg Prod.fst (keeps n)).symm.trans h, .inl (keeps n)⟩
    · rw [assocGet_assocMap_ne _ _ here] at run
      exact ⟨n', run, fun h => h, .inl rfl⟩
  · rw [moved] at run
    by_cases here : k = x.2.1.key
    · rw [here, assocGet_assocMap, Option.map_eq_some_iff] at run
      obtain ⟨n, run, rfl⟩ := run
      obtain ⟨q, inBank, at_⟩ := List.exists_of_findSome?_eq_some ((pendingDrop_eq _ s).symm.trans found)
      obtain ⟨d, m, body, run', pending, other, allows, rfl⟩ := dropAt_eq_some_iff.mp at_
      exact ⟨n, here ▸ run, nofun, .inr ⟨p, q, position, inBank, here.symm, d, m, body, run', pending, other,
        of_decide_eq_true allows⟩⟩
    · rw [assocGet_assocMap_ne _ _ here] at run
      exact ⟨n', run, fun h => h, .inl rfl⟩

theorem grantUpper_ts (s : State) : (grantUpper s).ts = s.ts := by
  have h := congrArg State.ts (quiet_grantUpper s)
  exact h

/-- A DROP REPORT that waits after an upper grant has waited before it. -/
theorem dropWaits_of_grantUpper {dir : Nat → Prop} {s : State} {r : NodeRec} (h : dropWaits dir (grantUpper s) r) :
    dropWaits dir s r := by
  obtain ⟨d, n', body, run, pending, other, allows⟩ := h
  obtain ⟨n, run, waits, -⟩ := grantUpper_material run
  rw [(lowerSide_grantUpper s).2.2.2.1] at other allows
  exact ⟨d, n, body, run, waits pending, other, allows⟩

theorem grantDropDown_eq_none_iff {s : State} : grantDropDown s = none ↔
    ∀ p, s.ti.position = some p → ∀ q ∈ s.ts.active.nodes, ¬ dropWaits (p < ·) s q.2 := by
  unfold grantDropDown
  cases s.ti.position with
  | none => exact iff_of_true rfl nofun
  | some p =>
    simp only [grantDrop_eq_none_iff, pendingDrop_eq_none_iff, decide_eq_true_eq, Option.some.injEq, forall_eq']

theorem grantDropDown_grantUpper {s : State} (still : grantDropDown s = none) : grantDropDown (grantUpper s) = none := by
  rw [grantDropDown_eq_none_iff] at still ⊢
  rw [(lowerSide_grantUpper s).2.2.2.1, grantUpper_ts]
  exact fun p position q hq waits => still p position q hq (dropWaits_of_grantUpper waits)

/-! ### The choice of the lower arbiter -/

/-- The first of a pair of sources is granted when the other does not wait or was not named last. -/
theorem alternate_first {lastFirst : Bool} {name : Bool → Grant → Grant} {x y : Option Grant} {g : Grant} (waits : x = some g)
    (turn : lastFirst = false ∨ y = none) : alternate lastFirst name x y = some (name true g) := by
  subst waits
  cases y with
  | none => rfl
  | some h => exact if_neg (by rw [turn.resolve_right nofun]; exact Bool.false_ne_true)

/-- The second is granted when the first does not wait or was named last. -/
theorem alternate_second {lastFirst : Bool} {name : Bool → Grant → Grant} {x y : Option Grant} {g : Grant} (waits : y = some g)
    (turn : x = none ∨ lastFirst = true) : alternate lastFirst name x y = some (name false g) := by
  subst waits
  cases x with
  | none => rfl
  | some h => exact if_pos (turn.resolve_left nofun)

section Lower

variable {s : State}

theorem pickLower_onward {p : Byte} (waits : s.ti.onward = some p) : pickLower s =
    some (⟨⟨255, unitByte s.ti.position, unitPlace, kindNumber, [p]⟩, false⟩, { s with ti := { s.ti with onward := none } }) := by
  simp only [pickLower, grantOnward, waits, granted, orGrant]

theorem pickLower_alternate (still : s.ti.onward = none) :
    pickLower s = alternate s.ti.lastWasDf nameDf (grantDf s) (grantDropDown s) := by
  simp only [pickLower, grantOnward, still, orGrant]

theorem pickLower_df {f : Frame} {rest : List Frame} (still : s.ti.onward = none) (head : s.ti.df = f :: rest)
    (turn : s.ti.lastWasDf = false ∨ grantDropDown s = none) :
    pickLower s = some (nameDf true (⟨f, false⟩, { s with ti := { s.ti with df := rest } })) := by
  rw [pickLower_alternate still]
  exact alternate_first (by simp only [grantDf, head, granted]) turn

theorem pickLower_drop {g : Grant} (still : s.ti.onward = none) (turn : s.ti.df = [] ∨ s.ti.lastWasDf = true)
    (waits : grantDropDown s = some g) : pickLower s = some (nameDf false g) := by
  rw [pickLower_alternate still]
  exact alternate_second waits (turn.imp_left fun empty => by simp only [grantDf, empty])

theorem grantUpper_lastWasDf (s : State) : (grantUpper s).ti.lastWasDf = s.ti.lastWasDf := by
  refine grantUpper_elim (P := fun t => t.ti.lastWasDf = s.ti.lastWasDf) s rfl
    (pickUpper_elim (P := fun g => (sentUp g).ti.lastWasDf = s.ti.lastWasDf) s ?_ ?_ ?_ ?_ ?_ ?_)
  · intro g granted
    have kept : g.2.ti.lastWasDf = s.ti.lastWasDf := by rw [grantAlarm_ti s g granted]
    exact kept
  · exact grantUf_elim (P := fun g => (sentUp (nameA false g)).ti.lastWasDf = s.ti.lastWasDf) s fun _ _ _ => rfl
  · refine grantReply_elim (P := fun g => (sentUp g).ti.lastWasDf = s.ti.lastWasDf) s fun r _ => ?_
    unfold sentUp refillPlace
    split <;> rfl
  · intro p g _ granted
    exact grantDrop_elim (P := fun g => (sentUp g).ti.lastWasDf = s.ti.lastWasDf) _ s (fun _ _ _ _ _ => rfl) g granted
  · exact grantUr_elim (P := fun g => (sentUp (nameE true g)).ti.lastWasDf = s.ti.lastWasDf) s fun _ _ _ => rfl
  · exact grantRoutine_elim (P := fun g => (sentUp (nameE false g)).ti.lastWasDf = s.ti.lastWasDf) s rfl fun _ _ _ _ => rfl

/-- The end of a step where the lower arbiter may grant and does. -/
theorem settle_sends_down {g : Grant} (free : s.ti.lowerTx = .free) (released : s.pins.holdFromBelow = false)
    (picked : pickLower (grantUpper s) = some g) : settle s = setOutputs (sentDown g) := by
  obtain ⟨-, tx, -, -, pins⟩ := lowerSide_grantUpper s
  refine congrArg setOutputs (grantLower_of_pickLower ?_ picked)
  unfold lowerReady
  rw [tx, pins, free, released]
  rfl

/-- A waiting onward NUMBER goes first. -/
theorem settle_sends_onward {p : Byte} (free : s.ti.lowerTx = .free) (released : s.pins.holdFromBelow = false)
    (waits : s.ti.onward = some p) : (settle s).ti.lowerTx = .frame ⟨255, unitByte s.ti.position, unitPlace, kindNumber, [p]⟩ ∧
      (settle s).ti.onward = none ∧ (settle s).ti.df = s.ti.df := by
  obtain ⟨df, -, onward, position, -⟩ := lowerSide_grantUpper s
  rw [settle_sends_down free released (pickLower_onward (onward.trans waits)), position]
  exact ⟨rfl, rfl, df⟩

/-- Then the head of DF, when it is its turn. -/
theorem settle_sends_df {f : Frame} {rest : List Frame} (free : s.ti.lowerTx = .free) (released : s.pins.holdFromBelow = false)
    (still : s.ti.onward = none) (head : s.ti.df = f :: rest) (turn : s.ti.lastWasDf = false ∨ grantDropDown s = none) :
    (settle s).ti.lowerTx = .frame f ∧ (settle s).ti.df = rest ∧ (settle s).ti.lastWasDf = true := by
  obtain ⟨df, -, onward, -, -⟩ := lowerSide_grantUpper s
  rw [settle_sends_down free released (pickLower_df (onward.trans still) (df.trans head)
    (turn.imp (grantUpper_lastWasDf s).trans grantDropDown_grantUpper))]
  exact ⟨rfl, rfl, rfl⟩

/-- Or the DROP REPORT to a higher position from the lowest node whose material waits. -/
theorem settle_sends_drop {p j : Nat} {before after : List (Nat × NodeRec)} {r : NodeRec} {d : DripFields} {n : NodeRun}
    (free : s.ti.lowerTx = .free) (released : s.pins.holdFromBelow = false) (still : s.ti.onward = none)
    (turn : s.ti.df = [] ∨ s.ti.lastWasDf = true) (position : s.ti.position = some p)
    (nodes : s.ts.active.nodes = before ++ (j, r) :: after) (first : ∀ q ∈ before, ¬ dropWaits (p < ·) s q.2)
    (unique : ∀ q ∈ s.ts.active.nodes, q.2.key = r.key → q.2 = r) (body : r.body = .drip d)
    (run : assocGet r.key s.nd.nodes = some n) (pending : n.evPending = true) (higher : p < resolveUnit s.ti.position d.evUnit) :
    (settle s).ti.lowerTx = .frame (dropReportOf s (resolveUnit s.ti.position d.evUnit) j r n) ∧ dropTaken r.key (settle s) ∧
      (settle s).ti.df = s.ti.df ∧ (settle s).ti.lastWasDf = false := by
  obtain ⟨df, -, onward, position', -⟩ := lowerSide_grantUpper s
  obtain ⟨n', run', material⟩ : ∃ n', assocGet r.key (grantUpper s).nd.nodes = some n' ∧ materialOf n' = materialOf n := by
    have kept : (assocGet r.key (grantUpper s).nd.nodes).isSome = true := by
      obtain same | ⟨k, f, -, moved⟩ | ⟨_, x, -, -, moved⟩ := grantUpper_nodes s
      · rw [same, run]
        rfl
      · rw [moved]
        by_cases here : r.key = k
        · subst here
          rw [assocGet_assocMap, run]
          rfl
        · rw [assocGet_assocMap_ne _ _ here, run]
          rfl
      · rw [moved]
        by_cases here : r.key = x.2.1.key
        · rw [← here, assocGet_assocMap, run]
          rfl
        · rw [assocGet_assocMap_ne _ _ here, run]
          rfl
    obtain ⟨n', run'⟩ := Option.isSome_iff_exists.mp kept
    obtain ⟨m, runs, -, same | ⟨p', q, isPosition, inBank, key, waits⟩⟩ := grantUpper_material run'
    · rw [run] at runs
      cases runs
      exact ⟨n', run', same⟩
    · obtain ⟨d', -, body', -, -, -, lower⟩ := waits
      rw [unique q inBank key, body] at body'
      rw [position] at isPosition
      cases body'
      cases isPosition
      omega
  simp only [materialOf, Prod.mk.injEq] at material
  obtain ⟨waits, drops, onset, level, stamp⟩ := material
  have found : grantDropDown (grantUpper s) = some (⟨dropFrame (grantUpper s) j r n' (resolveUnit s.ti.position d.evUnit), false⟩,
      dropGranted r (grantUpper s)) := by
    have picked := pendingDrop_of_first (dir := fun u => decide (p < u)) (s := grantUpper s) (before := before) (i := j) (after := after)
      (by rw [grantUpper_ts, nodes]) (fun q hq h => by
        simp only [decide_eq_true_eq] at h
        exact first q hq (dropWaits_of_grantUpper h)) body run' (waits.trans pending) (by rw [position']; omega)
      (by rw [position']; exact decide_eq_true higher)
    rw [position'] at picked
    simp only [grantDropDown, position', position, grantDrop]
    rw [position] at picked
    simp only [picked, granted]
  rw [settle_sends_down free released (pickLower_drop (onward.trans still)
    (turn.imp df.trans (grantUpper_lastWasDf s).trans) found)]
  refine ⟨?_, ⟨materialTaken n', ?_, rfl, rfl, rfl⟩, df, rfl⟩
  · change LowerTx.frame (dropFrame (grantUpper s) j r n' _) = _
    unfold dropFrame dropPayload dropReportOf
    rw [position', drops, onset, level, stamp]
    rfl
  · change assocGet r.key (assocMap r.key materialTaken (grantUpper s).nd.nodes) = _
    rw [assocGet_assocMap, run']
    rfl

end Lower

/-- The row frees the lower transmitter, at the BREAK's end at the earliest. -/
theorem exec_frees_lower {s u : State} {i : Instr} (h : (i = .lowerFrameSent ∧ (∃ f, s.ti.lowerTx = .frame f) ∧ u = s) ∨
    (i = .lowerBreakSentEnd ∧ ∃ start, s.ti.lowerTx = .breaking start ∧ u = reachTime (start + 2) s)) :
    exec i s = .next (settle (freeLower u)) ∧ u.ti = { s.ti with presenceTimer := u.ti.presenceTimer } ∧
      u.pins = s.pins ∧ u.nd = s.nd ∧ u.ts = s.ts := by
  rcases h with ⟨rfl, ⟨f, sending⟩, rfl⟩ | ⟨rfl, start, breaking, rfl⟩
  · refine ⟨?_, rfl, rfl, rfl, rfl⟩
    simp only [exec, execLowerFrameSent, lowerSent, sending]
  · refine ⟨?_, rfl, rfl, rfl, rfl⟩
    simp only [exec, execLowerBreakSentEnd, lowerBreakEnd, breaking]

/-- Settles O18, by the choice of the lower arbiter once its transmitter is free. -/
theorem lowerArbiterGrantsInOrder : Obligations.LowerArbiterGrantsInOrder := by
  intro s u i h
  obtain ⟨ends, trunk, pins, nodes, tables⟩ := exec_frees_lower h
  obtain ⟨w, isW⟩ : ∃ w, w = freeLower u := ⟨_, rfl⟩
  rw [← isW] at ends
  have same : quiet (settle w) = quiet u := by
    rw [quiet_settle, isW]
    rfl
  have trunk : w.ti = { s.ti with presenceTimer := u.ti.presenceTimer, lowerTx := .free } := by
    rw [isW]
    change { u.ti with lowerTx := .free } = _
    rw [trunk]
  have nodes : w.nd = s.nd := by
    rw [isW]
    exact nodes
  have tables : w.ts = s.ts := by
    rw [isW]
    exact tables
  have pins : w.pins = s.pins := by
    rw [isW]
    exact pins
  have free : w.ti.lowerTx = .free := by rw [trunk]
  have onward : w.ti.onward = s.ti.onward := by rw [trunk]
  have df : w.ti.df = s.ti.df := by rw [trunk]
  have last : w.ti.lastWasDf = s.ti.lastWasDf := by rw [trunk]
  have position : w.ti.position = s.ti.position := by rw [trunk]
  have waits {dir : Nat → Prop} {r : NodeRec} (h : dropWaits dir w r) : dropWaits dir s r := by
    unfold dropWaits at h ⊢
    rw [nodes, position] at h
    exact h
  have drops : grantDropDown s = none → grantDropDown w = none := fun none => by
    rw [grantDropDown_eq_none_iff] at none ⊢
    rw [position, tables]
    exact fun p at_ q hq h => none p at_ q hq (waits h)
  refine ⟨fun held => ?_, fun released => ⟨fun p waiting => ?_, fun still f rest head turn => ?_,
    fun still turn p before j r after d n isPosition bank first unique body run pending higher => ?_⟩⟩
  · obtain ⟨tx, onward', df'⟩ := settle_lower_busy (s := w) (.inr (by rw [pins, held]))
    exact ⟨_, ends, same, tx.trans free, df'.trans df, onward'.trans onward⟩
  · obtain ⟨tx, onward', df'⟩ := settle_sends_onward free (by rw [pins, released]) (onward.trans waiting)
    rw [position] at tx
    exact ⟨_, ends, same, tx, onward', df'.trans df⟩
  · obtain ⟨tx, df', last'⟩ := settle_sends_df free (by rw [pins, released]) (onward.trans still) (df.trans head)
      (turn.imp last.trans drops)
    exact ⟨_, ends, same, tx, df', last'⟩
  · obtain ⟨tx, taken, df', last'⟩ := settle_sends_drop (s := w) (before := before) (after := after) (n := n) free (by rw [pins, released])
      (onward.trans still) (turn.imp df.trans last.trans) (position.trans isPosition) (by rw [tables, bank])
      (fun q hq h => first q hq (waits h)) (by rw [tables]; exact unique) body (by rw [nodes, run]) pending
      (by rw [position]; exact higher)
    rw [position] at tx
    unfold dropReportOf at tx ⊢
    rw [position] at tx
    exact ⟨_, ends, same, tx, taken, df'.trans df, last'⟩

end Sys2Proof.Machine
end

section
/-! HOLD, NUMBER, and the ways of frames that are not carried out: forwarded, discarded, misrouted, refused BUSY (R172 to
R177, R181, R182). -/

namespace Sys2Proof.Machine

open Sys2Proof

/-! ### The choice of the upper arbiter -/

section Upper

variable {s : State}

theorem grantAlarm_of_noAlarmItem (h : noAlarmItem s) : grantAlarm s = none := by
  obtain ⟨cleared, incidents, conditions, notices⟩ := h
  have incident : s.ie.incidents.find? (·.pending) = none :=
    List.find?_eq_none.mpr fun i hi => by rw [incidents i hi]; exact Bool.false_ne_true
  have condition : allConditions.find? (fun u => (conditionOf s u).pending) = none :=
    List.find?_eq_none.mpr fun u hu => by rw [conditions u hu]; exact Bool.false_ne_true
  simp only [grantAlarm, grantCleared, cleared, grantIncident, incident, grantCondition, condition, grantNotice, notices, orGrant,
    ite_self]

theorem pickUpper_uf {f : Frame} {rest : List Frame} (head : s.ti.uf = f :: rest) (turn : s.ti.lastWasA = true ∨ noAlarmItem s) :
    pickUpper s = some (nameA false (⟨f, false⟩, { s with ti := { s.ti with uf := rest } })) := by
  have waits : grantUf s = some (⟨f, false⟩, { s with ti := { s.ti with uf := rest } }) := by
    simp only [grantUf, head, granted]
  rw [pickUpper, alternate_second waits (turn.symm.imp_left grantAlarm_of_noAlarmItem)]
  rfl

/-- The end of a step where the upper arbiter may grant and does: the lower arbiter goes on from there. -/
theorem settle_sends_up {g : Grant} (free : s.ti.upperTx = none) (released : s.pins.holdFromAbove = false)
    (picked : pickUpper s = some g) : settle s = setOutputs (grantLower (sentUp g)) := by
  unfold settle
  rw [grantUpper_of_pickUpper ?_ picked]
  unfold upperReady
  rw [free, released]
  rfl

theorem settle_sends_uf {f : Frame} {rest : List Frame} (free : s.ti.upperTx = none) (released : s.pins.holdFromAbove = false)
    (head : s.ti.uf = f :: rest) (turn : s.ti.lastWasA = true ∨ noAlarmItem s) :
    (settle s).ti.upperTx = some ⟨f, false⟩ ∧ (settle s).ti.uf = rest ∧ (settle s).ti.lastWasA = false ∧
      (settle s).ti.reply = s.ti.reply ∧ (settle s).ti.ur = s.ti.ur := by
  rw [settle_sends_up free released (pickUpper_uf head turn)]
  obtain ⟨_, _, _, _, _, moved, -⟩ := grantLower_moved (sentUp (nameA false (⟨f, false⟩, { s with ti := { s.ti with uf := rest } })))
  rw [moved]
  exact ⟨rfl, rfl, rfl, rfl, rfl⟩

end Upper

/-! ### HOLD -/

/-- Settles O19, by the arbiter of the transmitter whose HOLD moved. -/
theorem holdStopsItsTransmitter : Obligations.HoldStopsItsTransmitter := by
  refine ⟨fun s b => ⟨_, rfl, quiet_settle _, fun held => ?_, fun released still free f rest head => ?_⟩,
    fun s b => ⟨_, rfl, quiet_settle _, fun held => ?_, fun released still noDrop free f rest head => ?_⟩⟩
  · exact settle_upper_held (s := setHold .upper b s) held
  · obtain ⟨tx, uf, -⟩ := settle_sends_uf (s := setHold .upper b s) free released head (.inr still)
    exact ⟨tx, uf⟩
  · obtain ⟨tx, onward, df⟩ := settle_lower_busy (s := setHold .lower b s) (.inr held)
    exact ⟨tx, df, onward⟩
  · have noDrop : grantDropDown (setHold .lower b s) = none :=
      grantDropDown_eq_none_iff.mpr (grantDropDown_eq_none_iff (s := s).mp noDrop)
    obtain ⟨tx, df, -⟩ := settle_sends_df (s := setHold .lower b s) free released still head (.inr noDrop)
    exact ⟨tx, df⟩

/-! ### Forwarded frames -/

/-- Legs at rest, the boundaries at a step's end do nothing. -/
theorem settleAll_at_rest {s : State} (h : LegsAtRest s) : settleAll s = settle s := by
  rw [settleAll, boundaries_of_atRest s h]

section Forwarding

variable {s : State} {f : Frame} {p : Nat}

theorem route_forward_upper (receives : s.ti.upperBreak = false) (position : s.ti.position = some p)
    (down : upwardKind f.kind = false) (notNumber : f.kind ≠ kindNumber) (below : p < f.dest.toNat) (one : f.dest ≠ 255) :
    routeOf s.ti .upper f.kind f.dest = .forwarded := by
  have one : f.dest ≠ 255#8 := one
  simp [routeOf, routeUpper, receives, position, down, notNumber, one, below.not_gt, below.ne']

theorem route_forward_lower (position : s.ti.position = some p) (up : downwardKind f.kind = false) (above : f.dest.toNat < p)
    (one : f.dest ≠ 255) : routeOf s.ti .lower f.kind f.dest = .forwarded := by
  have one : f.dest ≠ 255#8 := one
  simp [routeOf, routeLower, position, up, one, above.not_gt, above.ne]

end Forwarding

/-- Settles O20: the frame stands at its FIFO's tail when the arbiters choose. -/
theorem framesForOtherUnitsAreForwarded : Obligations.FramesForOtherUnitsAreForwarded := by
  refine ⟨fun s f p receives rest position down notNumber below one => ⟨fun room => ?_, fun full => ?_⟩,
    fun s f p rest position up above one roomUf roomUr => ?_⟩
  · have goes : receiveAny .upper f s = { presenceRestart s with ti := { (presenceRestart s).ti with df := s.ti.df ++ [f] } } := by
      rw [receiveAny, receive, route_forward_upper receives position down notNumber below one]
      exact if_pos room
    refine ⟨_, congrArg Host.Outcome.next (settleAll_at_rest ?_), ?_, ?_⟩
    · rw [goes]
      exact legsAtRest_congr s _ rfl rfl (fun _ _ h => h) rfl rest
    · rw [quiet_settle, goes]
      rfl
    · rw [goes]
      refine (settle_df _).imp (fun h => h) fun ⟨g, head, tx⟩ => ⟨g, head, tx⟩
  · have goes : receiveAny .upper f s = recordError .fifoFull .upper (presenceRestart s) := by
      rw [receiveAny, receive, route_forward_upper receives position down notNumber below one]
      exact if_neg (Nat.not_lt.mpr full)
    refine ⟨_, congrArg Host.Outcome.next (settleAll_at_rest ?_), ?_⟩
    · rw [goes]
      exact legsAtRest_congr s _ rfl rfl (fun _ _ h => h) rfl rest
    · rw [quiet_settle, goes]
      rfl
  · have goes : receiveAny .lower f s = if urgentKind f.kind then { s with ti := { s.ti with uf := s.ti.uf ++ [f] } }
        else { s with ti := { s.ti with ur := s.ti.ur ++ [f] } } := by
      rw [receiveAny, receive, route_forward_lower position up above one]
      change forwardUp .lower f s = _
      simp only [forwardUp, if_pos roomUf, if_pos roomUr]
    refine ⟨settle (receiveAny .lower f s), congrArg Host.Outcome.next (settleAll_at_rest ?_), ?_, ?_⟩
    · rw [goes]
      split <;> exact legsAtRest_congr s _ rfl rfl (fun _ _ h => h) rfl rest
    · rw [quiet_settle, goes]
      split <;> rfl
    · rw [goes]
      split
      · exact (settle_fifos { s with ti := { s.ti with uf := s.ti.uf ++ [f] } }).1
      · exact (settle_fifos { s with ti := { s.ti with ur := s.ti.ur ++ [f] } }).2

/-! ### Discarded frames -/

/-- The last frame error. -/
def lastError (s : State) : FrameError × Port := (s.ti.errorKind, s.ti.errorPort)

theorem settleAll_lastError (s : State) : lastError (settleAll s) = lastError s := by
  have settled : lastError (settle (boundaries s)) = lastError (boundaries s) := by
    have h := congrArg (fun u : State => lastError u) (quiet_settle (boundaries s))
    exact h
  rw [boundaries_frame s] at settled
  rw [settleAll, boundaries_frame s]
  exact settled

theorem placeDue_lastError (d : DueReply) (s : State) : lastError (placeDue d s) = lastError s := by
  unfold placeDue
  split <;> rfl

theorem placeOwn_lastError (d : DueReply) (s : State) : lastError (placeOwn d s) = lastError s := by
  unfold placeOwn
  split <;> rfl

theorem startLoad_lastError (hdr : Header) (table first : Option Byte) (s : State) :
    lastError (startLoad hdr table first s) = lastError s := by
  unfold startLoad
  split
  · split
    · rfl
    · rfl
    · exact placeDue_lastError ..
  · rfl

theorem answerLoad_lastError (l : Load) (e : LoadEnding) (s : State) : lastError (answerLoad l e s) = lastError s := by
  unfold answerLoad
  split
  · refine Eq.trans ?_ (placeDue_lastError (loadReply s.free l e) s)
    unfold useFreeIf
    split <;> rfl
  · rfl

theorem concludeLoad_lastError (l : Load) (e : LoadEnding) (s : State) : lastError (concludeLoad l e s) = lastError s := by
  unfold concludeLoad
  split
  · exact answerLoad_lastError ..
  · unfold answerShort
    split
    · split
      · exact placeDue_lastError ..
      · rfl
    · exact answerLoad_lastError ..
  · split
    · exact placeOwn_lastError ..
    · rfl
  · rfl
  · rfl

theorem loadBytes_lastError (bytes : List Byte) (s : State) : lastError (loadBytes bytes s) = lastError s := by
  unfold loadBytes
  split <;> rfl

theorem wholeLoad_lastError (f : Frame) (table first : Option Byte) (records : List Byte) (crc : Half) (s : State) :
    lastError (wholeLoad f table first records crc s) = lastError s := by
  have started := startLoad_lastError ⟨f.dest, f.src, f.place⟩ table first s
  simp only [wholeLoad]
  split
  · exact started
  · exact (concludeLoad_lastError ..).trans ((loadBytes_lastError records _).trans started)

theorem failsPayload_lastError (port : Port) (bytes : List Byte) (s : State) :
    lastError (failsPayload port bytes s) = lastError s := by
  unfold failsPayload
  split
  · unfold takeDamaged
    split
    · split
      · exact wholeLoad_lastError ..
      · rfl
    · rfl
  · rfl

/-- A frame for this unit on the upper port is sent to its position or to all. -/
theorem dest_of_consumed {t : TrunkBlock} {kind dest : Byte}
    (h : routeOf t .upper kind dest = .consumed ∨ routeOf t .upper kind dest = .consumedAndForwarded) :
    ∃ p, t.position = some p ∧ (dest = byte p ∨ dest = 255) := by
  unfold routeOf routeUpper at h
  dsimp only at h
  split at h
  · simp at h
  split at h
  · simp at h
  split at h
  · simp at h
  split at h
  · simp at h
  next p position =>
    refine ⟨p, position, ?_⟩
    split at h
    · simp at h
    split at h
    next here => exact .inl (by rw [← here, byte, BitVec.ofNat_toNat, BitVec.setWidth_eq])
    split at h
    next all => exact .inr all
    · simp at h

/-- A frame that is no LOAD TABLE for this unit and fails its payload CRC is only discarded. -/
theorem failsPayload_of_other {port : Port} {bytes : List Byte} {s : State}
    (other : ∀ p, port = .upper → s.ti.position = some p → bytes[3]? = some 0x11#8 → bytes[6]? = some 0x02#8 →
      bytes[0]? ≠ some (byte p) ∧ bytes[0]? ≠ some 255) : failsPayload port bytes s = s := by
  unfold failsPayload
  split
  next f crc raw =>
    unfold takeDamaged
    split
    next isCommand =>
      obtain ⟨command, routed⟩ := isCommand
      split
      next load =>
        obtain ⟨p, position, dest⟩ := dest_of_consumed routed
        unfold rawFrame at raw
        split at raw
        next d sr pl k len c rest =>
          split at raw
          next lo hi tail =>
            cases raw
            have first : (rest.take len.toNat)[0]? = some codeLoadTable := by
              unfold loadArgs at load
              split at load
              next c args payload =>
                split at load
                next isLoad => exact (congrArg (·[0]?) payload).trans (congrArg some isLoad)
                · cases load
              · cases load
            rw [List.getElem?_take] at first
            split at first
            next =>
              obtain ⟨notHere, notAll⟩ := other p rfl position (congrArg some command) first
              rcases dest with here | all
              · exact absurd (congrArg some here) notHere
              · exact absurd (congrArg some all) notAll
            · cases first
          · cases raw
        · cases raw
      · rfl
    · rfl
  · rfl

/-- Settles O21: what is recorded stays as it is, and a frame that no block takes leaves its arrival only. -/
theorem discardedFramesChangeNothingElse : Obligations.DiscardedFramesChangeNothingElse := by
  refine ⟨fun s port receives rest rx k kinds => ?_, fun s f p position low dest rest kinds down => ⟨fun receives => ?_, ?_⟩⟩
  · have heard : ¬ (port = .upper ∧ s.ti.upperBreak = true) := fun ⟨isUpper, held⟩ => by
      rw [receives isUpper] at held
      cases held
    have restOf : LegsAtRest (recordError k port s) := (recordError_calm k port s).rest rest
    have recorded (ends : receptionEnds port rx s = recordError k port s) :
        ∃ t, exec (.trunkFrameDiscard port rx) s = .next t ∧ t.ti.errorKind = k ∧ t.ti.errorPort = port ∧
          quiet t = quiet { s with ti := { s.ti with errorKind := k, errorPort := port } } := by
      have e := settleAll_lastError (receptionEnds port rx s)
      rw [ends] at e
      refine ⟨settleAll (recordError k port s), by rw [← ends]; rfl, congrArg Prod.fst e, congrArg Prod.snd e, ?_⟩
      rw [settleAll_at_rest restOf, quiet_settle]
      rfl
    rcases kinds with ⟨rfl, rfl⟩ | ⟨rfl, rfl⟩ | ⟨bytes, rfl, ⟨bad, rfl⟩ | ⟨bad, rfl⟩⟩
    · obtain ⟨t, runs, kind, at_, same⟩ := recorded (if_neg heard)
      exact ⟨t, runs, kind, at_, fun _ => same⟩
    · obtain ⟨t, runs, kind, at_, same⟩ := recorded (if_neg heard)
      exact ⟨t, runs, kind, at_, fun _ => same⟩
    · obtain ⟨t, runs, kind, at_, same⟩ := recorded ((if_neg heard).trans (by dsimp only; rw [bad]))
      exact ⟨t, runs, kind, at_, fun _ => same⟩
    · have ends : receptionEnds port (.whole bytes) s = failsPayload port bytes (recordError .payloadCrc port s) :=
        (if_neg heard).trans (by dsimp only; rw [bad])
      have e := (settleAll_lastError (receptionEnds port (.whole bytes) s)).trans
        ((congrArg lastError ends).trans (failsPayload_lastError ..))
      refine ⟨_, rfl, congrArg Prod.fst e, congrArg Prod.snd e, fun other => ?_⟩
      rw [ends, failsPayload_of_other (s := recordError .payloadCrc port s) fun p isUpper position => other bytes p rfl bad isUpper position,
        settleAll_at_rest restOf, quiet_settle]
      rfl
  · have here : (byte p).toNat = p := byte_toNat (by omega)
    simp only [List.mem_cons, List.not_mem_nil, or_false, not_or] at kinds
    obtain ⟨notNumber, notCommand, notRelay, notDrop⟩ := kinds
    have route : routeOf s.ti .upper f.kind f.dest = .consumed := by
      simp [routeOf, routeUpper, receives, down, notNumber, position, dest, here]
    have goes : receiveAny .upper f s = presenceRestart s := by
      simp only [receiveAny, receive, route, consumeFrame, if_neg notCommand, if_neg notRelay, if_neg notDrop]
      rfl
    refine ⟨_, congrArg Host.Outcome.next (settleAll_at_rest ?_), ?_⟩
    · rw [goes]
      exact presenceRestart_rest rest
    · rw [quiet_settle, goes]
  · have here : (byte p).toNat = p := byte_toNat (by omega)
    simp only [List.mem_cons, List.not_mem_nil, or_false, not_or] at kinds
    obtain ⟨notNumber, notCommand, notRelay, notDrop⟩ := kinds
    have up : downwardKind f.kind = false := by simp [downwardKind, notNumber, notCommand, notRelay]
    have one : ¬ byte p = 255#8 := fun e => by
      have := congrArg BitVec.toNat e
      rw [here] at this
      simp at this
      omega
    have route : routeOf s.ti .lower f.kind f.dest = .consumed := by
      simp [routeOf, routeLower, up, position, dest, here, one]
    have goes : receiveAny .lower f s = s := by
      simp only [receiveAny, receive, route, consumeFrame, if_neg notCommand, if_neg notRelay, if_neg notDrop]
      rfl
    refine ⟨_, congrArg Host.Outcome.next (settleAll_at_rest ?_), ?_⟩
    · rw [goes]
      exact rest
    · rw [quiet_settle, goes]

/-! ### Misrouted commands -/

section Misrouted

variable {s : State} {i : Instr} {kind : Byte} {payload : List Byte} {consume : State → State} {hdr : Header} {p : Nat}

theorem receive_misrouted (receives : s.ti.upperBreak = false) (position : s.ti.position = some p) (above : hdr.dest.toNat < p)
    (down : upwardKind kind = false) (notNumber : kind ≠ kindNumber) :
    receive .upper (frameOf hdr kind payload) consume s = recordError .misrouted .upper (presenceRestart s) := by
  have route : routeOf s.ti .upper kind hdr.dest = .misrouted := by
    simp [routeOf, routeUpper, receives, position, down, notNumber, above]
  simp only [receive, frameOf, route]
  rfl

/-- What a row does whose frame is misrouted, whatever it would have carried out. -/
theorem misrouted_runs {w : State} (runs : exec i s = .next (settle w) ∨ exec i s = .next (settleAll w)) (rest : LegsAtRest s)
    (goes : w = recordError .misrouted .upper (presenceRestart s)) :
    ∃ t, exec i s = .next t ∧ quiet t = quiet { presenceRestart s with
      ti := { (presenceRestart s).ti with errorKind := .misrouted, errorPort := .upper } } := by
  have runs : exec i s = .next (settle w) := by
    refine runs.elim (fun h => h) fun h => ?_
    rwa [settleAll_at_rest] at h
    rw [goes]
    exact (recordError_calm ..).rest (presenceRestart_rest rest)
  refine ⟨_, runs, ?_⟩
  rw [quiet_settle, goes]
  rfl

end Misrouted

/-- Settles O22: no row gets past the routing. -/
theorem misroutedCommandsAreNotCarriedOut : Obligations.MisroutedCommandsAreNotCarriedOut := by
  intro s hdr p x y z w payload receives rest position above
  have command (code : Byte) (args : List Byte) (carry : State → Carry) :
      receiveCommand hdr code args carry s = recordError .misrouted .upper (presenceRestart s) :=
    receive_misrouted receives position above rfl (by decide)
  have relay : receive .upper (frameOf hdr kindRelay payload) (takeRelay payload) s = _ :=
    receive_misrouted receives position above rfl (by decide)
  have undefined_ : receiveAny .upper (frameOf hdr kindCommand payload) s = _ :=
    receive_misrouted receives position above rfl (by decide)
  intro i hi
  simp only [List.mem_cons, List.not_mem_nil, or_false] at hi
  rcases hi with rfl | rfl | rfl | rfl | rfl | rfl | rfl | rfl | rfl | rfl | rfl | rfl | rfl | rfl | rfl | rfl | rfl | rfl |
    rfl | rfl | rfl | rfl
  · exact misrouted_runs (.inl rfl) rest (command ..)
  · exact misrouted_runs (.inl rfl) rest (command ..)
  · exact misrouted_runs (.inr rfl) rest (command ..)
  · exact misrouted_runs (.inl rfl) rest (command ..)
  · exact misrouted_runs (.inl rfl) rest (command ..)
  · exact misrouted_runs (.inl rfl) rest (command ..)
  · exact misrouted_runs (.inl rfl) rest (command ..)
  · exact misrouted_runs (.inr rfl) rest (command ..)
  · exact misrouted_runs (.inr rfl) rest (command ..)
  · exact misrouted_runs (.inl rfl) rest (command ..)
  · exact misrouted_runs (.inl rfl) rest (command ..)
  · exact misrouted_runs (.inr rfl) rest (command ..)
  · exact misrouted_runs (.inl rfl) rest (command ..)
  · exact misrouted_runs (.inr rfl) rest (command ..)
  · exact misrouted_runs (.inl rfl) rest (command ..)
  · exact misrouted_runs (.inl rfl) rest (command ..)
  · exact misrouted_runs (.inr rfl) rest (command ..)
  · exact misrouted_runs (.inl rfl) rest (command ..)
  · exact misrouted_runs (.inl rfl) rest (command ..)
  · exact misrouted_runs (.inl rfl) rest (command ..)
  · exact misrouted_runs (.inr rfl) rest undefined_
  · exact misrouted_runs (.inr rfl) rest relay

/-! ### The slot occupied -/

section Busy

variable {s : State} {i : Instr} {hdr : Header} {kind : Byte} {payload : List Byte} {consume : State → State} {d : DueReply}
  {f : Frame}

/-- What a row does whose frame finds the slot occupied: a reply of the Trunk Interface's own. -/
theorem busy_runs {w : State} (runs : exec i s = .next (settle w) ∨ exec i s = .next (settleAll w))
    (isW : w = receive .upper (frameOf hdr kind payload) consume s) (forUnit : ForUnit s hdr.dest) (rest : LegsAtRest s)
    (down : upwardKind kind = false) (notNumber : kind ≠ kindNumber) (notDue : ∀ e, s.ti.slot ≠ .due e)
    (free : s.ti.reply = none) (consumes : consume (presenceRestart s) = placeOwn d (presenceRestart s))
    (built : buildReply (presenceRestart s) d = f) :
    ∃ t, exec i s = .next t ∧ quiet t = quiet (presenceRestart s) ∧ t.ti.slot = s.ti.slot ∧ Answered t f false := by
  subst built
  obtain ⟨df, goes⟩ : ∃ df, w = { presenceRestart s with ti := { (presenceRestart s).ti with
      df := df, reply := some ⟨buildReply (presenceRestart s) d, false⟩ } } := by
    rw [placeOwn_eq (w := presenceRestart s) free] at consumes
    rcases receive_forUnit hdr kind payload consume s forUnit down notNumber with here | ⟨room, onward⟩
    · exact ⟨s.ti.df, by rw [isW, here, consumes]; rfl⟩
    · refine ⟨s.ti.df ++ [frameOf hdr kind payload], ?_⟩
      rw [isW, onward, consumes]
      exact forwardDown_ti .upper _ _ room
  have restOf : LegsAtRest w := by
    rw [goes]
    exact legsAtRest_congr s _ rfl rfl (fun _ _ h => h) rfl rest
  have runs : exec i s = .next (settle w) := runs.elim (fun h => h) fun h => by rwa [settleAll_at_rest restOf] at h
  have reply : w.ti.reply = some ⟨buildReply (presenceRestart s) d, false⟩ := by rw [goes]
  have slot : w.ti.slot = s.ti.slot := by rw [goes]; rfl
  have position : w.ti.position = s.ti.position := by rw [goes]; rfl
  obtain ⟨slot', answered⟩ := settle_answered w _ reply (by rw [slot]; exact notDue) (by
    rw [position]
    exact buildReply_src (w := presenceRestart s))
  refine ⟨_, runs, ?_, slot'.trans slot, answered⟩
  rw [quiet_settle, goes]
  rfl

theorem takeCommand_busy {code : Byte} {args : List Byte} {carry : State → Carry} (occupied : s.ti.slot ≠ .empty) :
    takeCommand code args carry s = placeOwn (commandReply code args .busy []) s :=
  if_neg (by rw [slotFree, decide_eq_false occupied]; exact Bool.false_ne_true)

theorem takeRelay_busy (occupied : s.ti.slot ≠ .empty) : takeRelay payload s = placeOwn (relayResult .busy) s :=
  if_neg (by rw [slotFree, decide_eq_false occupied]; exact Bool.false_ne_true)

end Busy

/-- Settles O23: with the slot occupied no row carries its command out. -/
theorem occupiedSlotAnswersBusy : Obligations.OccupiedSlotAnswersBusy := by
  intro s hdr x y z w payload forUnit rest held free
  have occupied : s.ti.slot ≠ .empty := by rcases held with h | h | ⟨k, f, h⟩ <;> rw [h] <;> nofun
  have notDue : ∀ e, s.ti.slot ≠ .due e := by rcases held with h | h | ⟨k, f, h⟩ <;> rw [h] <;> nofun
  have relay : ∃ t, exec (.relay hdr payload) s = .next t ∧ quiet t = quiet (presenceRestart s) ∧ t.ti.slot = s.ti.slot ∧
      Answered t (unitFrame s.ti.position kindRelayReply [0x01#8]) false :=
    busy_runs (.inr rfl) rfl forUnit rest rfl (by decide) notDue free (takeRelay_busy (s := presenceRestart s) occupied) rfl
  have command {i : Instr} {code : Byte} {args : List Byte} {carry : State → Carry}
      (runs : exec i s = .next (settle (receiveCommand hdr code args carry s)) ∨
        exec i s = .next (settleAll (receiveCommand hdr code args carry s))) :
      (∃ t, exec i s = .next t ∧ quiet t = quiet (presenceRestart s) ∧ t.ti.slot = s.ti.slot ∧
        Answered t (unitFrame s.ti.position kindReply [code, 0x01#8]) false) ∧ _ :=
    ⟨busy_runs runs rfl forUnit rest rfl (by decide) notDue free (takeCommand_busy (s := presenceRestart s) occupied)
      (congrArg (unitFrame s.ti.position kindReply) (replyPayload_refused nofun)), relay⟩
  intro p hp
  simp only [List.mem_cons, List.not_mem_nil, or_false] at hp
  rcases hp with rfl | rfl | rfl | rfl | rfl | rfl | rfl | rfl | rfl | rfl | rfl | rfl | rfl | rfl | rfl | rfl | rfl | rfl |
    rfl | rfl
  · exact command (.inl rfl)
  · exact command (.inl rfl)
  · exact command (.inr rfl)
  · exact command (.inl rfl)
  · exact command (.inl rfl)
  · exact command (.inl rfl)
  · exact command (.inl rfl)
  · exact command (.inr rfl)
  · exact command (.inr rfl)
  · exact command (.inl rfl)
  · exact command (.inl rfl)
  · exact command (.inr rfl)
  · exact command (.inl rfl)
  · exact command (.inr rfl)
  · exact command (.inl rfl)
  · exact command (.inl rfl)
  · exact command (.inr rfl)
  · exact command (.inl rfl)
  · exact command (.inl rfl)
  · exact command (.inl rfl)

/-! ### NUMBER -/

/-- The onward NUMBER at the end of a step: it waits, or has been granted. -/
theorem settle_onward (s : State) : (settle s).ti.onward = s.ti.onward ∨ (settle s).ti.onward = none ∧
    ∃ q, s.ti.onward = some q ∧
      (settle s).ti.lowerTx = .frame ⟨255, unitByte s.ti.position, unitPlace, kindNumber, [q]⟩ := by
  obtain ⟨-, -, onward, position, -⟩ := lowerSide_grantUpper s
  rw [← onward, ← position]
  change (grantLower (grantUpper s)).ti.onward = _ ∨ (grantLower (grantUpper s)).ti.onward = none ∧
    ∃ q, _ ∧ (grantLower (grantUpper s)).ti.lowerTx = _
  generalize grantUpper s = u
  unfold grantLower
  split
  · split
    next picked =>
      exact pickLower_elim (P := fun g => (sentDown g).ti.onward = u.ti.onward ∨ (sentDown g).ti.onward = none ∧
          ∃ q, u.ti.onward = some q ∧
            (sentDown g).ti.lowerTx = .frame ⟨255, unitByte u.ti.position, unitPlace, kindNumber, [q]⟩) u
        (grantOnward_elim u fun q waits => .inr ⟨rfl, q, waits, rfl⟩)
        (grantDf_elim (P := fun g => (sentDown (nameDf true g)).ti.onward = u.ti.onward ∨
          (sentDown (nameDf true g)).ti.onward = none ∧ ∃ q, u.ti.onward = some q ∧
            (sentDown (nameDf true g)).ti.lowerTx = .frame ⟨255, unitByte u.ti.position, unitPlace, kindNumber, [q]⟩) u
          fun _ _ _ => .inl rfl)
        (fun _ g _ granted => grantDrop_elim (P := fun g => (sentDown (nameDf false g)).ti.onward = u.ti.onward ∨
          (sentDown (nameDf false g)).ti.onward = none ∧ ∃ q, u.ti.onward = some q ∧
            (sentDown (nameDf false g)).ti.lowerTx = .frame ⟨255, unitByte u.ti.position, unitPlace, kindNumber, [q]⟩) _ u
          (fun _ _ _ _ _ => .inl rfl) g granted) _ picked
    · exact .inl rfl
  · exact .inl rfl

/-- The data of a NUMBER's reply follow its result whatever that is. -/
theorem replyPayload_number {s : State} {p : Byte} {r : Result} {detail : List Byte} :
    replyPayload s ⟨codeNumber, [p], r, detail⟩ = 0x10 :: resultCode r :: detail := by
  unfold replyPayload
  split
  · simp only [okData]
    rfl
  · rfl

/-- Settles O34: the case that applies sets the position, the reply and the onward NUMBER. -/
theorem numberingFollowsTheCases : Obligations.NumberingFollowsTheCases := by
  intro hdr s p receives free notDue
  have taken : receive .upper (frameOf hdr kindNumber [p]) id s = numberUnit p (presenceRestart s) := by
    have route : routeOf s.ti .upper kindNumber hdr.dest = .number := by
      have down : upwardKind kindNumber = false := rfl
      simp [routeOf, routeUpper, receives, down]
    simp only [receive, frameOf, route]
    rfl
  have takes {position : Option Nat} {r : Result} {onward : Option Byte}
      (applies : numberCase (presenceRestart s) p = (position, r, onward)) :
      ∃ t, exec (.number hdr p) s = .next t ∧
        quiet t = quiet { presenceRestart s with ti := { (presenceRestart s).ti with position := position } } ∧
        Answered t (unitFrame position kindReply [0x10, resultCode r, unitByte position]) false ∧
        (t.ti.onward = onward.or s.ti.onward ∨ t.ti.onward = none ∧
          ∃ q, onward.or s.ti.onward = some q ∧
            t.ti.lowerTx = .frame ⟨255, unitByte position, 0xE0#8, 0x10#8, [q]⟩) := by
    obtain ⟨w, isW⟩ : ∃ w : State, w = { presenceRestart s with ti := { (presenceRestart s).ti with
      position := position, onward := onward.or s.ti.onward } } := ⟨_, rfl⟩
    have goes : receive .upper (frameOf hdr kindNumber [p]) id s =
        placeOwn (commandReply codeNumber [p] r [unitByte position]) w := by
      rw [taken, numberUnit, applies, isW]
      cases onward <;> rfl
    have freeW : w.ti.reply = none := by rw [isW]; exact free
    have here : w.ti.position = position := by rw [isW]
    have next : w.ti.onward = onward.or s.ti.onward := by rw [isW]
    obtain ⟨same, -, answered, -⟩ := settle_placeOwn (d := commandReply codeNumber [p] r [unitByte position]) freeW
      (by rw [isW]; exact notDue)
    have passed := settle_onward (placeOwn (commandReply codeNumber [p] r [unitByte position]) w)
    have kept : (placeOwn (commandReply codeNumber [p] r [unitByte position]) w).ti.onward = w.ti.onward ∧
        (placeOwn (commandReply codeNumber [p] r [unitByte position]) w).ti.position = w.ti.position := by
      rw [placeOwn_eq freeW]
      exact ⟨rfl, rfl⟩
    rw [kept.1, kept.2, next, here] at passed
    refine ⟨_, congrArg (fun x => Host.Outcome.next (settle x)) goes, same.trans ?_, ?_, passed⟩
    · rw [isW]
      rfl
    · have built : buildReply w (commandReply codeNumber [p] r [unitByte position]) =
          unitFrame position kindReply [0x10, resultCode r, unitByte position] := by
        simp only [buildReply, commandReply, replyPayload_number, here]
      rw [← built]
      exact answered
  dsimp only
  refine ⟨fun zero => takes (r := .badArgument) (onward := none) ?_, fun some_ active q position => ?_, fun some_ inactive low => ?_,
    fun inactive high => ?_⟩
  · simp only [numberCase, zero]
    rfl
  all_goals have notZero (h : p ≠ 0) : p.toNat ≠ 0 := fun e => h (BitVec.eq_of_toNat_eq e)
  · refine takes (r := .positionHeld) (onward := some (byte (q + 1))) ?_
    have active : (presenceRestart s).ts.activeFlag = true := active
    have position : (presenceRestart s).ti.position = some q := position
    simp only [numberCase, notZero some_, active, position, if_true, if_false, Option.map_some]
  · refine takes (r := .ok) (onward := some (p + 1)) ?_
    have inactive : (presenceRestart s).ts.activeFlag = false := inactive
    have next : byte (p.toNat + 1) = p + 1 := by
      refine BitVec.eq_of_toNat_eq ?_
      rw [byte_toNat (by omega), BitVec.toNat_add]
      simp
      omega
    simp only [numberCase, notZero some_, inactive, low, if_true, if_false, Bool.false_eq_true, next]
  · refine takes (r := .chainTooLong) (onward := some (if p = 255 then 255 else p + 1)) ?_
    have inactive : (presenceRestart s).ts.activeFlag = false := inactive
    have notZero : p.toNat ≠ 0 := by omega
    have beyond : ¬ p.toNat ≤ 4 := by omega
    have next : byte (min 255 (p.toNat + 1)) = if p = 255 then 255 else p + 1 := by
      split
      next all =>
        subst all
        rfl
      next other =>
        have below : p.toNat ≠ 255 := fun e => other (BitVec.eq_of_toNat_eq e)
        have := p.isLt
        refine BitVec.eq_of_toNat_eq ?_
        rw [byte_toNat (by omega), BitVec.toNat_add]
        simp
        omega
    simp only [numberCase, notZero, inactive, beyond, if_false, Bool.false_eq_true, next]

end Sys2Proof.Machine
end

section
/-! The upper arbiter's order and the reports it builds (R41, R44, R99, R120 to R122, R178, R179, R190, R191). -/

namespace Sys2Proof.Machine

open Sys2Proof

/-! ### The order of the sources -/

section Order

variable {s : State} {g : Grant}

theorem pickUpper_alarm (waits : grantAlarm s = some g) (turn : s.ti.lastWasA = false ∨ s.ti.uf = []) :
    pickUpper s = some (nameA true g) := by
  rw [pickUpper, alternate_first waits (turn.imp_right fun empty => by simp only [grantUf, empty])]
  rfl

/-- Neither an alarm item nor a frame in UF waits. -/
theorem pickUpper_below (still : noAlarmItem s) (empty : s.ti.uf = []) : pickUpper s =
    orGrant (grantReply s) (orGrant (grantDropUp s) (alternate s.ti.lastWasE nameE (grantUr s) (grantRoutine s))) := by
  have uf : grantUf s = none := by simp only [grantUf, empty]
  rw [pickUpper, grantAlarm_of_noAlarmItem still, uf]
  rfl

theorem pickUpper_reply_waits (still : noAlarmItem s) (empty : s.ti.uf = []) (waits : grantReply s = some g) :
    pickUpper s = some g := by
  rw [pickUpper_below still empty, waits]
  rfl

theorem grantReply_none (free : s.ti.reply = none) : grantReply s = none := by simp only [grantReply, free]

theorem pickUpper_drop (still : noAlarmItem s) (empty : s.ti.uf = []) (free : s.ti.reply = none)
    (waits : grantDropUp s = some g) : pickUpper s = some g := by
  rw [pickUpper_below still empty, grantReply_none free, waits]
  rfl

theorem pickUpper_ef (still : noAlarmItem s) (empty : s.ti.uf = []) (free : s.ti.reply = none) (noDrop : grantDropUp s = none) :
    pickUpper s = alternate s.ti.lastWasE nameE (grantUr s) (grantRoutine s) := by
  rw [pickUpper_below still empty, grantReply_none free, noDrop]
  rfl

theorem grantUr_of_cons {f : Frame} {rest : List Frame} (head : s.ti.ur = f :: rest) :
    grantUr s = some (⟨f, false⟩, { s with ti := { s.ti with ur := rest } }) := by
  simp only [grantUr, head, granted]

theorem grantUr_of_nil (empty : s.ti.ur = []) : grantUr s = none := by simp only [grantUr, empty]

theorem grantRoutine_none (noSummary : s.ti.summaryDue = false) (noMirror : pendingMirror s = none) : grantRoutine s = none := by
  simp only [grantRoutine, grantSummary, noSummary, Bool.false_eq_true, if_false, grantMirror, noMirror, orGrant, ite_self]

theorem grantDropUp_eq_none_iff : grantDropUp s = none ↔
    ∀ p, s.ti.position = some p → ∀ q ∈ s.ts.active.nodes, ¬ dropWaits (· < p) s q.2 := by
  unfold grantDropUp
  cases s.ti.position with
  | none => exact iff_of_true rfl nofun
  | some p =>
    simp only [grantDrop_eq_none_iff, pendingDrop_eq_none_iff, decide_eq_true_eq, Option.some.injEq, forall_eq']

end Order

/-! ### The end of the step that sends -/

/-- The upper transmitter is free. -/
def upperFree (s : State) : State := { s with ti := { s.ti with upperTx := none } }

/-- The end of the upper transmitter's frame, when nothing holds it: what the arbiter picks goes out, and the lower
arbiter may go on from there. -/
theorem upperSent_sends {s : State} {x : Sending} {g : Grant} (sent : s.ti.upperTx = some x) (noReset : x.reset = false)
    (released : s.pins.holdFromAbove = false) (picked : pickUpper (upperFree s) = some g) :
    ∃ t, exec .upperFrameSent s = .next (setOutputs t) ∧ quiet (setOutputs t) = quiet s ∧ LowerMoved (sentUp g) t := by
  have ends : exec .upperFrameSent s = .next (settle (upperFree s)) := by
    simp only [exec, execUpperFrameSent, upperSent, sent, noReset, Bool.false_eq_true, if_false]
    rfl
  have sends := settle_sends_up (s := upperFree s) rfl released picked
  refine ⟨grantLower (sentUp g), by rw [ends, sends], ?_, grantLower_moved _⟩
  have same := quiet_settle (upperFree s)
  rw [sends] at same
  exact same

/-- A report goes out when the arbiter picks it, and what the lower arbiter leaves alone holds of the state after. -/
theorem sendsUp_of_pick {s : State} {x : Sending} {f : Frame} {v : State} {P : State → Prop} (sent : s.ti.upperTx = some x)
    (noReset : x.reset = false) (released : s.pins.holdFromAbove = false)
    (picked : pickUpper (upperFree s) = some (⟨f, false⟩, v))
    (holds : ∀ nodes df onward tx last, (nodes = v.nd.nodes ∨ ∃ k, nodes = assocMap k materialTaken v.nd.nodes) →
      P (setOutputs { v with
        nd := { v.nd with nodes := nodes }
        ti := { v.ti with
          upperTx := some ⟨f, false⟩, df := df, onward := onward, lowerTx := tx, lastWasDf := last } })) :
    sendsUp s f P := by
  obtain ⟨t, ends, same, nodes, df, onward, tx, last, rfl, taken⟩ := upperSent_sends sent noReset released picked
  exact ⟨_, ends, same, rfl, holds nodes df onward tx last taken⟩

/-! ### Source A -/

section Alarm

variable {s : State} {x : Sending} (sent : s.ti.upperTx = some x) (noReset : x.reset = false)
  (released : s.pins.holdFromAbove = false) (numbered : s.ti.position.isSome)
  (turn : s.ti.lastWasA = false ∨ s.ti.uf = [])

theorem grantAlarm_numbered (numbered : s.ti.position.isSome) : grantAlarm s =
    orGrant (grantCleared s) (orGrant (grantIncident s) (orGrant (grantCondition s) (grantNotice s))) :=
  if_neg (by rw [Option.isNone_eq_false_iff.mpr numbered]; exact Bool.false_ne_true)

include sent noReset released turn

/-- An alarm item that the arbiter grants goes out, and A is the source named last. -/
theorem sendsUp_of_alarm {f : Frame} {v : State} {P : State → Prop} (waits : grantAlarm (upperFree s) = some (⟨f, false⟩, v))
    (holds : ∀ t : State, t.rt = v.rt → t.le = v.le → t.nd.flood = v.nd.flood → t.fa = v.fa → t.de = v.de → t.ie = v.ie →
      t.vs = v.vs → t.ti.lost = v.ti.lost → P t) : sendsUp s f fun t => t.ti.lastWasA = true ∧ P t := by
  have picked := pickUpper_alarm waits turn
  exact sendsUp_of_pick sent noReset released picked fun _ _ _ _ _ _ => ⟨rfl, holds _ rfl rfl rfl rfl rfl rfl rfl rfl⟩

end Alarm

/-- The INCIDENT REPORT of an open incident is that of Table 10-6. -/
theorem incidentPayload_eq (s : State) (i : Incident) : incidentPayload s i = incidentReport s i := by
  simp only [incidentPayload, incidentReport, counted, List.map_eq_flatMap, List.append_assoc, List.cons_append,
    List.nil_append] <;> rfl

/-- The detail in a granted UNIT CONDITION is that of its rule. -/
theorem conditionDetail_granted (s : State) (u : UnitCondition) : detailGranted s u (conditionDetail s u) := by
  refine ⟨?_, ?_, ?_, ?_⟩
  · rintro rfl
    rfl
  · rintro rfl noRequest
    simp only [conditionDetail, overflowDetail, noRequest, Bool.false_eq_true, if_false]
    cases lowest (unhousedList s) <;> rfl
  · rintro rfl request b n branch index
    simp only [conditionDetail, overflowDetail, request, if_true, branch, Option.bind_some, index]
  · intro notOverrun notOverflow
    cases u with
    | roundOverrun => exact absurd rfl notOverrun
    | incidentOverflow => exact absurd rfl notOverflow
    | _ => rfl

/-- A grant of a condition's report clears its own pending flag and no other. -/
theorem conditionOf_clearConditionPending (s : State) (u v : UnitCondition) :
    conditionOf (clearConditionPending u s) v = if v = u then unpend (conditionOf s v) else conditionOf s v := by
  cases u <;> cases v <;> rfl

theorem conditionOf_congr {s t : State} (rt : t.rt = s.rt) (le : t.le = s.le) (flood : t.nd.flood = s.nd.flood) (fa : t.fa = s.fa)
    (de : t.de = s.de) (ie : t.ie = s.ie) (vs : t.vs = s.vs) (lost : t.ti.lost = s.ti.lost) (u : UnitCondition) :
    conditionOf t u = conditionOf s u := by
  cases u with
  | flood => exact flood
  | headerBackflow => exact congrArg FlowBlock.backflow fa
  | headerFault => exact congrArg (fun v : ValveBlock => v.header.fault) vs
  | meterSkew => exact congrArg FlowBlock.meterSkew fa
  | incidentOverflow => exact congrArg IncidentBlock.overflow ie
  | roundOverrun => exact congrArg RoundTimer.overrun rt
  | controllerLost => exact lost
  | alertStuck => exact congrArg LegBlock.stuck le
  | unmappedDrip => exact congrArg DripBlock.unmappedDrip de

/-- The pending condition of the lowest code is the one found. -/
theorem find_condition {P : UnitCondition → Bool} {u : UnitCondition} (holds : P u = true)
    (first : ∀ v, conditionCode v < conditionCode u → P v = false) : allConditions.find? P = some u := by
  cases u <;> simp_all [allConditions, conditionCode]

/-- What `pendingNotice` finds at one branch. -/
def noticeAt (s : State) (p : Nat × BranchId) : Option (BranchId × Notice) :=
  match assocGet p.2 s.ie.notices with
  | some n => if n.pending then some (p.2, n) else none
  | none => none

theorem pendingNotice_eq (s : State) : pendingNotice s = (branchList s.ts.active).findSome? (noticeAt s) := rfl

/-- The first branch with a pending notice is the one found, under its own index. -/
theorem pendingNotice_of_first {s : State} {before after : List (Nat × BranchId)} {n : Nat} {b : BranchId} {x : Notice}
    (list : branchList s.ts.active = before ++ (n, b) :: after)
    (first : ∀ p ∈ before, ∀ y, assocGet p.2 s.ie.notices = some y → y.pending = false) (notice : assocGet b s.ie.notices = some x)
    (pending : x.pending = true) : pendingNotice s = some (b, x) ∧ indexOf s.ts.active b = some n := by
  constructor
  · have none : before.findSome? (noticeAt s) = none := by
      refine List.findSome?_eq_none_iff.mpr fun p hp => ?_
      unfold noticeAt
      cases found : assocGet p.2 s.ie.notices with
      | none => rfl
      | some y => exact if_neg (by rw [first p hp y found]; exact Bool.false_ne_true)
    rw [pendingNotice_eq, list, List.findSome?_append, none, Option.none_or, List.findSome?_cons]
    simp only [noticeAt, notice, pending, if_true]
  · have none : before.find? (fun p => decide (p.2 = b)) = none := by
      refine List.find?_eq_none.mpr fun p hp => ?_
      rw [decide_eq_true_iff]
      rintro rfl
      rw [first p hp x notice] at pending
      cases pending
    unfold indexOf
    rw [list, List.find?_append, none, Option.none_or, List.find?_cons, decide_eq_true rfl]
    rfl

/-- Source A's items in their order. -/
theorem alarmItems_sent {s : State} {x : Sending} (sent : s.ti.upperTx = some x) (noReset : x.reset = false)
    (released : s.pins.holdFromAbove = false) (numbered : s.ti.position.isSome) (turn : s.ti.lastWasA = false ∨ s.ti.uf = []) :
    alarmItemsAreSent s := by
  have grants := grantAlarm_numbered (s := upperFree s) numbered
  refine ⟨fun c rest cleared => ?_, fun noneCleared => ⟨fun before i after incidents first pending => ?_,
    fun noIncident => ⟨fun u pending first => ?_, fun noCondition before n b after notice r list first found pending record => ?_⟩⟩⟩
  · refine sendsUp_of_alarm sent noReset released turn (v := { upperFree s with ie := { s.ie with cleared := rest } }) ?_
      fun t _ _ _ _ _ ie _ _ => ie
    rw [grants, grantCleared, show (upperFree s).ie.cleared = c :: rest from cleared]
    rfl
  all_goals
    have noCleared : grantCleared (upperFree s) = none := by
      rw [grantCleared, show (upperFree s).ie.cleared = [] from noneCleared]
    rw [noCleared] at grants
  · have oldest : (upperFree s).ie.incidents.find? (·.pending) = some i := by
      change s.ie.incidents.find? _ = _
      rw [incidents, List.find?_append, List.find?_eq_none.mpr fun j hj => by rw [first j hj]; exact Bool.false_ne_true,
        Option.none_or, List.find?_cons, pending]
    refine sendsUp_of_alarm sent noReset released turn
      (v := modIncident i.id (fun j => { j with pending := false }) (upperFree s)) ?_ fun t _ _ _ _ _ ie _ _ => ie
    rw [grants, grantIncident, oldest]
    dsimp only
    rw [incidentPayload_eq]
    rfl
  all_goals
    have noIncident : grantIncident (upperFree s) = none := by
      have none : (upperFree s).ie.incidents.find? (·.pending) = none :=
        List.find?_eq_none.mpr fun i hi => by rw [noIncident i hi]; exact Bool.false_ne_true
      rw [grantIncident, none]
    rw [noIncident] at grants
  · have lowest_ : allConditions.find? (fun v => (conditionOf (upperFree s) v).pending) = some u := by
      have same (v : UnitCondition) : conditionOf (upperFree s) v = conditionOf s v := by cases v <;> rfl
      simp only [same]
      exact find_condition pending first
    refine ⟨conditionDetail s u, conditionDetail_granted s u, ?_⟩
    refine sendsUp_of_alarm sent noReset released turn
      (v := useFreeIf (conditionOpen (upperFree s) u) (clearConditionPending u (upperFree s))) ?_ ?_
    · rw [grants, grantCondition, lowest_]
      cases u <;> rfl
    · intro t rt le flood fa de ie vs lost v
      have kept : conditionOf t v = conditionOf (clearConditionPending u (upperFree s)) v := by
        rw [conditionOf_congr rt le flood fa de ie vs lost]
        cases conditionOpen (upperFree s) u <;> cases v <;> rfl
      rw [kept, conditionOf_clearConditionPending]
      cases v <;> rfl
  · obtain ⟨found, index⟩ := pendingNotice_of_first (s := upperFree s) list first found pending
    have noCondition : grantCondition (upperFree s) = none := by
      have none : allConditions.find? (fun u => (conditionOf (upperFree s) u).pending) = none :=
        List.find?_eq_none.mpr fun u _ => by
          rw [show (conditionOf (upperFree s) u).pending = (conditionOf s u).pending by cases u <;> rfl, noCondition u]
          exact Bool.false_ne_true
      rw [grantCondition, none]
    rw [noCondition] at grants
    refine sendsUp_of_alarm sent noReset released turn (v := { upperFree s with
      ie := { s.ie with notices := assocMap b (fun y => { y with pending := false }) s.ie.notices } }) ?_
      fun t _ _ _ _ _ ie _ _ => ie
    have tag : recOf (upperFree s).ts.active b = some r := record
    rw [grants, grantNotice, found]
    simp only [noticePayload, branchByte, index, optByte, tag]
    rfl

/-! ### Source D -/

/-- Material that has been taken stays taken, whatever the lower arbiter takes. -/
theorem dropTaken_of_taken {k : NodeKey} {nodes nodes' : List (NodeKey × NodeRun)} {n : NodeRun} {t : State}
    (taken : assocGet k nodes = some (materialTaken n))
    (moved : nodes' = nodes ∨ ∃ j, nodes' = assocMap j materialTaken nodes) (after : t.nd.nodes = nodes') : dropTaken k t := by
  refine ⟨materialTaken n, ?_, rfl, rfl, rfl⟩
  rw [after]
  rcases moved with rfl | ⟨j, rfl⟩
  · exact taken
  · by_cases here : k = j
    · subst here
      rw [assocGet_assocMap, taken]
      rfl
    · rw [assocGet_assocMap_ne _ _ here, taken]

section Lower

variable {s : State} {x : Sending} (sent : s.ti.upperTx = some x) (noReset : x.reset = false)
  (released : s.pins.holdFromAbove = false) (still : noAlarmItem s) (empty : s.ti.uf = []) (free : s.ti.reply = none)

include sent noReset released still empty free

/-- The DROP REPORT to a lower position from the lowest node whose material waits. -/
theorem dropReport_sent {p i : Nat} {before after : List (Nat × NodeRec)} {r : NodeRec} {d : DripFields} {n : NodeRun}
    (position : s.ti.position = some p) (nodes : s.ts.active.nodes = before ++ (i, r) :: after)
    (first : ∀ q ∈ before, ¬ dropWaits (· < p) s q.2) (body : r.body = .drip d) (run : assocGet r.key s.nd.nodes = some n)
    (pending : n.evPending = true) (other : resolveUnit s.ti.position d.evUnit ≠ 0)
    (lower : resolveUnit s.ti.position d.evUnit < p) :
    sendsUp s (dropReportOf s (resolveUnit s.ti.position d.evUnit) i r n) (dropTaken r.key) := by
  have found := pendingDrop_of_first (dir := fun u => decide (u < p)) (s := upperFree s) (before := before) (i := i)
    (after := after) nodes (fun q hq h => by
      simp only [decide_eq_true_eq] at h
      exact first q hq h) body run pending other (decide_eq_true lower)
  have granted : grantDropUp (upperFree s) =
      some (⟨dropReportOf s (resolveUnit s.ti.position d.evUnit) i r n, false⟩, dropGranted r (upperFree s)) := by
    rw [grantDropUp, show (upperFree s).ti.position = some p from position]
    simp only [grantDrop, found]
    rfl
  refine sendsUp_of_pick sent noReset released (pickUpper_drop still empty free granted)
    fun nodes' _ _ _ _ moved => dropTaken_of_taken (n := n) ?_ moved rfl
  change assocGet r.key (assocMap r.key materialTaken s.nd.nodes) = _
  rw [assocGet_assocMap, run]
  rfl

/-! ### Sources E and F -/

/-- A routine item that the arbiter grants goes out, and E is not the source named last. -/
theorem routine_sent {p : Nat} {f : Frame} {v : State} {P : State → Prop} (position : s.ti.position = some p)
    (noDrop : ∀ q ∈ s.ts.active.nodes, ¬ dropWaits (· < p) s q.2) (turn : s.ti.ur = [] ∨ s.ti.lastWasE = true)
    (waits : grantRoutine (upperFree s) = some (⟨f, false⟩, v))
    (holds : ∀ t : State, t.ti.summaryDue = v.ti.summaryDue →
      (t.nd.nodes = v.nd.nodes ∨ ∃ k, t.nd.nodes = assocMap k materialTaken v.nd.nodes) → P t) :
    sendsUp s f fun t => t.ti.lastWasE = false ∧ P t := by
  have noDrop : grantDropUp (upperFree s) = none := by
    rw [grantDropUp_eq_none_iff]
    intro p' position' q hq
    obtain rfl : p = p' := Option.some.inj (position.symm.trans position')
    exact noDrop q hq
  have picked := (pickUpper_ef (s := upperFree s) still empty free noDrop).trans
    (alternate_second waits (turn.imp_left fun empty => grantUr_of_nil (s := upperFree s) empty))
  exact sendsUp_of_pick sent noReset released picked fun _ _ _ _ _ moved => ⟨rfl, holds _ rfl moved⟩

end Lower

theorem summaryBranch_eq (s : State) (n : Nat) : summaryBranch s n = summaryEntry s n := by
  unfold summaryBranch summaryEntry
  cases identAt s.ts.active n with
  | none => rfl
  | some b =>
    dsimp only
    unfold scoreOf
    cases assocGet b s.de.branches <;> rfl

theorem optBytes2_eq (o : Option Nat) : optBytes2 o = bytes2 (o.getD 65535) := by
  cases o with
  | none => decide
  | some n => rfl

/-- What the lower arbiter leaves of the runtime of a node whose MIRROR was sent. -/
theorem mirror_after {k : NodeKey} {nodes nodes' : List (NodeKey × NodeRun)} {n : NodeRun} (run : assocGet k nodes = some n)
    (moved : nodes' = nodes ∨ ∃ j, nodes' = assocMap j materialTaken nodes) :
    ∃ n', assocGet k nodes' = some n' ∧ n'.mirrorPending = n.mirrorPending ∧ n'.lastMirrored = n.lastMirrored := by
  rcases moved with rfl | ⟨j, rfl⟩
  · exact ⟨n, run, rfl, rfl⟩
  · by_cases here : k = j
    · subst here
      exact ⟨materialTaken n, by rw [assocGet_assocMap, run]; rfl, rfl, rfl⟩
    · exact ⟨n, by rw [assocGet_assocMap_ne _ _ here, run], rfl, rfl⟩

/-- What `pendingMirror` finds at one node. -/
def mirrorAt (s : State) (p : Nat × NodeRec) : Option (Nat × NodeRec × LastSample) :=
  match assocGet p.2.key s.nd.nodes with
  | some n => if n.mirrorPending then n.last.map fun m => (p.1, p.2, m) else none
  | none => none

theorem pendingMirror_eq (s : State) : pendingMirror s = s.ts.active.nodes.findSome? (mirrorAt s) := rfl

theorem mirrorAt_eq_none {s : State} {p : Nat × NodeRec} (h : ¬ mirrorWaits s p.2) : mirrorAt s p = none := by
  unfold mirrorAt
  split
  next n run =>
    split
    next pending =>
      cases last : n.last with
      | none => rfl
      | some m => exact absurd ⟨n, m, run, pending, last⟩ h
    · rfl
  · rfl

/-- The node with the lowest index whose MIRROR waits is the one found. -/
theorem pendingMirror_of_first {s : State} {before after : List (Nat × NodeRec)} {i : Nat} {r : NodeRec} {n : NodeRun}
    {m : LastSample} (nodes : s.ts.active.nodes = before ++ (i, r) :: after) (first : ∀ q ∈ before, ¬ mirrorWaits s q.2)
    (run : assocGet r.key s.nd.nodes = some n) (pending : n.mirrorPending = true) (last : n.last = some m) :
    pendingMirror s = some (i, r, m) := by
  have none : before.findSome? (mirrorAt s) = none := List.findSome?_eq_none_iff.mpr fun q hq => mirrorAt_eq_none (first q hq)
  rw [pendingMirror_eq, nodes, List.findSome?_append, none, Option.none_or, List.findSome?_cons]
  simp only [mirrorAt, run, pending, if_true, last, Option.map_some]

/-- The value a MIRROR sent leaves. -/
theorem mirrorValue_spec (k : NodeKind) (m : LastSample) :
    (m.verdict = .notOk ∨ m.verdict = .malformed → mirrorValue k m.verdict m.payload = none) ∧
    (m.verdict = .noReading → mirrorValue k m.verdict m.payload = some .noReading) ∧
    (m.verdict = .usable → ∀ a b rest, m.payload = a :: b :: rest →
      mirrorValue k m.verdict m.payload = some (.reading (if k = .flow then ofBytes2 a b else a.toNat))) := by
  refine ⟨?_, ?_, ?_⟩
  · rintro (h | h) <;> rw [h] <;> unfold mirrorValue <;> cases m.payload <;> cases k <;> rfl
  · intro h
    rw [h]
    rfl
  · intro h a b rest payload
    rw [h, payload]
    cases k <;> rfl

/-- Source F's items in their order. -/
theorem routineItems_sent {s : State} {x : Sending} {p : Nat} (sent : s.ti.upperTx = some x) (noReset : x.reset = false)
    (released : s.pins.holdFromAbove = false) (position : s.ti.position = some p) (still : noAlarmItem s) (empty : s.ti.uf = [])
    (free : s.ti.reply = none) (noDrop : ∀ q ∈ s.ts.active.nodes, ¬ dropWaits (· < p) s q.2)
    (turn : s.ti.ur = [] ∨ s.ti.lastWasE = true) : routineItemsAreSent s := by
  have numbered : (upperFree s).ti.position.isNone = false := by
    rw [show (upperFree s).ti.position = some p from position]
    rfl
  have grants : grantRoutine (upperFree s) = orGrant (grantSummary (upperFree s)) (grantMirror (upperFree s)) :=
    if_neg (by rw [numbered]; exact Bool.false_ne_true)
  refine ⟨fun e due ended => ?_, fun noSummary before i r after n m nodes first run pending last => ?_⟩
  · refine routine_sent sent noReset released still empty free position noDrop turn
      (v := { upperFree s with ti := { (upperFree s).ti with summaryDue := false } }) ?_ fun t due _ => due
    have due : (upperFree s).ti.summaryDue = true := due
    have ended : (upperFree s).rt.ended = some e := ended
    rw [grants, grantSummary, due]
    have entries : summaryBranch (upperFree s) = summaryEntry s := funext fun n => summaryBranch_eq (upperFree s) n
    simp only [if_true, granted, orGrant, summaryPayload, ended, optBytes2_eq, entries, counted,
      ← List.map_eq_flatMap, heldAt]
    simp only [report, List.append_assoc, List.cons_append, List.nil_append]
    rfl
  · have found : pendingMirror (upperFree s) = some (i, r, m) :=
      pendingMirror_of_first (s := upperFree s) nodes first run pending last
    have noSummary : grantSummary (upperFree s) = none :=
      if_neg (by rw [show (upperFree s).ti.summaryDue = false from noSummary]; exact Bool.false_ne_true)
    refine routine_sent sent noReset released still empty free position noDrop turn
      (v := setNode r.key (fun n => { n with
        mirrorPending := false, lastMirrored := mirrorValue (nodeKind r) m.verdict m.payload }) (upperFree s)) ?_ ?_
    · rw [grants, noSummary, grantMirror, found]
      rfl
    · intro t _ moved
      obtain ⟨n', run', pending', value⟩ := mirror_after (n := { n with
        mirrorPending := false, lastMirrored := mirrorValue (nodeKind r) m.verdict m.payload }) (by
          change assocGet r.key (assocMap r.key _ s.nd.nodes) = _
          rw [assocGet_assocMap, run]
          rfl) moved
      obtain ⟨bad, noReading, usable⟩ := mirrorValue_spec (nodeKind r) m
      rw [show mirrorValue (nodeKind r) m.verdict m.payload = n'.lastMirrored from value.symm] at bad noReading usable
      exact ⟨n', run', pending', bad, noReading, usable⟩

/-! ### The obligation -/

/-- An unnumbered unit with nothing to forward grants nothing. -/
theorem pickUpper_unnumbered {s : State} (position : s.ti.position = none) (uf : s.ti.uf = []) (reply : s.ti.reply = none)
    (ur : s.ti.ur = []) : pickUpper s = none := by
  have alarm : grantAlarm s = none := if_pos (by rw [position]; rfl)
  have routine : grantRoutine s = none := if_pos (by rw [position]; rfl)
  have drop : grantDropUp s = none := by simp only [grantDropUp, position]
  have head : grantUf s = none := by simp only [grantUf, uf]
  rw [pickUpper, alarm, head, grantReply_none reply, drop, grantUr_of_nil ur, routine]
  rfl

/-- Settles O17, source by source. -/
theorem upperArbiterGrantsInOrder : Obligations.UpperArbiterGrantsInOrder := by
  intro s x sent noReset
  have ends : exec .upperFrameSent s = .next (settle (upperFree s)) := by
    simp only [exec, execUpperFrameSent, upperSent, sent, noReset, Bool.false_eq_true, if_false]
    rfl
  have same : quiet (settle (upperFree s)) = quiet s := quiet_settle _
  refine ⟨fun held => ?_, fun released => ⟨fun f rest head turn => ?_, fun still empty r waits notDue => ?_,
    fun still empty free noDrop f rest head turn => ?_, fun numbered turn => alarmItems_sent sent noReset released numbered turn,
    fun p position still empty free => ⟨?_, fun noDrop turn =>
      routineItems_sent sent noReset released position still empty free noDrop turn⟩, fun position uf reply ur => ?_⟩⟩
  · obtain ⟨tx, uf, ur, reply⟩ := settle_upper_held (s := upperFree s) held
    exact ⟨_, ends, same, tx, uf, ur, reply⟩
  · obtain ⟨tx, uf, last, reply, ur⟩ := settle_sends_uf (s := upperFree s) rfl released head turn
    exact ⟨_, ends, same, tx, uf, last, reply, ur⟩
  · have granted : grantReply (upperFree s) = some (⟨{ r.frame with src := unitByte s.ti.position }, r.reset⟩,
        { upperFree s with ti := { (upperFree s).ti with reply := none } }) := by
      rw [grantReply, show (upperFree s).ti.reply = some r from waits]
      simp only [refillPlace]
      split
      next due => exact absurd due (notDue _)
      · rfl
    obtain ⟨t, ends, same, _, _, _, _, _, rfl, -⟩ := upperSent_sends sent noReset released
      (pickUpper_reply_waits (s := upperFree s) still empty granted)
    exact ⟨_, ends, same, rfl, rfl, rfl⟩
  · have noDrop : grantDropUp (upperFree s) = none :=
      grantDropUp_eq_none_iff.mpr (grantDropUp_eq_none_iff (s := s).mp noDrop)
    have turn : (upperFree s).ti.lastWasE = false ∨ grantRoutine (upperFree s) = none := by
      refine (Bool.eq_false_or_eq_true s.ti.lastWasE).symm.imp (fun h => h) fun last => ?_
      exact grantRoutine_none (s := upperFree s) (turn last).1 (turn last).2
    obtain ⟨t, ends, same, _, _, _, _, _, rfl, -⟩ := upperSent_sends sent noReset released
      ((pickUpper_ef (s := upperFree s) still empty free noDrop).trans
        (alternate_first (grantUr_of_cons (s := upperFree s) head) turn))
    exact ⟨_, ends, same, rfl, rfl, rfl⟩
  · exact fun before i r after d n nodes first body run pending other lower =>
      dropReport_sent sent noReset released still empty free position nodes first body run pending other lower
  · have nothing := grantUpper_of_pickUpper_none (pickUpper_unnumbered (s := upperFree s) position uf reply ur)
    have tx : (settle (upperFree s)).ti.upperTx = none := by
      have lower : (settle (upperFree s)).ti.upperTx = (grantUpper (upperFree s)).ti.upperTx :=
        (upperSide_grantLower (grantUpper (upperFree s))).2.2.2.2.1
      rw [lower, nothing]
      rfl
    exact ⟨_, ends, same, tx⟩

end Sys2Proof.Machine
end

section
/-! What a valve command placed in a step leaves when the boundaries have run, and the exercise commands (R128 to R131,
R146, R147, R152 to R154). -/

namespace Sys2Proof.Machine

open Sys2Proof

/-! ### Valve records that move in their phase alone -/

/-- Each valve's record keeps everything but its phase. -/
def PhasesMoved (v w : ValveBlock) : Prop :=
  ∀ k, ∃ p, valveAt w k = (valveAt v k).map fun r => { r with phase := p }

section Phases

variable {v w x : ValveBlock}

theorem PhasesMoved.of_valves (h : w.valves = v.valves) : PhasesMoved v w := fun k => by
  unfold valveAt
  rw [h]
  cases assocGet k v.valves with
  | none => exact ⟨.none, rfl⟩
  | some r => exact ⟨r.phase, rfl⟩

theorem PhasesMoved.refl : PhasesMoved v v := .of_valves rfl

theorem PhasesMoved.trans (h : PhasesMoved v w) (h' : PhasesMoved w x) : PhasesMoved v x := fun k => by
  obtain ⟨p, hp⟩ := h k
  obtain ⟨q, hq⟩ := h' k
  exact ⟨q, by rw [hq, hp, Option.map_map]; rfl⟩

theorem PhasesMoved.after (h' : PhasesMoved w x) (h : PhasesMoved v w) : PhasesMoved v x := h.trans h'

theorem valveAt_setValve (k : NodeKey) (f : ValveRec → ValveRec) (v : ValveBlock) :
    valveAt (setValve k f v) k = (valveAt v k).map f := assocGet_assocMap ..

theorem valveAt_setValve_ne {k j : NodeKey} (f : ValveRec → ValveRec) (v : ValveBlock) (h : j ≠ k) :
    valveAt (setValve k f v) j = valveAt v j := assocGet_assocMap_ne f v.valves h

theorem setPhase_moved (k : NodeKey) (p : StrokePhase) (v : ValveBlock) :
    PhasesMoved v (setValve k (fun r => { r with phase := p }) v) := fun j => by
  by_cases same : j = k
  · subst same
    exact ⟨p, valveAt_setValve ..⟩
  · rw [valveAt_setValve_ne _ _ same]
    exact PhasesMoved.refl j

theorem refillOnce_phases (l : Leg) (v : ValveBlock) : PhasesMoved v (refillOnce l v) := by
  unfold refillOnce
  split
  · split
    · exact .refl
    · dsimp only
      split
      · split
        · exact .after (setPhase_moved _ _ _) (.of_valves rfl)
        · exact .of_valves rfl
      · exact .of_valves rfl
  · exact .refl

theorem refill_phases (l : Leg) (n : Nat) (v : ValveBlock) : PhasesMoved v (refill l n v) := by
  induction n generalizing v with
  | zero => exact .refl
  | succ n ih => exact .after (ih _) (refillOnce_phases l v)

theorem placeCommand_phases (k : NodeKey) (t : ValveTarget) (tag : Byte) (v : ValveBlock) :
    PhasesMoved v (placeCommand k t tag v) := by
  simp only [placeCommand]
  split
  · exact .after (setPhase_moved _ _ _) (.of_valves rfl)
  · split
    · exact setPhase_moved _ _ _
    · split
      · exact .after (setPhase_moved _ _ _) (.of_valves rfl)
      · exact .after (setPhase_moved _ _ _) (.of_valves rfl)

theorem dropCommand_phases (k : NodeKey) (v : ValveBlock) : PhasesMoved v (dropCommand k v) :=
  .after (refill_phases _ _ _) (.of_valves rfl)

theorem takeHead_phases {l : Leg} {e : ActionEntry} (taken : takeHead l v = some (e, w)) : PhasesMoved v w := by
  unfold takeHead at taken
  split at taken
  · cases taken
  · cases taken
    exact .after (refill_phases _ _ _) (.after (setPhase_moved _ _ _) (.of_valves rfl))

/-- What a command that is not in hand writes into its valve's record. -/
theorem valveAt_issue {k : NodeKey} {t : ValveTarget} {r : ValveRec} (found : valveAt v k = some r)
    (fresh : r.target ≠ some t ∨ inHand r.phase = false) :
    ∃ p, valveAt (issue k t v) k =
      some { r with tag := r.tag + 1, target := some t, attempts := 0, start := none, limit := none, phase := p } := by
  unfold issue
  rw [found]
  dsimp only
  rw [if_neg (fun held => fresh.elim (fun h => h held.1) (fun h => by rw [h] at held; cases held.2))]
  obtain ⟨p, moved⟩ := placeCommand_phases k t (r.tag + 1)
    (setValve k (fun r => { r with tag := r.tag + 1, target := some t, attempts := 0, start := none, limit := none }) v) k
  rw [valveAt_setValve, found] at moved
  exact ⟨p, moved⟩

end Phases

/-! ### Boundaries with no relay waiting -/

section Boundaries

variable {s : State}

/-- A boundary moves no valve's record but in its phase, and with no relay waiting it leaves the trunk alone. -/
structure Boundary (s t : State) : Prop where
  phases : PhasesMoved s.vs t.vs
  trunk : (∀ k f, s.ti.slot ≠ .relay k f false) → t.ti = s.ti

theorem Boundary.of_same {t : State} (vs : t.vs = s.vs) (ti : t.ti = s.ti) : Boundary s t :=
  ⟨by rw [vs]; exact .refl, fun _ => ti⟩

theorem Boundary.trans {t u : State} (h : Boundary s t) (h' : Boundary t u) : Boundary s u :=
  ⟨h.phases.trans h'.phases, fun free => (h'.trunk (by rw [h.trunk free]; exact free)).trans (h.trunk free)⟩

theorem boundaryDiscovery_kept (l : Leg) (s : State) : Boundary s (boundaryDiscovery l s) := by
  simp only [boundaryDiscovery]
  split <;> exact .of_same rfl rfl

theorem boundaryPoll_kept (l : Leg) (s : State) : Boundary s (boundaryPoll l s) := by
  simp only [boundaryPoll]
  split
  · exact .of_same rfl rfl
  · exact boundaryDiscovery_kept l s

theorem placeDue_vs (d : DueReply) (s : State) : (placeDue d s).vs = s.vs := by rw [placeDue_frame]

theorem boundaryRelay_kept (l : Leg) (s : State) : Boundary s (boundaryRelay l s) := by
  unfold boundaryRelay
  split
  next k f waits =>
    refine ⟨?_, fun free => absurd waits (free k f)⟩
    split
    · split
      · exact .after (boundaryPoll_kept ..).phases (by rw [placeDue_vs]; exact .refl)
      · exact .refl
    · exact (boundaryPoll_kept ..).phases
  · exact boundaryPoll_kept l s

theorem boundarySweep_kept (l : Leg) (s : State) : Boundary s (boundarySweep l s) := by
  have begun : Boundary s (sweepBegun l s) := by
    simp only [sweepBegun]
    split <;> exact .of_same rfl rfl
  simp only [boundarySweep]
  split
  next t polled =>
    refine begun.trans ?_
    unfold sweepPoll at polled
    split at polled
    · split at polled
      · cases polled
        exact .of_same rfl rfl
      · cases polled
    · cases polled
  · exact begun.trans (boundaryRelay_kept ..)

theorem boundary_kept (l : Leg) (s : State) : Boundary s (boundary l s) := by
  unfold boundary
  split
  · unfold boundaryQueue
    split
    next taken => exact ⟨takeHead_phases taken, fun _ => rfl⟩
    · exact boundarySweep_kept l s
  · exact .of_same rfl rfl

theorem boundaries_kept (s : State) : Boundary s (boundaries s) :=
  List.foldlRecOn (motive := Boundary s) allLegs _ (.of_same rfl rfl) fun t ht l _ => ht.trans (boundary_kept l t)

/-- What the end of a step with boundaries leaves: the legs have gone on, and nothing else has moved. -/
theorem quiet_settleAll (s : State) :
    quiet (settleAll s) = quiet { s with le := (settleAll s).le, vs := (settleAll s).vs } := by
  have frame := boundaries_frame s
  have same := quiet_settle (boundaries s)
  rw [frame] at same
  rw [show quiet { s with le := (settleAll s).le, vs := (settleAll s).vs } =
    { quiet s with le := (quiet (settleAll s)).le, vs := (quiet (settleAll s)).vs } from rfl]
  unfold settleAll
  rw [frame, same]
  rfl

theorem settleAll_phases (s : State) : PhasesMoved s.vs (settleAll s).vs := by
  have same := congrArg (fun u : State => u.vs.valves) (quiet_settle (boundaries s))
  exact .after (.of_valves same) (boundaries_kept s).phases

theorem settleAll_position (s : State) : (settleAll s).ti.position = s.ti.position := by
  unfold settleAll
  rw [settle_position, boundaries_frame]

/-- A reply placed in the step stands in the reply place, or is granted, when the step ends with boundaries. -/
theorem settleAll_answered {r : Reply} (free : ∀ k f, s.ti.slot ≠ .relay k f false) (hr : s.ti.reply = some r)
    (hs : ∀ d, s.ti.slot ≠ .due d) (hp : r.frame.src = unitByte s.ti.position) :
    (settleAll s).ti.slot = s.ti.slot ∧ Answered (settleAll s) r.frame r.reset := by
  have trunk := (boundaries_kept s).trunk free
  have answered := settle_answered (boundaries s) r (by rw [trunk]; exact hr) (by rw [trunk]; exact hs)
    (by rw [trunk]; exact hp)
  rw [trunk] at answered
  exact answered

end Boundaries

/-! ### A command that brings work to the legs -/

section Carried

variable {c : Instr} {hdr : Header} {code : Byte} {args : List Byte} {carry : State → Carry} {s₀ s u : State} {r : Result}
  {detail payload : List Byte}

/-- What a command carried out leaves when its step ends with boundaries of the legs. -/
theorem carried_settles (he : exec c s₀ = .next (settleAll (receiveCommand hdr code args carry s))) (taken : Taken s hdr)
    (hc : carry (presenceRestart s) = (u, r, detail)) (free : u.ti.reply = none) (forwards : u.ti.df = s.ti.df)
    (notReset : code ≠ codeUnitReset ∨ r ≠ .ok) (hp : replyPayload u ⟨code, args, r, detail⟩ = payload) :
    ∃ t w, exec c s₀ = .next t ∧ t = settleAll w ∧ w = { u with ti := w.ti } ∧ quietTrunk w.ti = quietTrunk u.ti ∧
      Replied t payload := by
  obtain ⟨df, received⟩ := receiveCommand_forUnit hdr code args carry s taken.1 taken.2 (by rw [hc]; exact free)
    (by rw [hc]; exact forwards)
  rw [hc] at received
  dsimp only at received
  refine ⟨_, _, he, rfl, ?_, ?_, ?_⟩
  all_goals rw [received]
  · rfl
  · have held := isReset_eq_false (args := args) (detail := detail) notReset
    obtain ⟨slot, answered⟩ := settleAll_answered
      (s := { u with ti := { u.ti with
          df := df, reply := some ⟨buildReply u (commandReply code args r detail), isReset (commandReply code args r detail)⟩
          slot := slotAfter (commandReply code args r detail) } })
      (slotAfter_ne_relay _ · · false) rfl (slotAfter_ne_due _) rfl
    refine ⟨?_, slot.trans ?_⟩
    · rw [settleAll_position, ← hp]
      exact held ▸ answered
    · dsimp only
      unfold slotAfter
      rw [held]
      rfl

theorem replied_of_carry (he : exec c s₀ = .next (settleAll (receiveCommand hdr code args carry s))) (taken : Taken s hdr)
    (hc : carry (presenceRestart s) = (u, r, detail)) (hti : u.ti = (presenceRestart s).ti)
    (notReset : code ≠ codeUnitReset ∨ r ≠ .ok) (hp : replyPayload u ⟨code, args, r, detail⟩ = payload) :
    ∃ t, exec c s₀ = .next t ∧ Replied t payload ∧ quiet t = quiet { u with le := t.le, vs := t.vs } ∧
      PhasesMoved u.vs t.vs := by
  obtain ⟨t, w, ran, isT, frame, trunk, replied⟩ := carried_settles he taken hc (by rw [hti]; exact taken.2.2) (by rw [hti]; rfl)
    notReset hp
  have phases := settleAll_phases w
  refine ⟨t, ran, replied, ?_, by rw [frame] at phases; rw [isT, frame]; exact phases⟩
  rw [isT, quiet_settleAll, ← isT, frame]
  change { quiet u with le := (quiet t).le, vs := (quiet t).vs, ti := quietTrunk w.ti } = _
  rw [trunk]
  rfl

end Carried

/-! ### Taking plan entries (R147) -/

section Plan

variable {s : State} {i : Nat} {b : BranchId} {r : ValveRec}

theorem incidentOf_isSome : (incidentOf s b).isSome = true ↔ ∃ i ∈ s.ie.incidents, b ∈ i.members := by
  simp [incidentOf]

/-- The skip tests in order, and the owner that no run is known to reach. -/
theorem judgePlan_eq (named : identAt s.ts.active i = some b) (found : valveAt s.vs b.valve = some r) :
    judgePlan s i = match skipCause s b r with
      | some c => .skip c
      | none => if r.owner ≠ .none then .skip .incident else .start b.valve (strokeLimitOf s.ts.active b.valve) := by
  unfold judgePlan skipCause
  rw [named]
  simp only [found, incidentOf_isSome, ne_eq, ← Option.isSome_iff_ne_none]
  split
  · rfl
  · split
    · rfl
    · split
      · rfl
      · split <;> rfl

theorem skipCause_eq_none (unclaimed : incidentOf s b = none) (sound : r.fault = .none) (untargeted : r.target = none)
    (opened : r.position = some .opened) : skipCause s b r = none := by
  have member : ¬ ∃ i ∈ s.ie.incidents, b ∈ i.members := fun claimed => by
    rw [← incidentOf_isSome, unclaimed] at claimed
    cases claimed
  unfold skipCause
  rw [if_neg member, if_neg (not_not_intro sound), if_neg (by rw [untargeted]; nofun), if_neg (not_not_intro opened)]

theorem target_of_unskipped (h : skipCause s b r = none) : r.target = none := by
  unfold skipCause at h
  split at h
  · cases h
  · split at h
    · cases h
    · split at h
      · cases h
      next untargeted => exact Option.not_isSome_iff_eq_none.mp untargeted

theorem takePlan_stands (n : Nat) (h : ¬ (s.xc.state = .running ∧ s.xc.test = none ∧ s.xc.abortPending = false)) :
    takePlan n s = s := by
  cases n with
  | zero => rfl
  | succ n => exact if_neg h

theorem takePlan_finishes (n : Nat) (h : s.xc.state = .running ∧ s.xc.test = none ∧ s.xc.abortPending = false)
    (exhausted : s.xc.plan.length ≤ s.xc.cursor) : takePlan (n + 1) s = { s with xc := endExercise .finished s.xc } := by
  unfold takePlan
  rw [if_pos h, List.getElem?_eq_none exhausted]

theorem takePlan_skips (n : Nat) {c : ExCause} (h : s.xc.state = .running ∧ s.xc.test = none ∧ s.xc.abortPending = false)
    (entry : s.xc.plan[s.xc.cursor]? = some i) (judged : judgePlan s i = .skip c) :
    takePlan (n + 1) s = takePlan n (skipBranch i c s) := by
  rw [takePlan, if_pos h, entry]
  dsimp only
  rw [judged]

theorem takePlan_starts (n : Nat) {k : NodeKey} {limit : Nat}
    (h : s.xc.state = .running ∧ s.xc.test = none ∧ s.xc.abortPending = false)
    (entry : s.xc.plan[s.xc.cursor]? = some i) (judged : judgePlan s i = .start k limit) :
    takePlan (n + 1) s = startTest i k limit s := by
  rw [takePlan, if_pos h, entry]
  dsimp only
  rw [judged]

/-- The valve of a test that has started: EXERCISE owns it and its command is the partial test's. -/
theorem startTest_valve {k : NodeKey} {v w : ValveBlock} (found : valveAt v k = some r) (untargeted : r.target = none)
    (moved : PhasesMoved (issue k .partialTest (setValve k (fun r => { r with owner := .exercise }) v)) w) :
    ∃ r', valveAt w k = some r' ∧ r'.owner = .exercise ∧ r'.target = some .partialTest ∧ r'.tag = r.tag + 1 := by
  obtain ⟨p, issued⟩ := valveAt_issue (t := .partialTest) (v := setValve k (fun r => { r with owner := .exercise }) v)
    (r := { r with owner := .exercise }) (by rw [valveAt_setValve, found]; rfl) (.inl (by rw [untargeted]; nofun))
  obtain ⟨q, placed⟩ := moved k
  exact ⟨_, placed.trans (congrArg _ issued), rfl, rfl, rfl⟩

end Plan

/-! ### EXERCISE START (R146) -/

section Start

variable {s : State}

/-- A change of the exercise alone brings no work to the legs. -/
theorem exerciseMoved_rest (rest : LegsAtRest s) (x : ExerciseBlock) : LegsAtRest { presenceRestart s with xc := x } :=
  legsAtRest_congr (presenceRestart s) _ rfl rfl (fun _ _ h => h) rfl (presenceRestart_rest rest)

theorem closingIncident_iff : closingIncident s = true ↔ ∃ i ∈ s.ie.incidents, i.state = .isolating ∨ i.state = .probing := by
  simp [closingIncident]

theorem rangeOf_eq_none {first count : Byte} (all : first ≠ 255) (bad : 23 < first.toNat ∨ count = 0 ∨ 24 < count.toNat) :
    rangeOf first count = none := by
  have zero : count = 0 → count.toNat = 0 := fun h => by rw [h]; rfl
  have outside : ¬ (first.toNat ≤ 23 ∧ 1 ≤ count.toNat ∧ count.toNat ≤ 24) := by
    rintro ⟨low, positive, high⟩
    rcases bad with h | h | h
    · omega
    · rw [zero h] at positive
      cases positive
    · omega
  unfold rangeOf
  rw [if_neg all, if_neg outside]

theorem rangeOf_eq_some {first count : Byte} (good : ¬ (first ≠ 255 ∧ (23 < first.toNat ∨ count = 0 ∨ 24 < count.toNat))) :
    rangeOf first count = some (if first = 255 then .all else .span first.toNat count.toNat) := by
  unfold rangeOf
  split
  · rfl
  next some =>
    obtain ⟨low, counts, high⟩ : ¬ 23 < first.toNat ∧ count ≠ 0 ∧ ¬ 24 < count.toNat :=
      ⟨fun h => good ⟨some, .inl h⟩, fun h => good ⟨some, .inr (.inl h)⟩, fun h => good ⟨some, .inr (.inr h)⟩⟩
    have positive : count.toNat ≠ 0 := fun h => counts (BitVec.eq_of_toNat_eq h)
    have fits : first.toNat ≤ 23 ∧ 1 ≤ count.toNat ∧ count.toNat ≤ 24 := by omega
    rw [if_pos fits]

theorem planOf_eq (b : Bank) (first count : Byte) :
    planOf b (if first = 255 then .all else .span first.toNat count.toNat) = (b.branches.map (·.1)).filter fun i =>
      first = 255 || (decide (first.toNat ≤ i) && decide (i < first.toNat + count.toNat) && decide (i ≤ 23)) := by
  by_cases all : first = 255
  · simp [planOf, all]
  · rw [if_neg all]
    simp only [planOf, decide_eq_false all, Bool.false_or, Bool.decide_and, Bool.and_assoc]

/-- An accepted EXERCISE START leaves the exercise at its beginning, with its plan ended or its first entry taken. -/
theorem carryExerciseStart_accepted {first count : Byte} {range : ExRange} (idle : s.xc.state = .idle)
    (free : s.ts.commitPending = false) (h : rangeOf first count = some range) :
    carryExerciseStart first count s = (beginExercise range s, .ok, []) := by
  unfold carryExerciseStart
  rw [if_neg (not_not_intro idle), if_neg (by rw [free]; nofun), h]

theorem carryExerciseStart_busy {first count : Byte} (h : s.xc.state ≠ .idle ∨ s.ts.commitPending = true) :
    carryExerciseStart first count s = (s, .busy, []) := by
  unfold carryExerciseStart
  split
  · rfl
  next idle => rw [if_pos (h.resolve_left idle)]

theorem carryExerciseStart_badRange {first count : Byte} (idle : s.xc.state = .idle) (free : s.ts.commitPending = false)
    (h : rangeOf first count = none) : carryExerciseStart first count s = (s, .badArgument, []) := by
  unfold carryExerciseStart
  rw [if_neg (not_not_intro idle), if_neg (by rw [free]; nofun), h]

theorem newExercise_of_closing (range : ExRange) (h : closingIncident s = true) : newExercise s range =
    { state := .suspended, autoCause := true, manualCause := false, abortPending := false, range := some range,
      plan := planOf s.ts.active range, cursor := 0, test := none, results := [], endKind := .none } := by
  unfold newExercise
  rw [h]
  rfl

theorem newExercise_of_noClosing (range : ExRange) (h : closingIncident s = false) : newExercise s range =
    { state := .running, autoCause := false, manualCause := false, abortPending := false, range := some range,
      plan := planOf s.ts.active range, cursor := 0, test := none, results := [], endKind := .none } := by
  unfold newExercise
  rw [h]
  rfl

/-- An empty plan ends the exercise at once. -/
theorem beginExercise_of_empty {range : ExRange} (empty : planOf s.ts.active range = []) : beginExercise range s =
    { s with xc :=
      { state := .idle, autoCause := false, manualCause := false, abortPending := false, range := some range,
        plan := planOf s.ts.active range, cursor := 0, test := none, results := [], endKind := .finished } } :=
  if_pos empty

/-- With an incident closing a branch the exercise begins suspended, and takes no entry. -/
theorem beginExercise_of_closing {range : ExRange} (entries : planOf s.ts.active range ≠ []) (h : closingIncident s = true) :
    beginExercise range s =
      { s with xc :=
        { state := .suspended, autoCause := true, manualCause := false, abortPending := false, range := some range,
          plan := planOf s.ts.active range, cursor := 0, test := none, results := [], endKind := .none } } := by
  have stands : beginExercise range s = { s with xc := newExercise s range } := by
    refine (if_neg entries).trans (takePlan_stands _ fun running => ?_)
    rw [newExercise_of_closing range h] at running
    cases running.1
  rw [stands, newExercise_of_closing range h]

/-- A first branch that no test skips is under test when the exercise begins. -/
theorem beginExercise_of_test {range : ExRange} {n limit : Nat} {rest : List Nat} {k : NodeKey}
    (plan : planOf s.ts.active range = n :: rest) (h : closingIncident s = false) (judged : judgePlan s n = .start k limit) :
    beginExercise range s = startTest n k limit
      { s with xc :=
        { state := .running, autoCause := false, manualCause := false, abortPending := false, range := some range,
          plan := planOf s.ts.active range, cursor := 0, test := none, results := [], endKind := .none } } := by
  rw [← newExercise_of_noClosing range h]
  refine (if_neg (by rw [newExercise_of_noClosing range h, plan]; nofun)).trans (takePlan_starts (i := n) _ ?_ ?_ judged)
  · rw [newExercise_of_noClosing range h]
    exact ⟨rfl, rfl, rfl⟩
  · rw [newExercise_of_noClosing range h]
    dsimp only
    rw [plan]
    rfl

end Start

/-- Settles O41. -/
theorem exerciseStartBeginsThePlan : Obligations.ExerciseStartBeginsThePlan := by
  unfold Obligations.ExerciseStartBeginsThePlan
  intro hdr s first count taken rest
  split
  next busy => exact completes_of_refusal_at_rest rfl taken rest .busy [] (carryExerciseStart_busy busy) nofun
  next free =>
    obtain ⟨idle, unpending⟩ := not_or.mp free
    have idle : (presenceRestart s).xc.state = .idle := not_not.mp idle
    have unpending : (presenceRestart s).ts.commitPending = false := Bool.not_eq_true _ ▸ unpending
    split
    next bad =>
      exact completes_of_refusal_at_rest rfl taken rest .badArgument []
        (carryExerciseStart_badRange idle unpending (rangeOf_eq_none bad.1 bad.2)) nofun
    next good =>
      intro range plan begun
      have carried : carryExerciseStart first count (presenceRestart s) = (beginExercise range (presenceRestart s), .ok, []) :=
        carryExerciseStart_accepted idle unpending (rangeOf_eq_some good)
      have planned : planOf (presenceRestart s).ts.active range = plan := planOf_eq ..
      refine ⟨fun empty => ?_, fun entries closing => ?_, fun n tail b r entries closed named unclaimed found sound untargeted
        opened unowned => ?_⟩
      · rw [beginExercise_of_empty (s := presenceRestart s) (planned.trans empty), planned] at carried
        exact completes_of_carry_at_rest rfl taken carried rfl
          (exerciseMoved_rest rest _) (.inl (by decide)) (by change [0x30, 0x00, byte plan.length] = _; rw [empty]; rfl)
      · rw [beginExercise_of_closing (s := presenceRestart s) (by rw [planned]; exact entries) (closingIncident_iff.mpr closing), planned] at carried
        exact completes_of_carry_at_rest rfl taken carried rfl (exerciseMoved_rest rest _) (.inl (by decide)) rfl
      · have judged : judgePlan (presenceRestart s) n = .start b.valve (strokeLimitOf s.ts.active b.valve) := by
          rw [judgePlan_eq (s := presenceRestart s) named found,
            skipCause_eq_none (s := presenceRestart s) unclaimed sound untargeted opened]
          exact if_neg (not_not_intro unowned)
        have quietIncidents : closingIncident (presenceRestart s) = false :=
          Bool.eq_false_iff.mpr fun closing =>
            let ⟨i, mem, state⟩ := closingIncident_iff.mp closing
            state.elim (closed i mem).1 (closed i mem).2
        rw [beginExercise_of_test (s := presenceRestart s) (planned.trans entries) quietIncidents judged, planned] at carried
        obtain ⟨t, ran, replied, same, moved⟩ := replied_of_carry (c := .exerciseStart hdr first count)
          (code := codeExerciseStart) rfl taken carried rfl (.inl (by decide)) rfl
        exact ⟨t, ran, replied, same, startTest_valve found untargeted moved⟩

/-! ### EXERCISE SUSPEND, RESUME and ABORT (R152 to R154) -/

section Causes

variable {s : State}

theorem manualExercise_idle (b : Bool) (idle : s.xc.state = .idle) : manualExercise b s = (s, .wrongState, []) := if_pos idle

theorem carryExerciseAbort_idle (idle : s.xc.state = .idle) : carryExerciseAbort s = (s, .wrongState, []) := if_pos idle

theorem carryExerciseAbort_waits (active : s.xc.state ≠ .idle) (testing : s.xc.test.isSome = true) : carryExerciseAbort s =
    ({ s with xc := { s.xc with cursor := s.xc.plan.length, abortPending := true } }, .ok, []) := by
  unfold carryExerciseAbort abortExercise
  rw [if_neg active, if_pos testing]

theorem carryExerciseAbort_ends (active : s.xc.state ≠ .idle) (untested : s.xc.test = none) : carryExerciseAbort s =
    ({ s with xc := endExercise .aborted { s.xc with cursor := s.xc.plan.length } }, .ok, []) := by
  unfold carryExerciseAbort abortExercise
  rw [if_neg active, if_neg (by rw [untested]; nofun)]

theorem resettle_suspends {x : ExerciseBlock} (active : x.state ≠ .idle) (cause : (x.autoCause || x.manualCause) = true) :
    resettle x = { x with state := .suspended } := by
  unfold resettle exStateOf
  rw [if_neg active, if_pos cause]

theorem resettle_runs {x : ExerciseBlock} (active : x.state ≠ .idle) (noCause : (x.autoCause || x.manualCause) = false) :
    resettle x = { x with state := .running } := by
  unfold resettle exStateOf
  rw [if_neg active, if_neg (Bool.eq_false_iff.mp noCause)]

/-- The manual cause, or a resume while the automatic cause stands, leaves the exercise suspended. -/
theorem manualExercise_suspends {b : Bool} (active : s.xc.state ≠ .idle) (cause : (s.xc.autoCause || b) = true) :
    manualExercise b s = ({ s with xc := { s.xc with state := .suspended, manualCause := b } }, .ok, []) := by
  unfold manualExercise causesChanged
  rw [if_neg active, resettle_suspends (x := { s.xc with manualCause := b }) active cause]
  exact congrArg (fun u : State => (u, Result.ok, ([] : List Byte))) (if_neg fun resumed => by cases resumed.2)

/-- A suspended exercise whose last cause a resume clears. -/
def resumed (s : State) : State := { s with xc := { s.xc with state := .running, manualCause := false } }

/-- A resume that clears the last cause takes the next plan entry of an exercise that was suspended. -/
theorem carryExerciseResume_takes (suspended : s.xc.state = .suspended) (auto : s.xc.autoCause = false) :
    carryExerciseResume s = (takeNext (resumed s), .ok, []) := by
  have active : s.xc.state ≠ .idle := by rw [suspended]; nofun
  unfold carryExerciseResume manualExercise causesChanged
  rw [if_neg active, resettle_runs (x := { s.xc with manualCause := false }) active (by simp [auto])]
  exact congrArg (fun u : State => (u, Result.ok, ([] : List Byte))) (if_pos ⟨suspended, rfl⟩)

/-- A resume of an exercise that runs, or whose test is under way, takes no entry. -/
theorem carryExerciseResume_runs (active : s.xc.state ≠ .idle) (auto : s.xc.autoCause = false)
    (busy : s.xc.state = .running ∨ s.xc.test.isSome = true) : carryExerciseResume s =
      ({ s with xc := { s.xc with state := .running, manualCause := false } }, .ok, []) := by
  by_cases suspended : s.xc.state = .suspended
  · rw [carryExerciseResume_takes suspended auto]
    have testing := busy.resolve_left (by rw [suspended]; nofun)
    refine congrArg (fun u : State => (u, Result.ok, ([] : List Byte))) (takePlan_stands _ fun free => ?_)
    have none : s.xc.test = none := free.2.1
    rw [none] at testing
    cases testing
  · unfold carryExerciseResume manualExercise causesChanged
    rw [if_neg active, resettle_runs (x := { s.xc with manualCause := false }) active (by simp [auto])]
    exact congrArg (fun u : State => (u, Result.ok, ([] : List Byte))) (if_neg fun resumed => suspended resumed.1)

/-- An exercise resumed with its plan at the end is finished. -/
theorem takeNext_finishes (running : s.xc.state = .running ∧ s.xc.test = none ∧ s.xc.abortPending = false)
    (exhausted : s.xc.plan.length ≤ s.xc.cursor) : takeNext s = { s with xc := endExercise .finished s.xc } :=
  takePlan_finishes _ running exhausted

/-- A last entry that is skipped ends the exercise. -/
theorem takeNext_skipsLast {i : Nat} {c : ExCause}
    (running : s.xc.state = .running ∧ s.xc.test = none ∧ s.xc.abortPending = false)
    (entry : s.xc.plan[s.xc.cursor]? = some i) (last : s.xc.plan.length = s.xc.cursor + 1) (judged : judgePlan s i = .skip c) :
    takeNext s = { skipBranch i c s with xc := endExercise .finished (skipBranch i c s).xc } := by
  unfold takeNext
  rw [takePlan_skips _ running entry judged, last]
  exact takePlan_finishes _ running last.le

end Causes

/-- Settles O42. -/
theorem exerciseIsSuspendedResumedAndAborted : Obligations.ExerciseIsSuspendedResumedAndAborted := by
  unfold Obligations.ExerciseIsSuspendedResumedAndAborted
  intro hdr s taken rest
  have restOf := exerciseMoved_rest rest
  refine ⟨fun idle => ⟨?_, ?_, ?_⟩, fun active => ⟨?_, fun auto => ?_, fun auto busy => ?_,
    fun auto suspended untested unaborted exhausted => ?_, fun auto suspended untested unaborted n b r entry named found => ?_,
    fun testing => ?_, fun untested => ?_⟩⟩
  · exact completes_of_refusal rfl taken .wrongState [] (manualExercise_idle true idle) nofun
  · exact completes_of_refusal_at_rest rfl taken rest .wrongState [] (manualExercise_idle false idle) nofun
  · exact completes_of_refusal rfl taken .wrongState [] (carryExerciseAbort_idle idle) nofun
  · exact completes_of_carry rfl taken (manualExercise_suspends (s := presenceRestart s) (b := true) active (Bool.or_true _)) rfl
      (.inl (by decide)) rfl
  · exact completes_of_carry_at_rest rfl taken
      (manualExercise_suspends (s := presenceRestart s) (b := false) active (by rw [Bool.or_false]; exact auto)) rfl (restOf _)
      (.inl (by decide)) rfl
  · exact completes_of_carry_at_rest rfl taken (carryExerciseResume_runs (s := presenceRestart s) active auto busy) rfl
      (restOf _) (.inl (by decide)) rfl
  · have carried := carryExerciseResume_takes (s := presenceRestart s) suspended auto
    rw [takeNext_finishes (s := resumed (presenceRestart s)) ⟨rfl, untested, unaborted⟩ exhausted] at carried
    have ended : endExercise .finished { s.xc with state := .running, manualCause := false } =
        { s.xc with state := .idle, manualCause := false, endKind := .finished } := by
      simp only [endExercise, auto, unaborted]
    refine completes_of_carry_at_rest (r := .ok) (detail := []) rfl taken ?_ rfl (restOf _) (.inl (by decide)) rfl
    rw [← ended]
    exact carried
  · have carried := carryExerciseResume_takes (s := presenceRestart s) suspended auto
    have judged := judgePlan_eq (s := presenceRestart s) named found
    rw [show skipCause (presenceRestart s) b r = skipCause s b r from rfl] at judged
    split
    next cause skipped =>
      intro last
      rw [skipped] at judged
      rw [takeNext_skipsLast (s := resumed (presenceRestart s)) (i := n) (c := cause) ⟨rfl, untested, unaborted⟩ entry last judged] at carried
      have ended : endExercise .finished
          (skipBranch n cause (resumed (presenceRestart s))).xc =
          { s.xc with
            state := .idle, manualCause := false, cursor := s.xc.cursor + 1, endKind := .finished
            results := s.xc.results ++ [⟨n, .skipped, some cause, none, none, s.rt.number⟩] } := by
        simp only [endExercise, skipBranch, addResult, resumed, presenceRestart, auto, unaborted]
      refine completes_of_carry_at_rest (r := .ok) (detail := []) rfl taken ?_ rfl (restOf _) (.inl (by decide)) rfl
      rw [← ended]
      exact carried
    next unskipped =>
      intro unowned
      rw [unskipped] at judged
      dsimp only at judged
      rw [if_neg (not_not_intro unowned)] at judged
      rw [takeNext, takePlan_starts (s := resumed (presenceRestart s)) _ ⟨rfl, untested, unaborted⟩ entry judged] at carried
      obtain ⟨t, ran, replied, same, moved⟩ := replied_of_carry (c := .exerciseResume hdr) (code := codeExerciseResume) rfl taken
        carried rfl (.inl (by decide)) rfl
      exact ⟨t, ran, replied, same, startTest_valve found (target_of_unskipped unskipped) moved⟩
  · exact completes_of_carry rfl taken (carryExerciseAbort_waits (s := presenceRestart s) active testing) rfl (.inl (by decide)) rfl
  · exact completes_of_carry rfl taken (carryExerciseAbort_ends (s := presenceRestart s) active untested) rfl (.inl (by decide)) rfl

end Sys2Proof.Machine
end

section
/-! The end of a transaction and of a round (R2, R4, R5, R7, R168). -/

namespace Sys2Proof.Machine

open Sys2Proof

/-! ### What a boundary leaves of an engine -/

/-- An engine without what a boundary of its leg may move. -/
def steady (e : LegEngine) : LegEngine :=
  { e with txn := none, cursor := 0, nextAddress := 0, alertFlag := false, sweepAgain := false, sweepCount := 0, sweep := none,
           alertsIgnored := false, stuck := false }

section Steady

variable {l m : Leg} {s t : State}

/-- An engine's change that `steady` does not see. -/
theorem steady_setLeg {f : LegEngine → LegEngine} (h : ∀ e, steady (f e) = steady e) (l m : Leg) (s : State) :
    steady (legAt (setLeg l f s) m) = steady (legAt s m) := by
  by_cases same : m = l
  · subst same
    rw [legAt_setLeg, h]
  · rw [legAt_setLeg_ne _ _ same]

theorem steady_startTxn (p : Purpose) (k : NodeKey) (f : Frame) (l m : Leg) (s : State) :
    steady (legAt (startTxn l p k f s) m) = steady (legAt s m) := steady_setLeg (by intro; rfl) ..

theorem placeDue_legs (d : DueReply) (s : State) : (placeDue d s).le = s.le := by rw [placeDue_frame]

theorem boundaryDiscovery_steady (l m : Leg) (s : State) : steady (legAt (boundaryDiscovery l s) m) = steady (legAt s m) := by
  simp only [boundaryDiscovery]
  split
  · exact .trans (steady_setLeg (by intro; rfl) ..) (steady_startTxn ..)
  · rfl

theorem boundaryPoll_steady (l m : Leg) (s : State) : steady (legAt (boundaryPoll l s) m) = steady (legAt s m) := by
  simp only [boundaryPoll]
  split
  · exact .trans (steady_setLeg (by intro; rfl) ..) (steady_startTxn ..)
  · exact boundaryDiscovery_steady ..

theorem boundaryRelay_steady (l m : Leg) (s : State) : steady (legAt (boundaryRelay l s) m) = steady (legAt s m) := by
  unfold boundaryRelay
  split
  · split
    · split
      · rw [boundaryPoll_steady]
        unfold legAt
        rw [placeDue_legs]
      · exact steady_startTxn ..
    · exact boundaryPoll_steady ..
  · exact boundaryPoll_steady ..

theorem boundarySweep_steady (l m : Leg) (s : State) : steady (legAt (boundarySweep l s) m) = steady (legAt s m) := by
  have begun : steady (legAt (sweepBegun l s) m) = steady (legAt s m) := by
    simp only [sweepBegun]
    split
    · exact steady_setLeg (f := beginSweep s.ts.active l) (fun _ => rfl) l m s
    · rfl
  simp only [boundarySweep]
  split
  next t polled =>
    refine Eq.trans ?_ begun
    unfold sweepPoll at polled
    split at polled
    · split at polled
      · cases polled
        exact .trans (steady_setLeg (by intro; rfl) ..) (steady_startTxn ..)
      · cases polled
    · cases polled
  · exact (boundaryRelay_steady ..).trans begun

theorem boundary_steady (l m : Leg) (s : State) : steady (legAt (boundary l s) m) = steady (legAt s m) := by
  unfold boundary
  split
  · unfold boundaryQueue
    split
    · exact steady_startTxn ..
    · exact boundarySweep_steady ..
  · rfl

theorem boundaries_steady (m : Leg) (s : State) : steady (legAt (boundaries s) m) = steady (legAt s m) :=
  List.foldlRecOn (motive := fun t : State => steady (legAt t m) = steady (legAt s m)) allLegs _ rfl
    fun t ht l _ => (boundary_steady l m t).trans ht

/-- A leg that may not start a request is not moved by the boundaries. -/
theorem boundaries_of_busy (h : legReady (legAt s m) = false) : legAt (boundaries s) m = legAt s m :=
  List.foldlRecOn (motive := fun t : State => legAt t m = legAt s m) allLegs _ rfl fun t ht l _ => by
    by_cases same : m = l
    · subst same
      unfold boundary
      rw [if_neg (by rw [ht, h]; nofun), ht]
    · rw [(boundary_step l t).others m same, ht]

theorem settle_legs (s : State) (m : Leg) : legAt (settle s) m = legAt s m := by
  have same := congrArg (fun u : State => quadGet u.le.legs m) (quiet_settle s)
  exact same

theorem settleAll_steady (m : Leg) (s : State) : steady (legAt (settleAll s) m) = steady (legAt s m) := by
  unfold settleAll
  rw [settle_legs, boundaries_steady]

theorem settleAll_of_busy (h : legReady (legAt s m) = false) : legAt (settleAll s) m = legAt s m := by
  unfold settleAll
  rw [settle_legs, boundaries_of_busy h]

theorem settleAll_ts (s : State) : (settleAll s).ts = s.ts := by
  unfold settleAll
  rw [settle_ts, boundaries_ts]

theorem settle_clock (s : State) : (settle s).clock = s.clock := by
  have same := congrArg State.clock (quiet_settle s)
  exact same

theorem settleAll_clock (s : State) : (settleAll s).clock = s.clock := by
  unfold settleAll
  rw [settle_clock, boundaries_frame]

/-- The end of a step moves nothing of the Round Timer but ROUND_OVERRUN's pending flag. -/
theorem settle_rt (s : State) : (settle s).rt = { s.rt with overrun := (settle s).rt.overrun } ∧
    (settle s).rt.overrun.active = s.rt.overrun.active ∧ (settle s).rt.overrun.detail = s.rt.overrun.detail := by
  have same := congrArg State.rt (quiet_settle s)
  refine ⟨?_, congrArg (·.overrun.active) same, congrArg (·.overrun.detail) same⟩
  calc (settle s).rt = { (quiet (settle s)).rt with overrun := (settle s).rt.overrun } := rfl
    _ = _ := by rw [same]; rfl

theorem settleAll_rt (s : State) : (settleAll s).rt = { s.rt with overrun := (settleAll s).rt.overrun } ∧
    (settleAll s).rt.overrun.active = s.rt.overrun.active ∧ (settleAll s).rt.overrun.detail = s.rt.overrun.detail := by
  have same := settle_rt (boundaries s)
  rw [boundaries_rt] at same
  exact same

end Steady

/-! ### The rows that end a transaction (R7 to R9) -/

/-- The leg's transaction has ended: its line stands as given. -/
def lineFreed (l : Leg) (held disregard : Bool) (s : State) : State :=
  setLeg l (fun e => { e with txn := none, alertHeld := held, disregard := disregard }) s

/-- What the end of a transaction brings, once its line is free (R9, R5, R15). -/
def concludeTxn (l : Leg) (t : Txn) (reply : Option (Frame × List Byte)) (s : State) : State :=
  match t.purpose with
  | .poll => if allFinished (setLeg l finishPoll (deliver t reply s)) then closeRound (setLeg l finishPoll (deliver t reply s))
    else setLeg l finishPoll (deliver t reply s)
  | .sweep => setLeg l finishSweep (deliver t reply s)
  | _ => deliver t reply s

section Endings

variable {l : Leg} {s : State} {x : Txn} {opened limit : Nat}

theorem setLeg_setLeg (l : Leg) (f g : LegEngine → LegEngine) (s : State) :
    setLeg l f (setLeg l g s) = setLeg l (fun e => f (g e)) s := by
  unfold setLeg quadMap
  dsimp only
  rw [quadGet_quadSet]
  fin_cases l <;> rfl

theorem setLeg_congr {f g : LegEngine → LegEngine} (h : f (legAt s l) = g (legAt s l)) : setLeg l f s = setLeg l g s := by
  unfold setLeg quadMap
  unfold legAt at h
  rw [h]

theorem endTxn_eq (l : Leg) (t : Txn) (reply : Option (Frame × List Byte)) (s : State) :
    endTxn l t reply s = concludeTxn l t reply (setLeg l (fun e => { e with txn := none }) s) := rfl

theorem windowTxn_of_window (found : (legAt s l).txn = some x) (phase : x.phase = .window opened limit) : windowTxn s l = some x := by
  unfold windowTxn
  rw [found]
  exact Option.filter_some_pos (by unfold windowEnd; rw [phase]; rfl)

theorem replyEnd_ends (found : (legAt s l).txn = some x) (phase : x.phase = .window opened limit)
    (attended : (legAt s l).disregard = false) (bytes : List Byte) :
    exec (.legReplyEnd l bytes) s = .next (settleAll (concludeTxn l x (validReply x bytes) (lineFreed l false false s))) := by
  change Host.Outcome.next (settleAll (replyEnd l bytes s)) = _
  unfold replyEnd
  rw [windowTxn_of_window found phase]
  dsimp only
  rw [endTxn_eq, setLeg_setLeg, lineFreed]
  congr 3
  exact setLeg_congr (by dsimp only; rw [attended])

theorem lineIdle_ends (found : (legAt s l).txn = some x) (phase : x.phase = .window opened limit)
    (attended : (legAt s l).disregard = false) {after : LineEnd} (ends : after ≠ .strayBytes) :
    exec (.legLineIdle l after) s = .next (settleAll (concludeTxn l x none (lineFreed l false false s))) := by
  have ended : lineIdle l after s = endTxn l x none (setLeg l (fun e => { e with alertHeld := false }) s) := by
    unfold lineIdle
    rw [if_neg (by rw [attended]; nofun), windowTxn_of_window found phase]
    cases after with
    | strayBytes => exact absurd rfl ends
    | _ => rfl
  change Host.Outcome.next (settleAll (lineIdle l after s)) = _
  rw [ended, endTxn_eq, setLeg_setLeg, lineFreed]
  congr 3
  exact setLeg_congr (by dsimp only; rw [attended])

theorem windowExpiry_ends (found : (legAt s l).txn = some x) (phase : x.phase = .window opened limit)
    (attended : (legAt s l).disregard = false) (stray : Bool) :
    exec (.responseWindowExpiry l stray) s = .next (settleAll (concludeTxn l x none
      (lineFreed l (legAt s l).alertHeld (stray && !(legAt s l).alertHeld) (reachTime (opened + limit) s)))) := by
  have reached : legAt (reachTime (opened + limit) s) l = legAt s l := rfl
  change Host.Outcome.next (settleAll (windowExpiry l stray s)) = _
  unfold windowExpiry
  rw [found]
  have due : windowEnd x = some (opened + limit) := by unfold windowEnd; rw [phase]
  simp only [due]
  rw [endTxn_eq, lineFreed]
  congr 3
  cases stray with
  | false =>
    rw [if_neg Bool.false_ne_true]
    exact setLeg_congr (by rw [reached, Bool.false_and, ← attended])
  | true =>
    rw [if_pos rfl, setLeg_setLeg]
    exact setLeg_congr (by dsimp only [strayBytes]; rw [reached, attended]; rfl)

end Endings

/-! ### A round start (R2, R5, R168) -/

/-- The clock, the unit's position and the pins as they stood. -/
structure SameMoment (s t : State) : Prop where
  clock : t.clock = s.clock
  position : t.ti.position = s.ti.position

section Moments

variable {s t u : State}

theorem SameMoment.refl : SameMoment s s := ⟨rfl, rfl⟩

theorem SameMoment.trans (h : SameMoment s t) (h' : SameMoment t u) : SameMoment s u :=
  ⟨h'.clock.trans h.clock, h'.position.trans h.position⟩

theorem SameMoment.after (h' : SameMoment t u) (h : SameMoment s t) : SameMoment s u := h.trans h'

theorem Work.sameMoment (h : Work s t) : SameMoment s t := ⟨by rw [h.frame], by rw [h.frame]⟩

theorem Engine.sameMoment {c : Bool} (h : Engine c s t) : SameMoment s t := h.work.sameMoment

theorem LegStep.sameMoment {l : Leg} (h : LegStep l s t) : SameMoment s t := ⟨by rw [h.frame], by rw [h.frame]⟩

theorem roundJudged_sameMoment (s : State) : SameMoment s (roundJudged s) :=
  SameMoment.after (t := dripRoundStart _ _) ⟨rfl, rfl⟩ (.after (dripRoundStart_work ..).sameMoment
    (.after (flowRoundStart_work ..).sameMoment ⟨rfl, rfl⟩))

theorem judgeAbsence_sameMoment (s : State) : SameMoment s (judgeAbsence s) := by
  simp only [judgeAbsence]
  split
  · split
    · exact ⟨rfl, rfl⟩
    · exact .after (policyAgain_engine (c := false) _).sameMoment ⟨rfl, rfl⟩
  · split <;> exact ⟨rfl, rfl⟩

theorem floodAtSwitch_sameMoment (old : List (NodeKey × NodeRun)) (s : State) : SameMoment s (floodAtSwitch old s) := by
  unfold floodAtSwitch
  split
  · exact (floodMarksChanged_work ..).sameMoment
  · exact ⟨rfl, rfl⟩

theorem installBank_sameMoment (s : State) : SameMoment s (installBank s) := by
  have flooded : SameMoment s (floodAtSwitch s.nd.nodes (adjustIncidents (carryOver s))) :=
    .after (floodAtSwitch_sameMoment ..)
      (.after (t := carryOver s) (adjustIncidents_engine (c := false) _).sameMoment ⟨rfl, rfl⟩)
  unfold installBank
  exact .after (judgeAbsence_sameMoment _) (iteInduction (motive := SameMoment s)
    (fun _ => .after (policyAgain_engine (c := false) _).sameMoment flooded) fun _ => flooded)

theorem switchIfPending_sameMoment (s : State) : SameMoment s (switchIfPending s) := by
  unfold switchIfPending
  split
  · unfold switchBank
    split
    · exact ⟨(installBank_sameMoment s).clock, (installBank_sameMoment s).position⟩
    · exact ⟨rfl, rfl⟩
  · exact .refl

end Moments

section RoundStart

variable {s : State} {l : Leg}

/-- The round that starts once the ended one is judged and a pending commit has been decided. -/
def roundPrepared (s : State) : State := buildPollLists (takePeriod s)

/-- The Round Timer, the legs and the tables of a round that has been prepared, whether its poll lists are empty or not. -/
structure Prepared (s t : State) : Prop where
  moment : SameMoment s t
  tables : t.ts = s.ts
  legs : t.le = (roundPrepared s).le
  timer : t.rt = { s.rt with period := some (settings s).period, late := t.rt.late, overrun := t.rt.overrun }

theorem roundPrepared_prepared (s : State) : Prepared s (roundPrepared s) := ⟨⟨rfl, rfl⟩, rfl, rfl, rfl⟩

theorem Prepared.closeIfDone {t : State} (h : Prepared s t) : Prepared s (closeIfDone t) := by
  unfold Machine.closeIfDone
  split
  · refine ⟨h.moment.trans ⟨rfl, rfl⟩, h.tables, h.legs, ?_⟩
    unfold closeOnTime
    dsimp only
    rw [h.timer]
  · exact h

theorem Prepared.summaryStart {t : State} (h : Prepared s t) : Prepared s (summaryStart t) := by
  unfold Machine.summaryStart
  split
  · exact ⟨h.moment.trans ⟨rfl, rfl⟩, h.tables, h.legs, h.timer⟩
  · exact h

theorem mapLegs_get (f : Leg → LegEngine → LegEngine) (q : Quad LegEngine) (l : Leg) :
    quadGet (mapLegs f q) l = f l (quadGet q l) := by
  fin_cases l <;> rfl

theorem legAt_roundPrepared (s : State) (l : Leg) : legAt (roundPrepared s) l = buildPollList s.ts.active l (legAt s l) :=
  mapLegs_get ..

theorem Prepared.pollList {t : State} (h : Prepared s t) (l : Leg) :
    (legAt t l).pollList = (legNodes t.ts.active l).map (·.1) := by
  have built := congrArg LegEngine.pollList (legAt_roundPrepared s l)
  unfold legAt at built ⊢
  rw [h.legs, built, h.tables]
  rfl

theorem startRound_prepared (s : State) : Prepared (switchIfPending (roundJudged s)) (startRound s) :=
  (roundPrepared_prepared _).summaryStart.closeIfDone

/-- What a round start leaves: the number, the moment, the ended round, the period and the poll lists. -/
structure RoundBegun (s t : State) : Prop where
  moment : SameMoment s t
  running : t.rt.running = s.rt.running
  number : t.rt.number = s.rt.number + 1
  start : t.rt.start = some t.clock
  ended : t.rt.ended = some ⟨s.rt.number, t.clock - s.rt.start.getD 0⟩
  tickPassed : t.rt.tickPassed = false
  period : t.rt.period = some (settings t).period
  pollLists : ∀ l, (legAt t l).pollList = (legNodes t.ts.active l).map (·.1)

theorem startRound_begun (s : State) : RoundBegun s (startRound s) := by
  have prepared := startRound_prepared s
  have timer : (switchIfPending (roundJudged s)).rt = (advanceRound s).rt :=
    (switchIfPending_active _).1.trans (roundJudged_sameRound s).timer
  have moment : SameMoment s (startRound s) :=
    .after prepared.moment (.after (switchIfPending_sameMoment _) (roundJudged_sameMoment s))
  have round := prepared.timer
  rw [timer] at round
  refine ⟨moment, ?_, ?_, ?_, ?_, ?_, ?_, prepared.pollList⟩
  · rw [round]; rfl
  · rw [round]; rfl
  · rw [round, moment.clock]; rfl
  · rw [round, moment.clock]; rfl
  · rw [round]; rfl
  · rw [round]
    unfold settings
    rw [prepared.tables]

/-- The end of a step leaves a round as it has begun. -/
theorem RoundBegun.settleAll {t : State} (h : RoundBegun s t) : RoundBegun s (settleAll t) := by
  obtain ⟨timer, -, -⟩ := settleAll_rt t
  have clock := settleAll_clock t
  refine ⟨⟨clock.trans h.moment.clock, (settleAll_position t).trans h.moment.position⟩, ?_, ?_, ?_, ?_, ?_, ?_, fun l => ?_⟩
  · rw [timer]; exact h.running
  · rw [timer]; exact h.number
  · rw [timer, clock]; exact h.start
  · rw [timer, clock]; exact h.ended
  · rw [timer]; exact h.tickPassed
  · rw [timer, settings, settleAll_ts]; exact h.period
  · rw [settleAll_ts]
    exact (congrArg LegEngine.pollList (settleAll_steady l t)).trans (h.pollLists l)

end RoundStart

/-! ### PERIOD TICK and the end of the last poll (R4) -/

section Lateness

variable {s u : State} {l : Leg} {x : Txn}

theorem allFinished_iff : allFinished s = true ↔ ∀ l, (legAt s l).finished = true := by
  refine List.all_eq_true.trans ⟨fun h l => h l (by fin_cases l <;> decide), fun h l _ => h l⟩

/-- The outcome of a poll or of a sweep poll is work of the blocks. -/
theorem deliver_poll (h : x.purpose = .poll ∨ x.purpose = .sweep) (reply : Option (Frame × List Byte)) (s : State) :
    Work s (deliver x reply s) := by
  unfold deliver
  rcases h with h | h <;> rw [h] <;> dsimp only <;> split
  · exact takeSample_work ..
  · exact nodeOutcome_work ..
  · exact takeSample_work ..
  · exact nodeOutcome_work ..

theorem Work.legs (h : Work s u) (l : Leg) : legAt u l = legAt s l := by
  unfold legAt
  rw [h.frame]

/-- A row that ends the transaction `x` of leg `l`, the clock and the line as the row has left them. -/
def EndsTxn (i : Instr) (s : State) (l : Leg) (x : Txn) (reply : Option (Frame × List Byte)) (held disregard : Bool) (u : State) :
    Prop :=
  SameRound s u ∧ (∀ m, legAt u m = legAt s m) ∧
    exec i s = .next (settleAll (concludeTxn l x reply (lineFreed l held disregard u)))

theorem endsTxn_of_row {opened limit : Nat} {bytes : List Byte} {stray : Bool} (found : (legAt s l).txn = some x)
    (phase : x.phase = .window opened limit) (attended : (legAt s l).disregard = false) :
    ∀ i ∈ [Instr.legReplyEnd l bytes, .responseWindowExpiry l stray, .legLineIdle l .brokenReply, .legLineIdle l .overlongReply],
      ∃ reply held disregard u, EndsTxn i s l x reply held disregard u := by
  simp only [List.forall_mem_cons, List.not_mem_nil, false_implies, implies_true, and_true]
  exact ⟨⟨_, _, _, s, .refl, fun _ => rfl, replyEnd_ends found phase attended bytes⟩,
    ⟨_, _, _, reachTime (opened + limit) s, ⟨rfl, rfl⟩, fun _ => rfl, windowExpiry_ends found phase attended stray⟩,
    ⟨_, _, _, s, .refl, fun _ => rfl, lineIdle_ends found phase attended nofun⟩,
    ⟨_, _, _, s, .refl, fun _ => rfl, lineIdle_ends found phase attended nofun⟩⟩

/-- The end of the last poll of the last leg closes the round. -/
theorem concludeTxn_closes (purpose : x.purpose = .poll) (last : (legAt s l).pollList.length ≤ (legAt s l).cursor)
    (others : ∀ k ≠ l, (legAt s k).finished = true) (reply : Option (Frame × List Byte)) (held disregard : Bool) :
    ∃ v, concludeTxn l x reply (lineFreed l held disregard s) = closeRound v ∧ SameRound s v ∧ (legAt v l).finished = true := by
  have work := deliver_poll (.inl purpose) reply (lineFreed l held disregard s)
  obtain ⟨w, isW⟩ : ∃ w, w = deliver x reply (lineFreed l held disregard s) := ⟨_, rfl⟩
  rw [← isW] at work
  have own : (legAt (setLeg l finishPoll w) l).finished = true := by
    rw [legAt_setLeg, work.legs, lineFreed, legAt_setLeg]
    exact decide_eq_true last
  have all : allFinished (setLeg l finishPoll w) = true := allFinished_iff.mpr fun k => by
    by_cases same : k = l
    · rw [same]; exact own
    · rw [legAt_setLeg_ne _ _ same, work.legs, lineFreed, legAt_setLeg_ne _ _ same]
      exact others k same
  refine ⟨setLeg l finishPoll w, ?_, ((setLeg_sameRound ..).trans work.sameRound).trans (setLeg_sameRound ..), own⟩
  unfold concludeTxn
  rw [purpose, ← isW]
  exact if_pos all

theorem closeOnTime_rt (s : State) : (closeOnTime s).rt = { s.rt with late := 0, overrun := (closeOnTime s).rt.overrun } ∧
    (closeOnTime s).rt.overrun.active = false ∧ (closeOnTime s).rt.overrun.detail = s.rt.overrun.detail := by
  unfold closeOnTime
  dsimp only
  split
  · exact ⟨rfl, rfl, rfl⟩
  next inactive => exact ⟨rfl, Bool.not_eq_true _ ▸ inactive, rfl⟩

theorem closeRound_onTime (running : s.rt.running = true) (onTime : s.rt.tickPassed = false) : closeRound s = closeOnTime s := by
  unfold closeRound
  rw [if_pos running, if_neg (by rw [onTime]; nofun)]

theorem closeRound_late (running : s.rt.running = true) (late : s.rt.tickPassed = true) : closeRound s = startRound s := by
  unfold closeRound
  rw [if_pos running, if_pos late]

/-- The tick of a round that has closed moves nothing but the time; that of an open one makes it late. -/
theorem periodTick_eq (running : s.rt.running = true) (onTime : s.rt.tickPassed = false) : periodTick s =
    if allFinished s then reachTime (tickTime s) s else lateTick (reachTime (tickTime s) s) := by
  unfold periodTick
  exact if_pos ⟨running, by rw [onTime]; nofun⟩

/-- ROUND_OVERRUN becomes active at the limit in force. -/
theorem lateTick_overrun (s : State) : (lateTick s).rt.overrun.active =
    (s.rt.overrun.active || decide ((settings s).overrunRounds ≤ min 15 (s.rt.late + 1))) := by
  unfold lateTick heldAt
  dsimp only
  split
  next raised => rw [decide_eq_true raised.1, Bool.or_true]; rfl
  next kept =>
    by_cases active : s.rt.overrun.active = true
    · rw [active]; rfl
    · rw [decide_eq_false fun reached => kept ⟨reached, active⟩, Bool.or_false]

/-- The end of a step after a change of the Round Timer. -/
theorem quiet_settle_rt (x : RoundTimer) (s : State) : quiet (settle { s with rt := x }) =
    quiet { s with rt := { x with overrun := (settle { s with rt := x }).rt.overrun } } := by
  have timer := congrArg (fun u : State => u.rt) (quiet_settle { s with rt := x })
  calc quiet (settle { s with rt := x }) = quiet { s with rt := x } := quiet_settle _
    _ = { quiet s with rt := (quiet (settle { s with rt := x })).rt } := by rw [timer]; rfl
    _ = _ := by
      rw [show quiet { s with rt := { x with overrun := (settle { s with rt := x }).rt.overrun } } =
        { quiet s with rt := { x with overrun := unpend (settle { s with rt := x }).rt.overrun } } from rfl]
      have own := (settle_rt { s with rt := x }).1
      exact congrArg (fun y : RoundTimer => { quiet s with rt := { y with overrun := unpend y.overrun } }) own

end Lateness

/-- Settles O44. -/
theorem periodTickJudgesLateness : Obligations.PeriodTickJudgesLateness := by
  unfold Obligations.PeriodTickJudgesLateness
  refine ⟨fun s l x bytes stray running found purpose opened last others attended i row => ?_, fun s running onTime => ⟨fun all => ?_, ?_⟩⟩
  · obtain ⟨start, limit, phase⟩ : ∃ start limit, x.phase = .window start limit := by
      cases h : x.phase with
      | sending => exact absurd h opened
      | window start limit => exact ⟨start, limit, rfl⟩
    obtain ⟨reply, held, disregard, u, same, legs, ran⟩ := endsTxn_of_row found phase attended i row
    obtain ⟨v, closed, kept, finished⟩ := concludeTxn_closes (s := u) (l := l) purpose (by rw [legs]; exact last)
      (fun k hk => by rw [legs]; exact others k hk) reply held disregard
    have timer : v.rt = s.rt := (same.trans kept).timer
    rw [closed] at ran
    refine ⟨_, ran, fun onTime => ?_, fun late => ?_⟩
    · rw [closeRound_onTime (by rw [timer]; exact running) (by rw [timer]; exact onTime)]
      obtain ⟨rt, active, detail⟩ := settleAll_rt (closeOnTime v)
      obtain ⟨rt', active', detail'⟩ := closeOnTime_rt v
      refine ⟨?_, active.trans active', detail.trans (detail'.trans (by rw [timer])), ?_⟩
      · rw [rt, rt', timer]
      · exact (congrArg LegEngine.finished (settleAll_steady l (closeOnTime v))).trans finished
    · rw [closeRound_late (by rw [timer]; exact running) (by rw [timer]; exact late)]
      have begun := (startRound_begun v).settleAll
      exact ⟨begun.running.trans (by rw [timer]; exact running), by rw [begun.number, timer], begun.start,
        by rw [begun.ended, timer], begun.tickPassed, begun.period, begun.pollLists⟩
  · refine ⟨_, rfl, ?_⟩
    rw [periodTick_eq running onTime, if_pos (allFinished_iff.mpr all)]
    exact quiet_settle _
  · rintro ⟨l, open_⟩
    have unfinished : ¬ allFinished s = true := fun all => by
      have finished := allFinished_iff.mp all l
      rw [open_] at finished
      cases finished
    have ticked := periodTick_eq running onTime
    rw [if_neg unfinished] at ticked
    refine ⟨_, rfl, ?_, ?_⟩
    · rw [ticked]
      exact quiet_settle_rt _ (reachTime (tickTime s) s)
    · rw [ticked]
      exact (settle_rt _).2.1.trans (lateTick_overrun _)

/-! ### ROUND START (R2, R168) -/

section Switch

variable {s : State}

theorem switchBank_refused {r : Result} {d : List Byte} (h : commitRefusal s = some (r, d)) :
    switchBank s = { s with ts := { s.ts with commitPending := false, outcome := refusedOutcome r d } } := by
  unfold switchBank
  rw [h]

theorem switchBank_switched (h : commitRefusal s = none) :
    (switchBank s).ts = { s.ts with
      active := s.ts.staging, activeFlag := true, commitPending := false, outcome := .switched s.rt.number } := by
  have same := installBank_sameRound s
  unfold switchBank
  rw [h]
  change { (installBank s).ts with outcome := CommitOutcome.switched (installBank s).rt.number } = _
  rw [same.tables, same.timer]
  rfl

/-- A pending commit at a switch: judged again, and switched or refused with its detail. -/
theorem switchBank_judged (s : State) : (switchBank s).ts.commitPending = false ∧ (switchBank s).ts.staging = s.ts.staging ∧
    (switchBank s).ts.guard = s.ts.guard ∧
    match firstOffence s.ti.position s.ts.staging with
    | some o => (switchBank s).ts.active = s.ts.active ∧
        (switchBank s).ts.outcome = .refusedAtSwitch .invalid (tableCode o.table) (byte o.index) (byte o.reason)
    | none =>
      match overBudget s.ts.staging with
      | some l => (switchBank s).ts.active = s.ts.active ∧ (switchBank s).ts.outcome = .refusedAtSwitch .roundBudget 0 0 (byte l.val)
      | none =>
        ((switchBank s).ts.active = s.ts.active ∧ ∃ i, (switchBank s).ts.outcome = .refusedAtSwitch .inUse 0 0 (byte i)) ∨
          ((switchBank s).ts.active = s.ts.staging ∧ (switchBank s).ts.activeFlag = true ∧
            (switchBank s).ts.outcome = .switched s.rt.number) := by
  have refusal := commitRefusal_cases s
  revert refusal
  cases firstOffence s.ti.position s.ts.staging with
  | some o =>
    intro refused
    rw [switchBank_refused refused]
    exact ⟨rfl, rfl, rfl, rfl, rfl⟩
  | none =>
    cases overBudget s.ts.staging with
    | some l =>
      intro refused
      rw [switchBank_refused refused]
      exact ⟨rfl, rfl, rfl, rfl, rfl⟩
    | none =>
      cases inUseOffence s with
      | some i =>
        intro refused
        rw [switchBank_refused refused]
        exact ⟨rfl, rfl, rfl, .inl ⟨rfl, i, rfl⟩⟩
      | none =>
        intro accepted
        rw [switchBank_switched accepted]
        exact ⟨rfl, rfl, rfl, .inr ⟨rfl, rfl, rfl⟩⟩

end Switch

/-- Settles O45. -/
theorem roundStartAdvancesTheRound : Obligations.RoundStartAdvancesTheRound := by
  unfold Obligations.RoundStartAdvancesTheRound
  intro s start period running closed began lasts
  have started : nextRound s = startRound (reachTime (start + period) s) := by
    unfold nextRound tickTime
    rw [if_pos ⟨running, allFinished_iff.mpr closed⟩, began, lasts]
    rfl
  obtain ⟨u, isU⟩ : ∃ u, u = reachTime (start + period) s := ⟨_, rfl⟩
  have clock : u.clock = max s.clock (start + period) := by
    rw [isU]
    change s.clock + (start + period - s.clock) = _
    omega
  have timer : u.rt = s.rt := by rw [isU]; rfl
  have tables : u.ts = s.ts := by rw [isU]; rfl
  have position : u.ti.position = s.ti.position := by rw [isU]; rfl
  have begun := (startRound_begun u).settleAll
  have judged := roundJudged_sameRound u
  have ts : (settleAll (startRound u)).ts = (switchIfPending (roundJudged u)).ts := by
    rw [settleAll_ts, startRound_ts]
  refine ⟨settleAll (startRound u), by rw [isU, ← started]; rfl, begun.moment.clock.trans clock,
    begun.running.trans (by rw [timer]; exact running), by rw [begun.number, timer], begun.start,
    by rw [begun.ended, timer, began]; rfl, begun.tickPassed, begun.period, begun.pollLists,
    begun.moment.position.trans position, fun none => ?_, fun pending => ?_⟩
  · rw [ts, switchIfPending, if_neg (by rw [judged.tables]; change ¬ u.ts.commitPending = true; rw [tables, none]; nofun), judged.tables]
    exact tables
  · have switched := switchBank_judged (roundJudged u)
    rw [ts, switchIfPending, if_pos (by rw [judged.tables]; change u.ts.commitPending = true; rw [tables]; exact pending)]
    rw [(roundJudged_sameMoment u).position, judged.tables, judged.timer] at switched
    rw [show (advanceRound u).ts = s.ts from tables, position, show (advanceRound u).rt.number = u.rt.number + 1 from rfl, timer] at switched
    exact switched

end Sys2Proof.Machine
end

section
/-! A poll that is not answered (R7 to R11). -/

namespace Sys2Proof.Machine

open Sys2Proof

/-! ### The end of a step, its blocks one by one -/

section Blocks

variable {s t u : State} {l : Leg}

/-- What a step leaves alone, when its work moved the blocks named and nothing else. -/
theorem quiet_of_work (same : quiet t = quiet { u with le := t.le, vs := t.vs })
    (frame : u = { s with le := u.le, nd := u.nd, de := u.de, ie := u.ie, vs := u.vs, xc := u.xc, free := u.free }) :
    quiet t = quiet { s with le := t.le, nd := t.nd, de := t.de, ie := t.ie, vs := t.vs, xc := t.xc } := by
  rw [show quiet { s with le := t.le, nd := t.nd, de := t.de, ie := t.ie, vs := t.vs, xc := t.xc } =
    { quiet s with
      le := (quiet t).le, nd := (quiet t).nd, de := (quiet t).de, ie := (quiet t).ie, vs := (quiet t).vs
      xc := (quiet t).xc } from rfl, same, frame]
  rfl

theorem settleAll_node (k : NodeKey) (s : State) :
    (assocGet k (settleAll s).nd.nodes).map quietNode = (assocGet k s.nd.nodes).map quietNode := by
  have same := congrArg (fun u : State => assocGet k u.nd.nodes) (quiet_settleAll s)
  change assocGet k (assocAll quietNode _) = assocGet k (assocAll quietNode _) at same
  rw [assocGet_assocAll, assocGet_assocAll] at same
  exact same

/-- A boundary of one leg that is not at rest leaves the other legs as they stand, when they are at rest. -/
theorem boundaries_others (rest : ∀ k ≠ l, LegAtRest s k) : ∀ k ≠ l, legAt (boundaries s) k = legAt s k := by
  have both : ∀ k ≠ l, legAt (boundaries s) k = legAt s k ∧ LegAtRest (boundaries s) k := by
    refine List.foldlRecOn (motive := fun t : State => ∀ k ≠ l, legAt t k = legAt s k ∧ LegAtRest t k) allLegs _
      (fun k hk => ⟨rfl, rest k hk⟩) fun t ih m _ k hk => ?_
    by_cases own : m = l
    · subst own
      exact ⟨((boundary_step m t).others k hk).trans (ih k hk).1, (boundary_step m t).rest hk (ih k hk).2⟩
    · rw [boundary_of_atRest _ _ (ih m own).2]
      exact ih k hk
  exact fun k hk => (both k hk).1

theorem settleAll_others (rest : ∀ k ≠ l, LegAtRest s k) : ∀ k ≠ l, legAt (settleAll s) k = legAt s k := fun k hk =>
  (settle_legs _ k).trans (boundaries_others rest k hk)

theorem settleAll_rest (s : State) : LegsAtRest (settleAll s) := (settle_calm _).rest (boundaries_rest s)

/-- The state of a leg moves: the others rest on. -/
theorem setLeg_rest {f : LegEngine → LegEngine} (rest : ∀ k ≠ l, LegAtRest s k) : ∀ k ≠ l, LegAtRest (setLeg l f s) k :=
  fun k hk => legAtRest_congr s _ k (legAt_setLeg_ne _ _ hk) rfl (fun _ _ h => h) rfl (rest k hk)

end Blocks

/-! ### Presence outcomes (R10, R11) -/

section Outcome

variable {s : State} {k : NodeKey} {n : NodeRun}

theorem valvePresence_frame (k : NodeKey) (p : Presence) (s : State) : valvePresence k p s =
    { s with ie := (valvePresence k p s).ie, vs := (valvePresence k p s).vs, xc := (valvePresence k p s).xc } :=
  (valvePresence_engine (c := false) k p s).frame_quietly

/-- The state once a presence outcome has been written into the node's record, with its NODE_BACK mark (R11, R12). -/
def presenceNoted (k : NodeKey) (n : NodeRun) (reply : Bool) (s : State) : State :=
  let s1 := setNode k (fun _ => presenceAfter reply n) s
  if n.presence = .missing ∧ (presenceAfter reply n).presence = .present ∧ k ∉ s1.nd.backNow then
    { s1 with nd := { s1.nd with backNow := s1.nd.backNow ++ [k] } }
  else s1

theorem presenceNoted_frame (k : NodeKey) (n : NodeRun) (reply : Bool) (s : State) : presenceNoted k n reply s =
    { s with nd := { s.nd with
      nodes := assocMap k (fun _ => presenceAfter reply n) s.nd.nodes, backNow := (presenceNoted k n reply s).nd.backNow } } := by
  unfold presenceNoted
  dsimp only
  split <;> rfl

/-- A node's presence outcome, and the presence event of a change (R11). -/
theorem nodeOutcome_eq {i : Nat} {r : NodeRec} (found : assocGet k s.nd.nodes = some n)
    (entry : nodeByKey s.ts.active k = some (i, r)) (reply : Bool) : nodeOutcome k reply s =
      if (presenceAfter reply n).presence = n.presence then presenceNoted k n reply s
      else match nodeKind r with
        | .valve => valvePresence k (presenceAfter reply n).presence (presenceNoted k n reply s)
        | .drip => rowPresence i (presenceAfter reply n).presence (presenceNoted k n reply s)
        | .flow => presenceNoted k n reply s := by
  unfold nodeOutcome
  rw [found, entry]
  rfl

/-- A presence outcome moves the node's record, its row's blindness and what its valve's fault brings. -/
theorem nodeOutcome_frame (found : assocGet k s.nd.nodes = some n) (tabled : (nodeByKey s.ts.active k).isSome = true)
    (reply : Bool) : nodeOutcome k reply s =
      { s with
        nd := { s.nd with
          nodes := assocMap k (fun _ => presenceAfter reply n) s.nd.nodes, backNow := (presenceNoted k n reply s).nd.backNow }
        de := (nodeOutcome k reply s).de, ie := (nodeOutcome k reply s).ie, vs := (nodeOutcome k reply s).vs
        xc := (nodeOutcome k reply s).xc } := by
  obtain ⟨⟨i, r⟩, entry⟩ := Option.isSome_iff_exists.mp tabled
  have noted := presenceNoted_frame k n reply s
  rw [nodeOutcome_eq found entry]
  split
  · rw [noted]
  · split
    · rw [valvePresence_frame, noted]
    · rw [noted]; rfl
    · rw [noted]

theorem nodeOutcome_nodes (found : assocGet k s.nd.nodes = some n) (tabled : (nodeByKey s.ts.active k).isSome = true)
    (reply : Bool) : (nodeOutcome k reply s).nd.nodes = assocMap k (fun _ => presenceAfter reply n) s.nd.nodes := by
  rw [nodeOutcome_frame found tabled]

end Outcome

/-! ### A miss -/

section Misses

variable {s : State} {l : Leg} {x : Txn}

theorem requestSent_eq (l : Leg) (s : State) : requestSent l s = setLeg l (fun e => { e with txn := e.txn.map fun x =>
    if x.phase = .sending then { x with phase := .window s.clock (settings s).window } else x }) s := by
  have opens (x : Txn) : openWindow s.clock (settings s).window x =
      if x.phase = .sending then { x with phase := .window s.clock (settings s).window } else x := by
    unfold openWindow
    cases h : x.phase with
    | sending => rfl
    | window opened limit => exact (if_neg nofun).symm
  unfold requestSent
  rw [funext opens]

/-- A poll whose end does not close the round, or a sweep poll, ends with its outcome and a change of its own engine. -/
theorem concludeTxn_asks (h : asks s l x) (reply : Option (Frame × List Byte)) (held disregard : Bool) :
    ∃ f : LegEngine → LegEngine,
      concludeTxn l x reply (lineFreed l held disregard s) = setLeg l f (deliver x reply (lineFreed l held disregard s)) ∧
        ∀ e, (f e).txn = e.txn ∧ (f e).disregard = e.disregard := by
  rcases h with ⟨purpose, on⟩ | purpose
  · refine ⟨finishPoll, ?_, fun e => ⟨rfl, rfl⟩⟩
    have unfinished : ¬ allFinished (setLeg l finishPoll (deliver x reply (lineFreed l held disregard s))) = true := by
      intro all
      have own := allFinished_iff.mp all l
      rw [legAt_setLeg, (deliver_poll (.inl purpose) reply _).legs, lineFreed, legAt_setLeg] at own
      exact absurd (of_decide_eq_true own) (Nat.not_le.mpr on)
    unfold concludeTxn
    rw [purpose]
    exact if_neg unfinished
  · refine ⟨finishSweep, ?_, fun e => ?_⟩
    · unfold concludeTxn
      rw [purpose]
    · unfold finishSweep
      split
      · split <;> exact ⟨rfl, rfl⟩
      · exact ⟨rfl, rfl⟩

theorem deliver_miss (h : asks s l x) (u : State) : deliver x none u = nodeOutcome x.key false u := by
  unfold deliver
  rcases h with ⟨purpose, -⟩ | purpose <;> rw [purpose]

/-- What a row leaves that ends a poll with a miss. -/
structure Missed (s t : State) (l : Leg) (k : NodeKey) (n : NodeRun) (u : State) : Prop where
  others : quiet t = quiet { u with le := t.le, nd := t.nd, de := t.de, ie := t.ie, vs := t.vs, xc := t.xc }
  node : ∃ n', assocGet k t.nd.nodes = some n' ∧ n'.misses = min 3 (n.misses + 1) ∧
    n'.presence = if 3 ≤ n.misses + 1 then .missing else n.presence
  nodes : ∀ j ≠ k, (assocGet j t.nd.nodes).map quietNode = (assocGet j s.nd.nodes).map quietNode

theorem presenceAfter_miss (n : NodeRun) : (presenceAfter false n).misses = min 3 (n.misses + 1) ∧
    (presenceAfter false n).presence = if 3 ≤ n.misses + 1 then .missing else n.presence := by
  have held : (3 ≤ heldAt 3 (n.misses + 1)) ↔ 3 ≤ n.misses + 1 := by unfold heldAt; omega
  unfold presenceAfter
  refine ⟨rfl, ?_⟩
  dsimp only
  exact if_congr held rfl rfl

/-- The end of a step after the miss of a poll. -/
theorem missed_of_ending {u : State} {n : NodeRun} (h : asks s l x) (time : u.nd = s.nd ∧ u.ts = s.ts ∧ ∀ m, legAt u m = legAt s m)
    (found : assocGet x.key s.nd.nodes = some n) (tabled : (nodeByKey s.ts.active x.key).isSome = true) (held disregard : Bool) :
    Missed s (settleAll (concludeTxn l x none (lineFreed l held disregard u))) l x.key n u := by
  obtain ⟨nodes, tables, legs⟩ := time
  have asked : asks u l x := by
    unfold asks pollsOn at h ⊢
    rw [legs]
    exact h
  obtain ⟨f, concluded, -⟩ := concludeTxn_asks asked none held disregard
  rw [concluded, deliver_miss asked]
  have found' : assocGet x.key (lineFreed l held disregard u).nd.nodes = some n := by
    change assocGet x.key u.nd.nodes = _
    rw [nodes]; exact found
  have tabled' : (nodeByKey (lineFreed l held disregard u).ts.active x.key).isSome = true := by
    change (nodeByKey u.ts.active x.key).isSome = true
    rw [tables]; exact tabled
  have frame := nodeOutcome_frame found' tabled' false
  have moved := nodeOutcome_nodes found' tabled' false
  obtain ⟨w, isW⟩ : ∃ w, w = nodeOutcome x.key false (lineFreed l held disregard u) := ⟨_, rfl⟩
  rw [← isW] at frame moved ⊢
  have kept (j : NodeKey) := settleAll_node j (setLeg l f w)
  rw [show (setLeg l f w).nd = w.nd from rfl, moved] at kept
  refine ⟨quiet_of_work (quiet_settleAll _) ?_, ?_, fun j hj => ?_⟩
  · rw [frame]
    rfl
  · have own := kept x.key
    rw [assocGet_assocMap, found'] at own
    obtain ⟨n', entry, same⟩ := Option.map_eq_some_iff.mp own
    exact ⟨n', entry, (congrArg NodeRun.misses same).trans (presenceAfter_miss n).1,
      (congrArg NodeRun.presence same).trans (presenceAfter_miss n).2⟩
  · rw [kept j, assocGet_assocMap_ne _ _ hj, ← nodes]
    rfl

theorem asks_polls (h : asks s l x) : x.purpose = .poll ∨ x.purpose = .sweep := h.imp_left And.left

/-- A leg whose line is disregarded as its poll ends starts no request. -/
theorem asked_disregards (h : asks s l x) (reply : Option (Frame × List Byte)) (held : Bool) :
    (legAt (settleAll (concludeTxn l x reply (lineFreed l held true s))) l).disregard = true ∧
      (legAt (settleAll (concludeTxn l x reply (lineFreed l held true s))) l).txn = none := by
  obtain ⟨f, concluded, keeps⟩ := concludeTxn_asks h reply held true
  have freed : legAt (deliver x reply (lineFreed l held true s)) l =
      { legAt s l with txn := none, alertHeld := held, disregard := true } := by
    rw [(deliver_poll (asks_polls h) reply _).legs, lineFreed, legAt_setLeg]
  have ended : (legAt (setLeg l f (deliver x reply (lineFreed l held true s))) l).disregard = true ∧
      (legAt (setLeg l f (deliver x reply (lineFreed l held true s))) l).txn = none := by
    rw [legAt_setLeg, freed, (keeps _).1, (keeps _).2]
    exact ⟨rfl, rfl⟩
  rw [concluded, settleAll_of_busy (by unfold legReady; rw [ended.1, Bool.not_true, Bool.and_false])]
  exact ended

end Misses

/-- Settles O46. -/
theorem anUnansweredPollIsAMiss : Obligations.AnUnansweredPollIsAMiss := by
  unfold Obligations.AnUnansweredPollIsAMiss
  refine ⟨fun s l => ⟨_, rfl, ?_⟩, fun s l rest idle unheld => ⟨_, rfl, ?_⟩, fun s l after rest disregards => ⟨_, rfl, ?_⟩,
    fun s l x n bytes opened limit found asked phase entry tabled attended invalid p row => ?_⟩
  · rw [quiet_settle, requestSent_eq]
  · have begun : windowExpiry l true s = setLeg l (fun e => { e with disregard := true }) s := by
      unfold windowExpiry
      rw [idle]
      refine (if_pos rfl).trans (setLeg_congr ?_)
      unfold strayBytes
      rw [unheld, Bool.not_false, Bool.or_true]
    rw [begun, settleAll_at_rest fun k => ?_]
    · exact quiet_settle _
    · by_cases own : k = l
      · subst own
        intro ready
        rw [legAt_setLeg] at ready
        simp [legReady] at ready
      · exact setLeg_rest (fun k _ => rest k) k own
  · have cleared : lineIdle l after s = setLeg l (fun e => { e with disregard := false }) s := if_pos disregards
    rw [cleared]
    refine ⟨quiet_settleAll _, ?_, settleAll_rest _ l, fun k hk => ?_⟩
    · have steady := congrArg LegEngine.disregard (settleAll_steady l (setLeg l (fun e => { e with disregard := false }) s))
      rw [legAt_setLeg] at steady
      exact steady
    · rw [settleAll_others (setLeg_rest rest) k hk, legAt_setLeg_ne _ _ hk]
  · have missed (u : State) (time : u.nd = s.nd ∧ u.ts = s.ts ∧ ∀ m, legAt u m = legAt s m) (held disregard : Bool) :=
      missed_of_ending asked time entry tabled held disregard
    have reached := missed (reachTime (opened + limit) s) ⟨rfl, rfl, fun _ => rfl⟩
    simp only [endings, List.mem_cons, List.not_mem_nil, or_false] at row
    rcases row with rfl | rfl | rfl | rfl | rfl
    · have m := reached (legAt s l).alertHeld (false && !(legAt s l).alertHeld)
      exact ⟨_, windowExpiry_ends found phase attended false, m.others, nofun, m.node, m.nodes⟩
    · have m := reached (legAt s l).alertHeld (true && !(legAt s l).alertHeld)
      refine ⟨_, windowExpiry_ends found phase attended true, m.others, fun unheld _ => ?_, m.node, m.nodes⟩
      have stray : (true && !(legAt s l).alertHeld) = true := by rw [unheld]; rfl
      rw [stray]
      exact asked_disregards (s := reachTime (opened + limit) s) asked none _
    · have m := missed s ⟨rfl, rfl, fun _ => rfl⟩ false false
      exact ⟨_, lineIdle_ends found phase attended nofun, m.others, nofun, m.node, m.nodes⟩
    · have m := missed s ⟨rfl, rfl, fun _ => rfl⟩ false false
      exact ⟨_, lineIdle_ends found phase attended nofun, m.others, nofun, m.node, m.nodes⟩
    · have m := missed s ⟨rfl, rfl, fun _ => rfl⟩ false false
      have ran := replyEnd_ends found phase attended bytes
      rw [invalid] at ran
      exact ⟨_, ran, m.others, nofun, m.node, m.nodes⟩

end Sys2Proof.Machine
end

section
/-! Discovery and relays: their transactions and their commands (R17 to R23, R186). -/

namespace Sys2Proof.Machine

open Sys2Proof

/-! ### Discovery transactions (R22) -/

section Discovery

variable {s : State} {l : Leg} {x : Txn}

theorem identKindOf_eq (b : Byte) :
    identKindOf b = if b = 1 then .drip else if b = 2 then .flow else if b = 3 then .valve else .unknown := by
  have one : b = 1 ↔ b.toNat = 1 := BitVec.toNat_inj.symm
  have two : b = 2 ↔ b.toNat = 2 := BitVec.toNat_inj.symm
  have three : b = 3 ↔ b.toNat = 3 := BitVec.toNat_inj.symm
  simp only [one, two, three]
  unfold identKindOf
  split
  next h => rw [if_pos h]
  next h => rw [if_neg (by omega), if_pos h]
  next h => rw [if_neg (by omega), if_neg (by omega), if_pos h]
  next h1 h2 h3 => rw [if_neg h1, if_neg h2, if_neg h3]

/-- The Presence List entries that a discovery transaction finds. -/
def foundBy (free : Nat) (k : NodeKey) (reply : Option Frame) : List PresenceEntry :=
  (reply.map fun f => presenceEntry free k.node f.payload).toList

theorem discoveryOutcome_frame (k : NodeKey) (reply : Option Frame) (s : State) : discoveryOutcome k reply s =
    { s with le := (discoveryOutcome k reply s).le, free := (discoveryOutcome k reply s).free } := by
  unfold discoveryOutcome
  cases reply with
  | none =>
    dsimp only
    split <;> rfl
  | some f =>
    dsimp only
    unfold useFreeIf
    split <;> split <;> rfl

theorem legAt_useFreeIf (b : Bool) (s : State) (l : Leg) : legAt (useFreeIf b s) l = legAt s l := by
  cases b <;> rfl

/-- A discovery transaction adds what it finds, and the one for address 30 ends the discovery. -/
theorem discoveryOutcome_leg (k : NodeKey) (reply : Option Frame) (s : State) :
    legAt (discoveryOutcome k reply s) k.leg = { legAt s k.leg with
      presence := (legAt s k.leg).presence ++ foundBy s.free k reply
      discovering := (legAt s k.leg).discovering && decide (k.node ≠ 30) } := by
  have ends (u : State) : legAt (if k.node = 30 then setLeg k.leg (fun e => { e with discovering := false }) u else u) k.leg =
      { legAt u k.leg with discovering := (legAt u k.leg).discovering && decide (k.node ≠ 30) } := by
    split
    next last => rw [legAt_setLeg, decide_eq_false (not_not_intro last), Bool.and_false]
    next more => rw [decide_eq_true more, Bool.and_true]
  unfold discoveryOutcome
  cases reply with
  | none =>
    dsimp only
    rw [ends, foundBy, Option.map_none, Option.toList_none, List.append_nil]
  | some f =>
    dsimp only
    rw [ends, legAt_useFreeIf, legAt_setLeg]
    rfl

/-- The end of a step after a discovery transaction. -/
theorem discovered_of_ending {u : State} (purpose : x.purpose = .discovery) (own : x.key.leg = l)
    (reply : Option (Frame × List Byte)) (held disregard : Bool) (legs : ∀ m, legAt u m = legAt s m) :
    let t := settleAll (concludeTxn l x reply (lineFreed l held disregard u))
    quiet t = quiet { u with le := t.le, vs := t.vs } ∧
      (legAt t l).presence = (legAt s l).presence ++ foundBy u.free x.key (reply.map (·.1)) ∧
      (legAt t l).discovering = ((legAt s l).discovering && decide (x.key.node ≠ 30)) := by
  have concluded : concludeTxn l x reply (lineFreed l held disregard u) =
      discoveryOutcome x.key (reply.map (·.1)) (lineFreed l held disregard u) := by
    unfold concludeTxn deliver
    rw [purpose]
  have leg := discoveryOutcome_leg x.key (reply.map (·.1)) (lineFreed l held disregard u)
  have frame := discoveryOutcome_frame x.key (reply.map (·.1)) (lineFreed l held disregard u)
  rw [own, lineFreed, legAt_setLeg, legs, ← lineFreed] at leg
  rw [concluded]
  have steady := settleAll_steady l (discoveryOutcome x.key (reply.map (·.1)) (lineFreed l held disregard u))
  rw [leg] at steady
  refine ⟨?_, congrArg LegEngine.presence steady, congrArg LegEngine.discovering steady⟩
  rw [quiet_settleAll]
  obtain ⟨w, isW⟩ : ∃ w, w = discoveryOutcome x.key (reply.map (·.1)) (lineFreed l held disregard u) := ⟨_, rfl⟩
  rw [← isW] at frame ⊢
  rw [show quiet { w with le := (settleAll w).le, vs := (settleAll w).vs } =
    { quiet w with le := (quiet (settleAll w)).le, vs := (quiet (settleAll w)).vs } from rfl]
  nth_rewrite 1 [frame]
  rfl

end Discovery

/-! ### Boundaries of one leg -/

section OneLeg

variable {s u : State} {l : Leg}

theorem sweepPoll_none_congr (same : (legAt u l).sweep = (legAt s l).sweep) (unpolled : sweepPoll l s = none) :
    sweepPoll l u = none := by
  unfold sweepPoll at unpolled ⊢
  rw [same]
  revert unpolled
  cases (legAt s l).sweep with
  | none => exact fun _ => rfl
  | some w =>
    dsimp only
    cases w.list[w.cursor]? with
    | none => exact fun _ => rfl
    | some n => exact nofun

/-- With every other leg at rest, the boundaries are the one leg's. -/
theorem boundaries_of_one (rest : ∀ k ≠ l, LegAtRest s k) : boundaries s = boundary l s := by
  have before (k : Leg) (hk : k ≠ l) : boundary k s = s := boundary_of_atRest s k (rest k hk)
  have after (k : Leg) (hk : k ≠ l) : boundary k (boundary l s) = boundary l s :=
    boundary_of_atRest _ k ((boundary_step l s).rest hk (rest k hk))
  change boundary 3 (boundary 2 (boundary 1 (boundary 0 s))) = _
  obtain rfl | rfl | rfl | rfl : l = 0 ∨ l = 1 ∨ l = 2 ∨ l = 3 := by fin_cases l <;> decide
  · rw [after 1 (by decide), after 2 (by decide), after 3 (by decide)]
  · rw [before 0 (by decide), after 2 (by decide), after 3 (by decide)]
  · rw [before 0 (by decide), before 1 (by decide), after 3 (by decide)]
  · rw [before 0 (by decide), before 1 (by decide), before 2 (by decide)]

/-- A leg with no valve command and no sweep comes to the relay slot. -/
theorem boundary_eq_relay (ready : legReady (legAt s l) = true) (queue : quadGet s.vs.queues l = []) (sweep : sweepPoll l s = none)
    (flag : (legAt s l).sweep = none → (legAt s l).alertFlag = false) : boundary l s = boundaryRelay l s := by
  have begun : sweepBegun l s = s := by
    unfold sweepBegun
    exact if_neg fun h => by
      rw [flag (Option.isNone_iff_eq_none.mp h.1)] at h
      cases h.2
  unfold boundary boundaryQueue boundarySweep
  rw [if_pos ready, takeHead_eq_none_iff.mpr queue]
  dsimp only
  rw [begun, sweep]

/-- A leg with no work but a discovery sends the next IDENT REQUEST. -/
theorem boundary_discovers (ready : legReady (legAt s l) = true) (queue : quadGet s.vs.queues l = []) (sweep : sweepPoll l s = none)
    (flag : (legAt s l).sweep = none → (legAt s l).alertFlag = false) (relay : ∀ k f, s.ti.slot = .relay k f false → k.leg ≠ l)
    (polled : ((legAt s l).pollList[(legAt s l).cursor]?).bind (keyAt s.ts.active) = none) :
    boundary l s = boundaryDiscovery l s := by
  have poll : boundaryPoll l s = boundaryDiscovery l s := by
    simp only [boundaryPoll, polled]
  rw [boundary_eq_relay ready queue sweep flag]
  unfold boundaryRelay
  split
  next k f waits => rw [if_neg (relay k f waits), poll]
  · exact poll

end OneLeg

/-! ### DISCOVER (R21) -/

section Discover

variable {s : State} {l : Leg} {leg : Byte}

theorem carryDiscover_noLeg (h : 4 ≤ leg.toNat) : carryDiscover leg s = (s, .badArgument, []) := by
  unfold carryDiscover discoverLeg
  rw [show legOfNat leg.toNat = none from dif_neg (by omega)]
  rfl

theorem carryDiscover_busy (h : leg.toNat = l.val) (runs : (legAt s l).discovering = true) :
    carryDiscover leg s = (s, .busy, []) := by
  unfold carryDiscover discoverLeg
  rw [legOfNat_eq_some h]
  dsimp only
  rw [if_pos runs]
  rfl

/-- The engine of a leg whose discovery has begun. -/
def discoveryBegun (e : LegEngine) : LegEngine := { e with presence := [], nextAddress := 1, discovering := true }

theorem carryDiscover_begins (h : leg.toNat = l.val) (ended : (legAt s l).discovering = false) :
    carryDiscover leg s = (setLeg l discoveryBegun s, .ok, []) := by
  unfold carryDiscover discoverLeg
  rw [legOfNat_eq_some h]
  dsimp only
  rw [if_neg (by rw [ended]; nofun)]
  rfl

/-- The engine of a leg that has sent the IDENT REQUEST for address 1 where it may, as its discovery begins. -/
def discoverySent (here : Byte) (l : Leg) (e : LegEngine) : LegEngine :=
  if legReady e then
    { e with presence := [], discovering := true, nextAddress := 2,
             txn := some ⟨.discovery, ⟨l, 1⟩, ⟨here, here, placeByte ⟨l, 1⟩, 0x05#8, []⟩, .sending⟩ }
  else { e with presence := [], discovering := true, nextAddress := 1 }

/-- The boundaries of a unit at rest, as the discovery of a leg has begun. -/
theorem boundaries_of_discovery (rest : LegsAtRest s) (t : TrunkBlock) (position : t.position = s.ti.position)
    (free : ∀ k f, t.slot ≠ .relay k f false) :
    boundaries { setLeg l discoveryBegun s with ti := t } =
      { setLeg l (discoverySent (unitByte s.ti.position) l) s with ti := t } := by
  obtain ⟨w, isW⟩ : ∃ w : State, w = { setLeg l discoveryBegun s with ti := t } := ⟨_, rfl⟩
  have own : legAt w l = discoveryBegun (legAt s l) := by
    rw [isW]
    exact legAt_setLeg ..
  have others : ∀ k ≠ l, LegAtRest w k := fun k hk => by
    rw [isW]
    exact legAtRest_congr s _ k (legAt_setLeg_ne _ _ hk) rfl (fun k' f waits => absurd waits (free k' f)) rfl (rest k)
  have ready : legReady (legAt w l) = legReady (legAt s l) := by rw [own]; rfl
  rw [← isW, boundaries_of_one others]
  by_cases idle : legReady (legAt s l) = true
  · obtain ⟨queue, sweep, flag, -, polled, -⟩ := rest l idle
    have noSweep : sweepPoll l w = none := sweepPoll_none_congr (by rw [own]; rfl) sweep
    rw [boundary_discovers (ready.trans idle) (by rw [isW]; exact queue) noSweep (by rw [own]; exact flag)
      (fun k f waits => absurd waits (by rw [isW]; exact free k f)) (by rw [own, isW]; exact polled)]
    have sent : boundaryDiscovery l w = setLeg l (fun e => { e with
        nextAddress := heldAt 30 (e.nextAddress + 1)
        txn := some ⟨.discovery, ⟨l, 1⟩, legFrame w.ti.position ⟨l, 1⟩ kindIdentRequest [], .sending⟩ }) w := by
      unfold boundaryDiscovery
      rw [own]
      exact (if_pos rfl).trans (setLeg_setLeg ..)
    rw [sent, isW]
    dsimp only
    rw [position]
    refine (congrArg (fun u : State => { u with ti := t }) (setLeg_setLeg l _ discoveryBegun s)).trans ?_
    refine congrArg (fun u : State => { u with ti := t }) (setLeg_congr ?_)
    unfold discoverySent
    rw [if_pos idle]
    rfl
  · unfold boundary
    rw [if_neg (by rw [ready]; exact idle), isW]
    refine congrArg (fun u : State => { u with ti := t }) (setLeg_congr ?_)
    unfold discoverySent
    rw [if_neg idle]
    rfl

/-- A row that carries its command out, answers it, and has the boundaries take the work it brings. -/
theorem completes_of_boundaries {c : Instr} {hdr : Header} {code : Byte} {args : List Byte} {carry : State → Carry}
    {s₀ s u v : State} {r : Result} {detail payload : List Byte}
    (he : exec c s₀ = .next (settleAll (receiveCommand hdr code args carry s))) (taken : Taken s hdr)
    (hc : carry (presenceRestart s) = (u, r, detail)) (hti : u.ti = (presenceRestart s).ti)
    (notReset : code ≠ codeUnitReset ∨ r ≠ .ok) (hp : replyPayload u ⟨code, args, r, detail⟩ = payload) (hv : v.ti = u.ti)
    (gone : ∀ t : TrunkBlock, t.position = u.ti.position → (∀ k f, t.slot ≠ .relay k f false) →
      boundaries { u with ti := t } = { v with ti := t }) : Completes c s₀ v payload := by
  obtain ⟨t, ran, replied, -, -⟩ := replied_of_carry he taken hc hti notReset hp
  refine ⟨t, ran, ?_, replied⟩
  obtain ⟨df, received⟩ := receiveCommand_forUnit hdr code args carry s taken.1 taken.2 (by rw [hc, hti]; exact taken.2.2)
    (by rw [hc]; change u.ti.df = _; rw [hti]; rfl)
  rw [hc] at received
  rw [he, received] at ran
  injection ran with last
  rw [← last, settleAll, quiet_settle]
  dsimp only
  rw [gone _ (by rfl) (slotAfter_ne_relay _ · · false), ← hv]
  rfl

end Discover

/-- Settles O43. -/
theorem discoverBeginsAtAddressOne : Obligations.DiscoverBeginsAtAddressOne := by
  unfold Obligations.DiscoverBeginsAtAddressOne
  refine ⟨fun s l x bytes opened limit found purpose phase own attended => ?_,
    fun hdr s leg taken rest => ⟨fun noLeg => ?_, fun l named => ⟨fun runs => ?_, fun ended => ?_⟩⟩⟩
  · have ended := discovered_of_ending (s := s) (u := s) purpose own (disregard := false) (held := false) (legs := fun _ => rfl)
    have missed := ended none
    rw [foundBy, Option.map_none, Option.map_none, Option.toList_none] at missed
    refine ⟨fun f k a b c d good place kind payload => ?_, fun invalid => ?_, ?_, ?_, fun stray => ?_⟩
    · have valid : validReply x bytes = some (f, bytes) := by
        unfold validReply
        rw [good]
        exact if_pos ⟨place, by rw [purpose]; exact decide_eq_true kind⟩
      have answered := ended (some (f, bytes))
      have entry : foundBy s.free x.key (((some (f, bytes)).map (·.1) : Option Frame)) = [⟨x.key.node,
          if k = 1 then .drip else if k = 2 then .flow else if k = 3 then .valve else .unknown, [a, b, c, d]⟩] := by
        rw [← identKindOf_eq]
        change [presenceEntry s.free x.key.node f.payload] = _
        rw [payload]
        rfl
      rw [entry] at answered
      have ran := replyEnd_ends found phase attended bytes
      rw [valid] at ran
      exact ⟨_, ran, answered⟩
    · have ran := replyEnd_ends found phase attended bytes
      rw [invalid] at ran
      exact ⟨_, ran, missed⟩
    · exact ⟨_, lineIdle_ends found phase attended nofun, missed⟩
    · exact ⟨_, lineIdle_ends found phase attended nofun, missed⟩
    · have expired := discovered_of_ending (s := s) (u := reachTime (opened + limit) s) purpose own none (legAt s l).alertHeld
        (stray && !(legAt s l).alertHeld) fun _ => rfl
      rw [foundBy, Option.map_none, Option.map_none, Option.toList_none] at expired
      exact ⟨_, windowExpiry_ends found phase attended stray, expired⟩
  · exact completes_of_refusal_at_rest rfl taken rest .badArgument [] (carryDiscover_noLeg noLeg) nofun
  · exact completes_of_refusal_at_rest rfl taken rest .busy [] (carryDiscover_busy (s := presenceRestart s) named runs) nofun
  · have gone := boundaries_of_discovery (l := l) (presenceRestart_rest rest)
    exact completes_of_boundaries (u := setLeg l discoveryBegun (presenceRestart s)) (code := codeDiscover) (args := [leg])
        (carry := carryDiscover leg) (r := .ok) (detail := []) rfl taken
        (carryDiscover_begins (s := presenceRestart s) named ended) rfl (.inl (by decide)) rfl rfl
        fun t position free => gone t position free

/-! ### Relay transactions (R19) -/

section RelayEnds

variable {u : State} {l : Leg} {x : Txn} {dropped : Bool}

/-- The end of a step after the transaction of a relay: its reply is placed, unless BREAK has cleared its slot. -/
theorem relayed_of_ending (purpose : x.purpose = .relay dropped) (reply : Option (Frame × List Byte)) (held disregard : Bool) :
    let t := settleAll (concludeTxn l x reply (lineFreed l held disregard u))
    quiet t = quiet { u with le := t.le, vs := t.vs } ∧
      if dropped then
        (∀ k f, u.ti.slot ≠ .relay k f false) → u.ti.reply = none → u.ti.upperTx.isSome → t.ti.reply = none
      else u.ti.reply = none → t.ti.slot = .empty ∧
        Answered t (unitFrame u.ti.position kindRelayReply (relayPayload reply)) false := by
  have concluded : concludeTxn l x reply (lineFreed l held disregard u) =
      if dropped then lineFreed l held disregard u
      else placeDue (.relayReply (relayPayload reply)) (lineFreed l held disregard u) := by
    unfold concludeTxn deliver
    rw [purpose]
  rw [concluded]
  cases dropped with
  | true =>
    rw [if_pos rfl]
    refine ⟨quiet_settleAll _, ?_⟩
    rw [if_pos rfl]
    intro free unplaced _
    have trunk := (boundaries_kept (lineFreed l held disregard u)).trunk free
    exact settle_reply_none (by rw [trunk]; exact unplaced)
  | false =>
    rw [if_neg Bool.false_ne_true]
    refine ⟨?_, ?_⟩
    · rw [quiet_settleAll]
      obtain ⟨w, isW⟩ : ∃ w, w = placeDue (.relayReply (relayPayload reply)) (lineFreed l held disregard u) := ⟨_, rfl⟩
      have frame := placeDue_frame (.relayReply (relayPayload reply)) (lineFreed l held disregard u)
      rw [← isW] at frame ⊢
      rw [show quiet { w with le := (settleAll w).le, vs := (settleAll w).vs } =
        { quiet w with le := (quiet (settleAll w)).le, vs := (quiet (settleAll w)).vs } from rfl]
      nth_rewrite 1 [frame]
      rfl
    · rw [if_neg Bool.false_ne_true]
      intro unplaced
      rw [placeDue_eq (w := lineFreed l held disregard u) unplaced]
      exact settleAll_answered (s := fillPlace (.relayReply (relayPayload reply)) (lineFreed l held disregard u))
        (fun k f => slotAfter_ne_relay (.relayReply (relayPayload reply)) k f false) rfl
        (slotAfter_ne_due (.relayReply (relayPayload reply))) rfl

theorem validReply_of_relay {f : Frame} {bytes : List Byte} (purpose : x.purpose = .relay dropped) (good : checkFrame bytes = .good f)
    (place : f.place = placeByte x.key) : validReply x bytes = some (f, bytes) := by
  unfold validReply
  rw [good]
  exact if_pos ⟨place, by rw [purpose]; rfl⟩

theorem validReply_eq_none {bytes : List Byte} (foreign : ∀ f, checkFrame bytes = .good f → f.place ≠ placeByte x.key) :
    validReply x bytes = none := by
  unfold validReply
  split
  next f good => exact if_neg fun h => foreign f good h.1
  · rfl

end RelayEnds

/-! ### RELAY and undefined commands (R17, R18, R186) -/

section RelayTaken

variable {s : State} {hdr : Header} {payload : List Byte}

/-- A consumed frame for this unit leaves what its taking leaves, but for DF, which may have gained the frame. -/
theorem receive_consumes {kind : Byte} {consume : State → State} (forUnit : ForUnit s hdr.dest) (down : upwardKind kind = false)
    (notNumber : kind ≠ kindNumber) (df : (consume (presenceRestart s)).ti.df = s.ti.df) :
    ∃ df, receive .upper (frameOf hdr kind payload) consume s =
      { consume (presenceRestart s) with ti := { (consume (presenceRestart s)).ti with df := df } } := by
  rcases receive_forUnit hdr kind payload consume s forUnit down notNumber with here | ⟨room, onward⟩
  · exact ⟨_, here⟩
  · exact ⟨_, onward.trans (forwardDown_ti .upper _ _ (by rw [df]; exact room))⟩

/-- A frame for this unit that is answered at once, and brings no work to the legs. -/
theorem placed_runs {i : Instr} {kind : Byte} {consume : State → State} {d : DueReply} {v : State}
    (runs : exec i s = .next (settleAll (receive .upper (frameOf hdr kind payload) consume s))) (forUnit : ForUnit s hdr.dest)
    (down : upwardKind kind = false) (notNumber : kind ≠ kindNumber) (consumes : consume (presenceRestart s) = fillPlace d v)
    (trunk : v.ti = (presenceRestart s).ti) (rest : LegsAtRest v) (notReset : isReset d = false) :
    ∃ t, exec i s = .next t ∧ quiet t = quiet v ∧ t.ti.slot = .empty ∧ Answered t (buildReply v d) false ∧
      t.ti.position = s.ti.position := by
  obtain ⟨df, received⟩ := receive_consumes (payload := payload) (consume := consume) forUnit down notNumber
    (by rw [consumes]; change v.ti.df = _; rw [trunk]; rfl)
  rw [consumes] at received
  rw [received] at runs
  have restOf := legsAtRest_congr v { fillPlace d v with ti := { (fillPlace d v).ti with df := df } } rfl rfl
    (fun k f waits => absurd waits (slotAfter_ne_relay d k f false)) rfl rest
  obtain ⟨slot, answered⟩ := settle_answered { fillPlace d v with ti := { (fillPlace d v).ti with df := df } }
    ⟨buildReply v d, isReset d⟩ rfl (slotAfter_ne_due d) buildReply_src
  rw [settleAll_at_rest restOf] at runs
  refine ⟨_, runs, quiet_settle _, slot.trans ?_, notReset ▸ answered, (settle_position _).trans ?_⟩
  · change slotAfter d = _
    unfold slotAfter
    rw [notReset]
    rfl
  · change v.ti.position = _
    rw [trunk]
    rfl

theorem takeRelay_refused (free : s.ti.slot = .empty) (unplaced : s.ti.reply = none) (bad : relayTarget payload = none) :
    takeRelay payload s = fillPlace (relayResult .badArgument) s := by
  unfold takeRelay slotFree
  rw [if_pos (decide_eq_true free), bad, placeDue_eq unplaced]

theorem takeRelay_takes {k : NodeKey} {f : Frame} (free : s.ti.slot = .empty) (good : relayTarget payload = some (k, f)) :
    takeRelay payload s = { s with ti := { s.ti with slot := .relay k f false } } := by
  unfold takeRelay slotFree
  rw [if_pos (decide_eq_true free), good]

/-- What an undefined COMMAND is taken as (R186). -/
theorem consumeFrame_undefined (undefined : commandDefined payload = false) :
    consumeFrame (frameOf hdr kindCommand payload) = takeUndefined payload := by
  obtain ⟨noCarry, noLoad⟩ := Bool.or_eq_false_iff.mp undefined
  funext u
  unfold consumeFrame
  rw [if_pos (show (frameOf hdr kindCommand payload).kind = kindCommand from rfl)]
  unfold takeCommandFrame
  rw [show carryOf (frameOf hdr kindCommand payload).payload = none from
      Option.not_isSome_iff_eq_none.mp (by rw [Bool.not_eq_true]; exact noCarry),
    show loadArgs (frameOf hdr kindCommand payload).payload = none from
      Option.not_isSome_iff_eq_none.mp (by rw [Bool.not_eq_true]; exact noLoad)]
  rfl

/-- A leg at rest takes a relay that has come for it. -/
theorem boundaries_of_relay {k : NodeKey} {f : Frame} (rest : LegsAtRest s) (ready : legReady (legAt s k.leg) = true) (t : TrunkBlock)
    (slot : t.slot = .relay k f false) : boundaries { s with ti := t } =
      if relayHeld s k f then placeDue (relayResult .held) { s with ti := t }
      else startTxn k.leg (.relay false) k f { s with ti := { t with slot := .relay k f true } } := by
  obtain ⟨w, isW⟩ : ∃ w : State, w = { s with ti := t } := ⟨_, rfl⟩
  have own : legAt w k.leg = legAt s k.leg := by rw [isW]; rfl
  have waits : w.ti.slot = .relay k f false := by rw [isW]; exact slot
  have others : ∀ m ≠ k.leg, LegAtRest w m := fun m hm => fun ready' => by
    rw [isW] at ready'
    obtain ⟨queue, sweep, flag, -, polled, ended⟩ := rest m ready'
    rw [isW]
    refine ⟨queue, sweepPoll_none_congr (s := s) rfl sweep, flag, fun k' f' waits' => ?_, polled, ended⟩
    rw [slot] at waits'
    cases waits'
    exact hm.symm
  obtain ⟨queue, sweep, flag, -, polled, ended⟩ := rest k.leg ready
  rw [← isW, boundaries_of_one others, boundary_eq_relay (by rw [own]; exact ready) (by rw [isW]; exact queue)
    (sweepPoll_none_congr (by rw [own]) sweep) (by rw [own]; exact flag)]
  have noPoll (u : State) (legs : legAt u k.leg = legAt s k.leg) (active : u.ts.active = s.ts.active) : boundaryPoll k.leg u = u := by
    simp only [boundaryPoll, boundaryDiscovery, legs, active, polled, ended]
    rfl
  unfold boundaryRelay
  rw [waits]
  dsimp only
  rw [if_pos rfl]
  have held : relayHeld w k f = relayHeld s k f := by rw [isW]; rfl
  rw [held]
  split
  · refine noPoll _ ?_ ?_
    · unfold legAt at own ⊢
      rw [placeDue_legs]
      exact own
    · rw [placeDue_frame, isW]
  · rw [isW]

/-- A RELAY that is consumed leaves its relay in the slot, and DF, which may have gained the frame. -/
theorem receive_relay {k : NodeKey} {f : Frame} (taken : Taken s hdr) (good : relayTarget payload = some (k, f)) :
    ∃ df, receive .upper (frameOf hdr kindRelay payload) (takeRelay payload) s = { presenceRestart s with
      ti := { (presenceRestart s).ti with slot := .relay k f false, df := df } } := by
  have takes := takeRelay_takes (s := presenceRestart s) taken.2.1 good
  obtain ⟨df, received⟩ := receive_consumes (payload := payload) (consume := takeRelay payload) taken.1 (kind := kindRelay) rfl
    (by decide) (by rw [takes]; rfl)
  rw [takes] at received
  exact ⟨df, received⟩

/-- While the leg is busy the relay waits in the slot. -/
theorem relay_waits {k : NodeKey} {f : Frame} (taken : Taken s hdr) (rest : LegsAtRest s) (good : relayTarget payload = some (k, f))
    (busy : legReady (legAt s k.leg) = false) : ∃ t, exec (.relay hdr payload) s = .next t ∧
      quiet t = quiet (presenceRestart s) ∧ t.ti.slot = .relay k f false := by
  obtain ⟨df, received⟩ := receive_relay taken good
  obtain ⟨w, isW⟩ : ∃ w : State, w = { presenceRestart s with
    ti := { (presenceRestart s).ti with slot := .relay k f false, df := df } } := ⟨_, rfl⟩
  have restOf : LegsAtRest w := fun m => by
    by_cases own : m = k.leg
    · intro ready
      rw [isW, own] at ready
      change legReady (legAt s k.leg) = true at ready
      rw [busy] at ready
      cases ready
    · intro ready
      rw [isW] at ready ⊢
      obtain ⟨queue, sweep, flag, -, polled, ended⟩ := presenceRestart_rest rest m ready
      exact ⟨queue, sweepPoll_none_congr (s := presenceRestart s) rfl sweep, flag, fun k' f' waits => by cases waits; exact Ne.symm own,
        polled, ended⟩
  refine ⟨_, rfl, ?_, ?_⟩
  · rw [received, ← isW, settleAll_at_rest restOf, quiet_settle, isW]
    rfl
  · rw [received, ← isW, settleAll_at_rest restOf, settle_slot_of_not_due (by rw [isW]; nofun), isW]

/-- An idle leg takes the relay: a VALVE SET to a valve of the active Node Table is answered HELD, any other inner frame is
sent. -/
theorem relay_taken {k : NodeKey} {f : Frame} (taken : Taken s hdr) (rest : LegsAtRest s) (good : relayTarget payload = some (k, f))
    (ready : legReady (legAt s k.leg) = true) :
    ∃ df, exec (.relay hdr payload) s = .next (settle (
      if relayHeld s k f then
        placeDue (relayResult .held) { presenceRestart s with
          ti := { (presenceRestart s).ti with slot := .relay k f false, df := df } }
      else startTxn k.leg (.relay false) k f { presenceRestart s with
        ti := { (presenceRestart s).ti with slot := .relay k f true, df := df } })) := by
  obtain ⟨df, received⟩ := receive_relay taken good
  refine ⟨df, ?_⟩
  change Host.Outcome.next (settle (boundaries (receive .upper (frameOf hdr kindRelay payload) (takeRelay payload) s))) = _
  rw [received, boundaries_of_relay (k := k) (f := f) (presenceRestart_rest rest) ready _ rfl]
  rfl

end RelayTaken

/-- Settles O35. -/
theorem relaysAndUndefinedCommandsAreJudged : Obligations.RelaysAndUndefinedCommandsAreJudged := by
  unfold Obligations.RelaysAndUndefinedCommandsAreJudged
  refine ⟨fun s l x bytes opened limit dropped found purpose phase attended => ?_, fun hdr s payload taken rest => ⟨fun bad => ?_,
    fun k f good => ⟨relay_waits taken rest good, fun ready held => ?_, fun ready unheld => ?_⟩,
    fun undefined c args shape => ?_, Config.freeByte s.free 0, ?_⟩⟩
  · intro goesOn
    have answers (i : Instr) (u : State) (reply : Option (Frame × List Byte)) (held disregard : Bool)
        (trunk : u.ti.slot = s.ti.slot ∧ u.ti.reply = s.ti.reply ∧ u.ti.upperTx = s.ti.upperTx ∧ u.ti.position = s.ti.position)
        (ran : exec i s = .next (settleAll (concludeTxn l x reply (lineFreed l held disregard u)))) :
        goesOn i u (some (relayPayload reply)) := by
      obtain ⟨slot, place, sending, position⟩ := trunk
      obtain ⟨same, answered⟩ := relayed_of_ending (u := u) (l := l) purpose reply held disregard
      refine ⟨_, ran, same, ?_⟩
      rw [slot, place, sending, position] at answered
      cases dropped with
      | true => exact answered
      | false =>
        intro p isP
        cases isP
        exact answered
    refine ⟨fun f good place => ?_, fun foreign => ?_, ?_, ?_, fun stray => ?_⟩
    · have ran := replyEnd_ends found phase attended bytes
      rw [validReply_of_relay purpose good place] at ran
      exact answers _ s _ false false ⟨rfl, rfl, rfl, rfl⟩ ran
    · have ran := replyEnd_ends found phase attended bytes
      rw [validReply_eq_none foreign] at ran
      exact answers _ s none false false ⟨rfl, rfl, rfl, rfl⟩ ran
    · exact answers _ s none false false ⟨rfl, rfl, rfl, rfl⟩ (lineIdle_ends found phase attended nofun)
    · exact answers _ s none false false ⟨rfl, rfl, rfl, rfl⟩ (lineIdle_ends found phase attended nofun)
    · exact answers _ (reachTime (opened + limit) s) none _ _ ⟨rfl, rfl, rfl, rfl⟩ (windowExpiry_ends found phase attended stray)
  · obtain ⟨t, ran, same, slot, answered, -⟩ := placed_runs (i := .relay hdr payload) rfl taken.1 rfl (by decide)
      (takeRelay_refused (s := presenceRestart s) taken.2.1 taken.2.2 bad) rfl (presenceRestart_rest rest) rfl
    exact ⟨t, ran, same, slot, answered⟩
  · obtain ⟨df, ran⟩ := relay_taken taken rest good ready
    rw [if_pos (show relayHeld s k f = true by unfold relayHeld; rw [decide_eq_true held.1, held.2]; rfl),
      placeDue_eq (w := { presenceRestart s with ti := { (presenceRestart s).ti with slot := .relay k f false, df := df } }) taken.2.2] at ran
    obtain ⟨same, slot, answered, -⟩ := settle_fillPlace (d := relayResult .held)
      (w := { presenceRestart s with ti := { (presenceRestart s).ti with slot := .relay k f false, df := df } })
    exact ⟨_, ran, same, slot, answered⟩
  · obtain ⟨df, ran⟩ := relay_taken taken rest good ready
    rw [if_neg (show ¬ relayHeld s k f = true by
      unfold relayHeld; rw [Bool.and_eq_true, decide_eq_true_eq]; exact unheld)] at ran
    exact ⟨_, ran, settle_slot_of_not_due nofun, quiet_settle _⟩
  · subst shape
    have row : exec (.undefinedCommand hdr (c :: args)) s = .next (settleAll (receiveCommand hdr c args carryUndefined s)) := by
      change Host.Outcome.next (settleAll (receive .upper _ (consumeFrame _) s)) = _
      rw [consumeFrame_undefined undefined]
      rfl
    exact completes_of_refusal_at_rest row taken rest .badArgument [] rfl nofun
  · have consumes : takeUndefined [] (presenceRestart s) = fillPlace
        (commandReply (Config.freeByte s.free 0) [] .badArgument []) (useFree (presenceRestart s)) :=
      takeCommand_free (Config.freeByte s.free 0) [] carryUndefined (useFree (presenceRestart s)) taken.2.1 taken.2.2
    rw [← consumeFrame_undefined (hdr := hdr) (payload := []) rfl] at consumes
    have restOf : LegsAtRest (useFree (presenceRestart s)) :=
      legsAtRest_congr (presenceRestart s) _ rfl rfl (fun _ _ h => h) rfl (presenceRestart_rest rest)
    obtain ⟨t, ran, same, slot, answered, position⟩ := placed_runs (i := .undefinedCommand hdr []) rfl taken.1 rfl (by decide)
      consumes rfl restOf (isReset_eq_false (.inr nofun))
    exact ⟨t, ran, same, by rw [position]; exact answered, slot⟩

end Sys2Proof.Machine
end

section
/-! ALERT and the sweeps it asks for (R13 to R15). -/

namespace Sys2Proof.Machine

open Sys2Proof

section Alerts

variable {s : State} {l : Leg}

/-- A change that leaves its leg with no request to start, on a unit at rest, brings no work. -/
theorem setLeg_busy_rest {f : LegEngine → LegEngine} (rest : LegsAtRest s) (busy : legReady (f (legAt s l)) = false) :
    LegsAtRest (setLeg l f s) := fun k => by
  by_cases own : k = l
  · subst own
    intro ready
    rw [legAt_setLeg, busy] at ready
    cases ready
  · exact setLeg_rest (fun k _ => rest k) k own

theorem alertSeen_iff (arriving : Bool) (e : LegEngine) : alertSeen arriving e = true ↔
    arriving = false ∧ e.alertHeld = false ∧ e.disregard = false ∧ ∀ x, e.txn = some x → x.phase ≠ .sending := by
  have waits (x : Txn) : (windowEnd x).isSome = true ↔ x.phase ≠ .sending := by
    unfold windowEnd
    cases x.phase with
    | sending => exact ⟨nofun, fun h => absurd rfl h⟩
    | window opened limit => exact ⟨nofun, fun _ => rfl⟩
  unfold alertSeen
  cases e.txn with
  | none => simp [and_assoc]
  | some x => simp [and_assoc, waits]

/-- The flags of a recognized ALERT, while rounds run and while they do not. -/
theorem alertFlags_eq (running : Bool) (e : LegEngine) : { (if running then alertFlags e else e) with alertHeld := true } =
    { e with
      alertHeld := true
      alertFlag := e.alertFlag || (running && !e.alertsIgnored && e.sweep.isNone)
      sweepAgain := e.sweepAgain || (running && !e.alertsIgnored && e.sweep.isSome) } := by
  cases running with
  | false => simp
  | true =>
    unfold alertFlags
    rw [if_pos rfl]
    split
    next ignored => simp [ignored]
    next heeded =>
      split
      next idle => simp [heeded, idle, Option.isSome_eq_false_iff.mpr idle]
      next sweeping =>
        have under : e.sweep.isSome = true := Option.isSome_iff_ne_none.mpr fun h => sweeping (by rw [h]; rfl)
        simp [heeded, sweeping, under]

/-- The engine of a leg whose waiting sweep has sent the POLL to its first node. -/
def sweepSent (s : State) (l : Leg) (n : Nat) (rest : List Nat) (e : LegEngine) : LegEngine :=
  { e with
    alertFlag := false, sweepCount := e.sweepCount + 1, sweep := some ⟨n :: rest, 1⟩
    txn := some ⟨.sweep, ⟨l, n⟩, pollFrame s ⟨l, n⟩, .sending⟩ }

theorem beginSweep_eq {b : Bank} {e : LegEngine} {n : Nat} {rest : List Nat} (list : sweepList b l = n :: rest)
    (few : e.sweepCount < 4) : beginSweep b l e =
      { e with alertFlag := false, sweepCount := e.sweepCount + 1, sweep := some ⟨n :: rest, 0⟩ } := by
  have count : heldAt 5 (e.sweepCount + 1) = e.sweepCount + 1 := min_eq_right (by omega)
  have below : decide (e.sweepCount + 1 = 5) = false := decide_eq_false (by omega)
  unfold beginSweep
  simp only [count, below, list, Bool.not_false, Bool.and_true, Bool.or_false]
  rfl

/-- A waiting sweep begins at the boundary of a free leg, with the first node of its list. -/
theorem boundary_sweeps {n : Nat} {rest : List Nat} (ready : legReady (legAt s l) = true) (queue : quadGet s.vs.queues l = [])
    (flag : (legAt s l).alertFlag = true) (none : (legAt s l).sweep = none) (list : sweepList s.ts.active l = n :: rest)
    (few : (legAt s l).sweepCount < 4) :
    boundary l s = { s with le := (boundary l s).le } ∧
      legAt (boundary l s) l = sweepSent s l n rest (legAt s l) := by
  obtain ⟨w, isW⟩ : ∃ w : State, w = { setLeg l (beginSweep s.ts.active l) s with
    le := updateStuck (setLeg l (beginSweep s.ts.active l) s).le } := ⟨_, rfl⟩
  have begun : sweepBegun l s = w := by
    rw [isW]
    exact if_pos ⟨by rw [none]; rfl, flag⟩
  have own : legAt w l = { legAt s l with
      alertFlag := false, sweepCount := (legAt s l).sweepCount + 1, sweep := some ⟨n :: rest, 0⟩ } := by
    rw [isW, ← beginSweep_eq list few]
    exact legAt_setLeg ..
  have frame : w = { s with le := w.le } := by rw [isW]; rfl
  have polled : boundary l s = setLeg l (fun e => { e with sweep := some ⟨n :: rest, 1⟩ })
      (startTxn l .sweep ⟨l, n⟩ (pollFrame w ⟨l, n⟩) w) := by
    unfold boundary boundaryQueue boundarySweep
    rw [if_pos ready, takeHead_eq_none_iff.mpr queue]
    dsimp only
    rw [begun]
    unfold sweepPoll
    rw [own]
    rfl
  rw [polled]
  refine ⟨?_, ?_⟩
  · rw [frame]
    rfl
  · rw [legAt_setLeg, legAt_startTxn, own, frame]
    rfl

/-- The end of a step that has moved the legs alone. -/
theorem quiet_of_legs {u : State} (frame : u = { s with le := u.le }) : quiet (settle u) = quiet { s with le := (settle u).le } := by
  have same := quiet_settle u
  calc quiet (settle u) = { quiet u with le := (quiet (settle u)).le } := by rw [same]
    _ = { quiet s with le := (quiet (settle u)).le } := by rw [frame]; rfl

end Alerts

/-- Settles O49. -/
theorem alertsAskForSweeps : Obligations.AlertsAskForSweeps := by
  unfold Obligations.AlertsAskForSweeps
  refine ⟨fun s h rest => ⟨fun unseen => ⟨_, rfl, ?_⟩, fun seen => ⟨_, rfl, ?_⟩⟩, fun s l rest busy => ⟨_, rfl, ?_⟩,
    fun s l n tail rest free attended flag none queue list few => ⟨_, rfl, ?_⟩⟩
  · have ignored : alertBegins h s = s := if_neg fun recognized => unseen ((alertSeen_iff ..).mp recognized)
    rw [ignored, settleAll_at_rest rest, quiet_settle]
  · have recognized : alertBegins h s = setLeg h.leg (fun e => { e with
        alertHeld := true
        alertFlag := e.alertFlag || (s.rt.running && !e.alertsIgnored && e.sweep.isNone)
        sweepAgain := e.sweepAgain || (s.rt.running && !e.alertsIgnored && e.sweep.isSome) }) s :=
      (if_pos ((alertSeen_iff ..).mpr seen)).trans (setLeg_congr (alertFlags_eq ..))
    rw [recognized, settleAll_at_rest (setLeg_busy_rest rest (by simp [legReady])), quiet_settle]
  · have restOf : LegsAtRest (alertEnds l s) := setLeg_busy_rest rest (by
      rcases busy with sending | disregards
      · rw [legReady, Option.isNone_eq_false_iff.mpr sending]
        rfl
      · rw [legReady, disregards]
        simp)
    rw [settleAll_at_rest restOf, quiet_settle]
    rfl
  · obtain ⟨w, isW⟩ : ∃ w, w = alertEnds l s := ⟨_, rfl⟩
    have own : legAt w l = { legAt s l with alertHeld := false } := by rw [isW]; exact legAt_setLeg ..
    have restOf : ∀ k ≠ l, LegAtRest w k := by rw [isW]; exact setLeg_rest rest
    have ready : legReady (legAt w l) = true := by
      rw [own, legReady, free, attended]
      rfl
    obtain ⟨frame, leg⟩ := boundary_sweeps (s := w) (l := l) (n := n) (rest := tail) ready (by rw [isW]; exact queue)
      (by rw [own]; exact flag) (by rw [own]; exact none) (by rw [isW]; exact list) (by rw [own]; exact few)
    rw [← isW]
    unfold settleAll
    rw [boundaries_of_one restOf]
    refine ⟨?_, ?_, fun k hk => ?_⟩
    · refine quiet_of_legs ?_
      rw [frame, isW]
      rfl
    · rw [settle_legs, leg, own, isW]
      rfl
    · rw [settle_legs, (boundary_step l w).others k hk, isW]
      exact legAt_setLeg_ne _ _ hk

end Sys2Proof.Machine
end

section
/-! The first commit after a reset (R1, R2, R59, R167). -/

namespace Sys2Proof.Machine

open Sys2Proof

section FirstRound

variable {s : State}

/-- A FLOOD judgement moves the flood condition, the incidents, the valves and the exercise. -/
theorem floodMarksChanged_frame (newlySet : Bool) (s : State) : floodMarksChanged newlySet s =
    { s with
      nd := { s.nd with flood := (floodMarksChanged newlySet s).nd.flood }, ie := (floodMarksChanged newlySet s).ie
      vs := (floodMarksChanged newlySet s).vs, xc := (floodMarksChanged newlySet s).xc } := by
  unfold floodMarksChanged
  dsimp only
  split
  · rw [(floodEvent_engine (c := false) _).frame_quietly]
  · rfl

theorem floodAtSwitch_frame (old : List (NodeKey × NodeRun)) (s : State) : floodAtSwitch old s =
    { s with
      nd := { s.nd with flood := (floodAtSwitch old s).nd.flood }, ie := (floodAtSwitch old s).ie
      vs := (floodAtSwitch old s).vs, xc := (floodAtSwitch old s).xc } := by
  unfold floodAtSwitch
  split
  · rw [floodMarksChanged_frame]
  · rfl

/-- With the controller present, a bank switch moves no more of the trunk than the ROUND SUMMARY that is due. -/
theorem judgeAbsence_present (timer : s.ti.presenceTimer = 0) (found : s.ti.lost.active = false) : judgeAbsence s = s := by
  unfold judgeAbsence
  dsimp only
  rw [timer, if_neg (Nat.not_lt_zero _), if_neg (by rw [found]; nofun)]

/-- What a bank switch moves beside what it carries over. -/
structure Installed (s t : State) : Prop where
  frame : t = { carryOver s with nd := t.nd, ie := t.ie, vs := t.vs, xc := t.xc }
  nodes : t.nd = { (carryOver s).nd with flood := t.nd.flood }

theorem Installed.refl : Installed s (carryOver s) := by
  refine ⟨?_, ?_⟩ <;> generalize carryOver s = w <;> cases w <;> rfl

theorem Installed.step {t u : State} (h : Installed s t)
    (frame : u = { t with nd := { t.nd with flood := u.nd.flood }, ie := u.ie, vs := u.vs, xc := u.xc }) : Installed s u := by
  have nodes := h.nodes
  refine ⟨?_, ?_⟩
  · rw [h.frame] at frame
    rw [frame]
  · rw [frame]
    dsimp only
    rw [nodes]

theorem Installed.quietly {t u : State} (h : Installed s t) (acts : Engine false t u) : Installed s u :=
  have nd : u.nd = t.nd := by rw [acts.frame_quietly]
  h.step (by rw [nd]; exact acts.frame_quietly)

/-- The state of a bank switch before absence is judged against the new limit. -/
def bankAdjusted (s : State) : State :=
  let s3 := floodAtSwitch s.nd.nodes (adjustIncidents (carryOver s))
  if (settings s3).autoHeader && !(settings s).autoHeader then policyAgain s3 else s3

theorem installBank_eq (s : State) : installBank s = judgeAbsence (bankAdjusted s) := rfl

theorem bankAdjusted_installed (s : State) : Installed s (bankAdjusted s) := by
  have adjusted : Installed s (adjustIncidents (carryOver s)) :=
    Installed.quietly Installed.refl (adjustIncidents_engine _)
  have flooded : Installed s (floodAtSwitch s.nd.nodes (adjustIncidents (carryOver s))) :=
    adjusted.step (floodAtSwitch_frame ..)
  unfold bankAdjusted
  dsimp only
  split
  · exact flooded.quietly (policyAgain_engine _)
  · exact flooded

theorem installBank_installed (timer : s.ti.presenceTimer = 0) (found : s.ti.lost.active = false) :
    Installed s (installBank s) := by
  have again := bankAdjusted_installed s
  rw [installBank_eq, judgeAbsence_present]
  · exact again
  · rw [again.frame]; exact timer
  · rw [again.frame]; exact found

/-- The unit with its rounds running from now. -/
def roundsRunning (s : State) : State := { s with rt := { s.rt with running := true, start := some s.clock } }

/-- The state from which round 0 is prepared, once the bank has been installed. -/
def bankNoted (w : State) : State := firstMeters { w with ts := { w.ts with outcome := .switched w.rt.number } }

theorem firstRound_eq (s : State) : firstRound s = closeIfDone (roundPrepared (bankNoted (installBank (roundsRunning s)))) := rfl

theorem closeIfDone_frame (s : State) : closeIfDone s = { s with rt := (closeIfDone s).rt } := by
  unfold closeIfDone
  split <;> rfl

/-- What the first commit after a reset leaves. -/
structure FirstBegun (s t : State) : Prop where
  others : t = { s with
    rt := t.rt, le := t.le, nd := t.nd, fa := t.fa, de := t.de, ie := t.ie, vs := t.vs, xc := t.xc, ts := t.ts
    ti := { s.ti with summaryDue := t.ti.summaryDue } }
  tables : t.ts = { s.ts with
    active := s.ts.staging, activeFlag := true, commitPending := false, outcome := .switched s.rt.number }
  running : t.rt.running = true
  number : t.rt.number = s.rt.number
  start : t.rt.start = some s.clock
  period : t.rt.period = some (settingsOf s.ts.staging).period
  pollLists : ∀ l, (legAt t l).pollList = (legNodes s.ts.staging l).map (·.1)
  supply : t.fa.supplyMeter = { s.fa.supplyMeter with snapshot := some s.fa.supplyMeter.count, countError := false }
  ret : t.fa.returnMeter = { s.fa.returnMeter with snapshot := some s.fa.returnMeter.count, countError := false }

theorem firstRound_begun (timer : s.ti.presenceTimer = 0) (found : s.ti.lost.active = false) : FirstBegun s (firstRound s) := by
  have installed := installBank_installed (s := roundsRunning s) timer found
  have same := installBank_sameRound (roundsRunning s)
  obtain ⟨w, isW⟩ : ∃ w, w = installBank (roundsRunning s) := ⟨_, rfl⟩
  rw [← isW] at installed same
  have prepared : Prepared (bankNoted w) (firstRound s) := by
    rw [firstRound_eq, ← isW]
    exact (roundPrepared_prepared _).closeIfDone
  have meters : w.fa.supplyMeter = s.fa.supplyMeter ∧ w.fa.returnMeter = s.fa.returnMeter := by
    rw [installed.frame]
    exact ⟨rfl, rfl⟩
  have fa : (firstRound s).fa = (bankNoted w).fa := by
    rw [firstRound_eq, ← isW, closeIfDone_frame]
    rfl
  have tables : (firstRound s).ts = { s.ts with
      active := s.ts.staging, activeFlag := true, commitPending := false, outcome := .switched s.rt.number } := by
    rw [prepared.tables]
    change { w.ts with outcome := CommitOutcome.switched w.rt.number } = _
    rw [same.tables, same.timer]
    rfl
  have timed := prepared.timer
  rw [show (bankNoted w).rt = (roundsRunning s).rt from same.timer] at timed
  refine ⟨?_, tables, ?_, ?_, ?_, ?_, fun l => ?_, ?_, ?_⟩
  · have frame : firstRound s = { w with
        rt := (firstRound s).rt, le := (firstRound s).le, fa := (firstRound s).fa, ts := (firstRound s).ts } := by
      rw [firstRound_eq, ← isW, closeIfDone_frame]
      rfl
    rw [installed.frame] at frame
    generalize firstRound s = t at frame ⊢
    rw [frame]
    rfl
  · rw [timed]; rfl
  · rw [timed]; rfl
  · rw [timed]; rfl
  · rw [timed]
    change some (settingsOf w.ts.active).period = _
    rw [same.tables]
    rfl
  · rw [prepared.pollList, tables]
  · rw [fa]
    change firstMeter w.fa.supplyMeter = _
    rw [meters.1]
    rfl
  · rw [fa]
    change firstMeter w.fa.returnMeter = _
    rw [meters.2]
    rfl

end FirstRound

/-- The end of the step that the first commit comes with. -/
theorem quiet_of_firstRound {s u w t : State} (begun : FirstBegun s u) (frame : w = { u with ti := w.ti })
    (trunk : quietTrunk w.ti = quietTrunk u.ti) (settled : t = settleAll w) : quiet t = quiet { s with
      rt := t.rt, le := t.le, nd := t.nd, fa := t.fa, de := t.de, ie := t.ie, vs := t.vs, xc := t.xc, ts := t.ts } := by
  have same := quiet_settleAll w
  rw [← settled] at same
  have sides : quiet t = { quiet u with le := (quiet t).le, vs := (quiet t).vs } := by
    rw [same, frame]
    change { quiet u with le := (quiet t).le, vs := (quiet t).vs, ti := quietTrunk w.ti } = _
    rw [trunk]
    rfl
  clear same
  rw [show quiet { s with
      rt := t.rt, le := t.le, nd := t.nd, fa := t.fa, de := t.de, ie := t.ie, vs := t.vs, xc := t.xc, ts := t.ts } =
    { quiet s with
      rt := (quiet t).rt, le := (quiet t).le, nd := (quiet t).nd, fa := (quiet t).fa, de := (quiet t).de, ie := (quiet t).ie
      vs := (quiet t).vs, xc := (quiet t).xc, ts := (quiet t).ts } from rfl]
  generalize quiet t = q at sides ⊢
  rw [sides, begun.others]
  rfl

/-- Settles O30. -/
theorem firstCommitStartsTheRounds : Obligations.FirstCommitStartsTheRounds := by
  unfold Obligations.FirstCommitStartsTheRounds
  intro hdr s b taken free idle unpending accepted stopped
  have takenOf : Taken (withService b s) hdr := taken
  have unforbidden : guardForbids (presenceRestart (withService b s)) = false :=
    (guardForbids_eq _).trans (Bool.not_eq_true _ ▸ free)
  have found : (presenceRestart (withService b s)).ti.lost.active = false := by
    change (if s.ti.lost.active then settleClear s.ti.lost else s.ti.lost).active = false
    split
    · rfl
    next h => exact Bool.not_eq_true _ ▸ h
  have begun := firstRound_begun (s := presenceRestart (withService b s)) rfl found
  have carried : carryCommit (presenceRestart (withService b s)) = (firstRound (presenceRestart (withService b s)), .ok, []) :=
    (carryCommit_accepted unforbidden (not_or.mpr ⟨not_not_intro idle, by change ¬ s.ts.commitPending = true; rw [unpending]; nofun⟩)
      accepted).trans (if_neg (by change ¬ s.rt.running = true; rw [stopped]; nofun))
  obtain ⟨u, isU⟩ : ∃ u, u = firstRound (presenceRestart (withService b s)) := ⟨_, rfl⟩
  rw [← isU] at begun carried
  obtain ⟨t, w, ran, isT, frame, trunk, replied⟩ := carried_settles (c := .commit hdr b) (code := codeCommit) (args := []) rfl takenOf
    carried (by rw [begun.others]; exact taken.2.2) (by rw [begun.others]; rfl) (.inl (by decide)) rfl
  have timer := (settleAll_rt w).1
  rw [← isT] at timer
  have wrt : w.rt = u.rt := by rw [frame]
  have ts : t.ts = u.ts := by
    rw [isT, settleAll_ts, frame]
  have meters := congrArg (fun v : State => (v.fa.supplyMeter, v.fa.returnMeter)) (quiet_settleAll w)
  have fa : (t.fa.supplyMeter, t.fa.returnMeter) = (u.fa.supplyMeter, u.fa.returnMeter) := by
    rw [isT]
    refine meters.trans ?_
    rw [frame]
    rfl
  obtain ⟨supply, ret⟩ := Prod.mk.inj fa
  refine ⟨t, ran, replied, quiet_of_firstRound begun frame trunk isT, ts.trans begun.tables, ?_, ?_, ?_, ?_, fun l => ?_,
    supply.trans begun.supply, ret.trans begun.ret⟩
  · rw [timer, wrt]; exact begun.running
  · rw [timer, wrt]; exact begun.number
  · rw [timer, wrt]; exact begun.start
  · rw [timer, wrt]; exact begun.period
  · have steady := congrArg LegEngine.pollList (settleAll_steady l w)
    rw [← isT] at steady
    refine steady.trans (Eq.trans ?_ (begun.pollLists l))
    rw [frame]
    rfl

end Sys2Proof.Machine
end

section
/-! DROP REPORTs (R77, R78). -/

namespace Sys2Proof.Machine

open Sys2Proof

/-! ### Credit (R74) -/

section Credit

variable {s : State} {k : RowKey} {round : Half} {cs : List (BranchId × Nat)}

theorem creditBranches_rows (round : Half) (cs : List (BranchId × Nat)) (s : State) :
    (cs.foldl (fun s p => creditBranch round p s) s).de.rows = s.de.rows := by
  induction cs generalizing s with
  | nil => rfl
  | cons p cs ih => exact ih _

theorem creditBranches_other {x : BranchId} (other : x ∉ cs.map (·.1)) (s : State) :
    assocGet x (cs.foldl (fun s p => creditBranch round p s) s).de.branches = assocGet x s.de.branches := by
  induction cs generalizing s with
  | nil => rfl
  | cons p cs ih =>
    rw [List.map_cons, List.mem_cons, not_or] at other
    exact (ih other.2 _).trans (assocGet_assocMap_ne _ _ other.1)

/-- A candidate named once gains its weight, the score held at 255. -/
theorem creditBranches_score (once : (cs.map (·.1)).Nodup) {c : BranchId × Nat} (named : c ∈ cs) {d : BranchDrip}
    (found : assocGet c.1 s.de.branches = some d) :
    ∃ d', assocGet c.1 (cs.foldl (fun s p => creditBranch round p s) s).de.branches = some d' ∧
      d'.score = min 255 (d.score + c.2) := by
  induction cs generalizing s with
  | nil => cases named
  | cons p cs ih =>
    rw [List.map_cons, List.nodup_cons] at once
    rcases List.mem_cons.mp named with rfl | later
    · refine ⟨_, (creditBranches_other once.1 _).trans ((assocGet_assocMap ..).trans (congrArg _ found)), rfl⟩
    · have differs : c.1 ≠ p.1 := fun same => once.1 (by rw [← same]; exact List.mem_map_of_mem later)
      exact ih once.2 later ((assocGet_assocMap_ne _ _ differs).trans found)

/-- The credit of a row in the current round, before its credit event. -/
def rowCredited (k : RowKey) (cs : List (BranchId × Nat)) (s : State) : State :=
  setRow k (fun r => { r with credited := addMark s.rt.number r.credited })
    (cs.foldl (fun u p => creditBranch s.rt.number p u) s)

theorem creditRow_again {run : RowRun} (found : assocGet k s.de.rows = some run) (again : s.rt.number ∈ run.credited) :
    creditRow k s = s := by
  unfold creditRow
  split
  next stored =>
    rw [found] at stored
    cases stored
    exact if_pos again
  · rfl

/-- The first credit of a row in a round: its candidates gain, the row is marked, and the credit event may open or join an
incident. -/
theorem creditRow_first {index : Nat} {row : RowRec} {run : RowRun} (entry : rowByKey s.ti.position s.ts.active k = some (index, row))
    (found : assocGet k s.de.rows = some run) (first : s.rt.number ∉ run.credited) : creditRow k s =
      { s with
        de := (rowCredited k (rowCandidates s.ts.active row) s).de, ie := (creditRow k s).ie, vs := (creditRow k s).vs
        xc := (creditRow k s).xc } := by
  obtain ⟨w, isW⟩ : ∃ w, w = rowCredited k (rowCandidates s.ts.active row) s := ⟨_, rfl⟩
  have frame : w = { s with de := w.de } := by
    rw [isW, rowCredited, creditBranches_frame]
    rfl
  have credited : creditRow k s =
      creditEvent k index ((rowCandidates s.ts.active row).map fun p => (p.1, scoreOf w p.1)) w := by
    unfold creditRow
    rw [entry, found, isW]
    exact if_neg first
  have acts : Engine false w (creditRow k s) := by
    rw [credited]
    refine creditEvent_engine _ _ _ _ ⟨(index, row), ?_, ?_⟩
    · rw [frame]
      exact List.mem_of_find?_eq_some entry
    · rw [List.length_map]
      exact rowCandidates_length ..
  have quietly := acts.frame_quietly
  rw [← isW]
  generalize creditRow k s = t at quietly ⊢
  rw [frame] at quietly
  exact quietly

/-- What a row's credit leaves: the row marked, its candidates' scores raised once a round, and its credit event. -/
theorem creditRow_credits {index : Nat} {row : RowRec} {run : RowRun} (entry : rowByKey s.ti.position s.ts.active k = some (index, row))
    (found : assocGet k s.de.rows = some run) :
    creditRow k s = { s with de := (creditRow k s).de, ie := (creditRow k s).ie, vs := (creditRow k s).vs, xc := (creditRow k s).xc } ∧
      assocGet k (creditRow k s).de.rows = some { run with credited := addMark s.rt.number run.credited } ∧
      (((rowCandidates s.ts.active row).map (·.1)).Nodup → ∀ c ∈ rowCandidates s.ts.active row, ∀ d,
        assocGet c.1 s.de.branches = some d → ∃ d', assocGet c.1 (creditRow k s).de.branches = some d' ∧
          d'.score = if s.rt.number ∈ run.credited then d.score else min 255 (d.score + c.2)) := by
  by_cases again : s.rt.number ∈ run.credited
  · rw [creditRow_again found again, addMark, if_pos again]
    exact ⟨rfl, found, fun _ c _ d stored => ⟨d, stored, (if_pos again).symm⟩⟩
  · have frame := creditRow_first entry found again
    have drips : (creditRow k s).de = (rowCredited k (rowCandidates s.ts.active row) s).de := by rw [frame]
    refine ⟨by rw [drips]; exact frame, ?_, fun once c named d stored => ?_⟩
    · rw [drips]
      change assocGet k (assocMap k _ (List.foldl _ s _).de.rows) = _
      rw [assocGet_assocMap, creditBranches_rows, found]
      rfl
    · rw [drips, if_neg again]
      exact creditBranches_score once named stored

end Credit

/-! ### Acceptance (R77) -/

section Acceptance

variable {s : State} {src node : Byte}

/-- A DROP REPORT from the unit `src` about its node `node` is accepted. -/
def Accepted (s : State) (src node : Byte) : Prop :=
  s.ts.activeFlag = true ∧ 1 ≤ src.toNat ∧ src.toNat ≤ 4 ∧ s.ti.position ≠ some src.toNat ∧ node.toNat ≤ 119 ∧
    (rowByKey s.ti.position s.ts.active ⟨src.toNat, node.toNat⟩).isSome = true

/-- A row's record as an accepted report leaves it. -/
def rowMarked (round : Half) (r : RowRun) : RowRun :=
  { r with evidence := addMark round r.evidence, staleRun := 0, stale := false }

theorem dropReport_short {payload : List Byte} (h : ∀ node drops onset level stamp, payload ≠ [node, drops, onset, level, stamp]) :
    dropReport src payload s = s := by
  unfold dropReport
  split
  · exact absurd rfl (h _ _ _ _ _)
  · rfl

theorem dropReport_discarded {drops onset level stamp : Byte} (h : ¬ Accepted s src node) :
    dropReport src [node, drops, onset, level, stamp] s = s := if_neg h

/-- An accepted report without activity marks its row. -/
theorem dropReport_inactive {level stamp : Byte} (h : Accepted s src node) :
    dropReport src [node, 0, 0, level, stamp] s = setRow ⟨src.toNat, node.toNat⟩ (rowMarked s.rt.number) s :=
  if_pos h

/-- An accepted report with activity also starts its row's tail and credits it. -/
theorem dropReport_active {drops onset level stamp : Byte} (h : Accepted s src node) (active : drops ≠ 0 ∨ onset = 1) :
    ∃ u, u = (if (flagOf onset).isNone then useFree s else s) ∧ dropReport src [node, drops, onset, level, stamp] s =
      creditRow ⟨src.toNat, node.toNat⟩
        (setRow ⟨src.toNat, node.toNat⟩ (fun r => { rowMarked s.rt.number r with tail := .inside 0 }) u) := by
  have acts : 1 ≤ drops.toNat ∨ onsetOf s.free onset = true := by
    refine active.imp (fun some => ?_) fun one => by rw [one]; rfl
    exact Nat.one_le_iff_ne_zero.mpr fun zero => some (BitVec.eq_of_toNat_eq zero)
  have twice (k : RowKey) (f g : RowRun → RowRun) (u : State) : setRow k f (setRow k g u) = setRow k (fun r => f (g r)) u := by
    unfold setRow
    dsimp only
    congr 2
    induction u.de.rows with
    | nil => rfl
    | cons p rest ih =>
      by_cases own : p.1 = k
      · simp only [assocMap, if_pos own]
      · simp only [assocMap, if_neg own, ih]
  refine ⟨_, rfl, ?_⟩
  refine (if_pos h).trans ((if_pos acts).trans ?_)
  rw [twice]
  rfl

/-- A DROP REPORT for this unit is consumed at either port. -/
theorem receive_dropReport {port : Port} {hdr : Header} {p : Nat} {payload : List Byte} (consume : State → State)
    (position : s.ti.position = some p) (small : p ≤ 4) (dest : hdr.dest = byte p) (receives : port = .upper → s.ti.upperBreak = false) :
    receive port (frameOf hdr kindDropReport payload) consume s = consume (heard port s) := by
  have here : hdr.dest.toNat = p := by rw [dest, byte_toNat (by omega)]
  have one : hdr.dest ≠ 255#8 := fun h => by
    have all : hdr.dest.toNat = 255 := by rw [h]; rfl
    omega
  have route : routeOf s.ti port kindDropReport hdr.dest = .consumed := by
    cases port with
    | upper => simp [routeOf, routeUpper, receives rfl, position, here, upwardKind, kindDropReport, kindReply, kindRelayReply,
        kindIncidentReport, kindCoolingNotice, kindUnitCondition, kindRoundSummary, kindMirror, kindNumber]
    | lower => simp [routeOf, routeLower, position, here, one, downwardKind, kindDropReport, kindNumber, kindCommand, kindRelay]
  unfold receive
  rw [show routeOf s.ti port (frameOf hdr kindDropReport payload).kind (frameOf hdr kindDropReport payload).dest = .consumed from route]

/-- The DROP REPORT a row answers to, spelt by its key. -/
theorem accepted_of_key {p : Nat} {k : RowKey} (position : s.ti.position = some p) (active : s.ts.activeFlag = true)
    (unit : k.unit = src.toNat) (low : 1 ≤ k.unit) (high : k.unit ≤ 4) (other : k.unit ≠ p) (inside : k.node ≤ 119)
    (row : (rowByKey (some p) s.ts.active k).isSome = true) (isNode : node = byte k.node) :
    Accepted s src node ∧ (⟨src.toNat, node.toNat⟩ : RowKey) = k := by
  have here : node.toNat = k.node := by rw [isNode, byte_toNat (by omega)]
  have isKey : (⟨src.toNat, node.toNat⟩ : RowKey) = k := by rw [← unit, here]
  refine ⟨⟨active, by omega, by omega, ?_, by omega, ?_⟩, isKey⟩
  · rw [position, ← unit]
    exact fun same => other (Option.some.inj same).symm
  · rw [isKey, position]
    exact row

end Acceptance

/-- The end of a step whose work moved a row's credit and what its event brings. -/
theorem quiet_of_credit {s t w : State} (same : quiet t = quiet { w with le := t.le, vs := t.vs })
    (frame : w = { s with de := w.de, ie := w.ie, vs := w.vs, xc := w.xc, free := w.free }) :
    quiet t = quiet { s with le := t.le, de := t.de, ie := t.ie, vs := t.vs, xc := t.xc } := by
  rw [show quiet { s with le := t.le, de := t.de, ie := t.ie, vs := t.vs, xc := t.xc } =
    { quiet s with le := (quiet t).le, de := (quiet t).de, ie := (quiet t).ie, vs := (quiet t).vs, xc := (quiet t).xc } from rfl,
    same, frame]
  rfl

/-- Settles O52. -/
theorem dropReportsReachTheirRow : Obligations.DropReportsReachTheirRow := by
  unfold Obligations.DropReportsReachTheirRow
  intro s port hdr p payload position small dest receives rest
  have heardPosition : (heard port s).ti.position = some p := by cases port <;> exact position
  have heardTables : (heard port s).ts = s.ts := by cases port <;> rfl
  have heardDrips : (heard port s).de = s.de := by cases port <;> rfl
  have heardRound : (heard port s).rt = s.rt := by cases port <;> rfl
  have heardRest : LegsAtRest (heard port s) := (heard_calm port s).rest rest
  have row : exec (.dropReportReceived port hdr payload) s = .next (settleAll (dropReport hdr.src payload (heard port s))) := by
    change Host.Outcome.next (settleAll (receive port _ _ s)) = _
    rw [receive_dropReport _ position small dest receives]
  obtain ⟨u, isU⟩ : ∃ u, u = heard port s := ⟨_, rfl⟩
  rw [← isU] at heardPosition heardTables heardDrips heardRound heardRest row ⊢
  intro key marked
  have accepted (k : RowKey) (isKey : key k) (active : s.ts.activeFlag = true) {node drops onset level stamp : Byte}
      (shape : payload = [node, drops, onset, level, stamp]) : Accepted u hdr.src node ∧ (⟨hdr.src.toNat, node.toNat⟩ : RowKey) = k := by
    obtain ⟨_, _, _, _, spelt, unit, low, high, other, inside, found⟩ := isKey
    rw [shape] at spelt
    injection spelt with isNode
    exact accepted_of_key heardPosition (by rw [heardTables]; exact active) unit low high other inside
      (by rw [heardTables]; exact found) isNode
  refine ⟨fun refused => ⟨_, row, ?_⟩, fun k node level stamp active isKey shape => ⟨_, row, ?_⟩,
    fun k node drops onset level stamp run active isKey shape acts found => ?_⟩
  · have discarded : dropReport hdr.src payload u = u := by
      by_cases short : ∀ node drops onset level stamp, payload ≠ [node, drops, onset, level, stamp]
      · exact dropReport_short short
      · push Not at short
        obtain ⟨node, drops, onset, level, stamp, shape⟩ := short
        rw [shape]
        refine dropReport_discarded fun ⟨active, low, high, other, inside, entry⟩ => ?_
        rw [heardTables] at active
        refine refused.elim (fun none => by rw [none] at active; cases active) fun noKey => noKey ⟨hdr.src.toNat, node.toNat⟩ ?_
        rw [heardPosition, heardTables] at entry
        refine ⟨drops, onset, level, stamp, ?_, rfl, low, high, fun same => other (by rw [heardPosition, ← same]), inside, entry⟩
        rw [shape]
        congr 1
        exact (BitVec.eq_of_toNat_eq (byte_toNat (by omega))).symm
    rw [discarded, settleAll_at_rest heardRest, quiet_settle]
  · obtain ⟨isAccepted, isRow⟩ := accepted k isKey active shape
    have restOf : LegsAtRest (setRow k (rowMarked u.rt.number) u) :=
      legsAtRest_congr u _ rfl rfl (fun _ _ h => h) rfl heardRest
    rw [shape, dropReport_inactive isAccepted, isRow, settleAll_at_rest restOf, quiet_settle, ← heardDrips]
    rw [show rowMarked u.rt.number = rowMarked s.rt.number by rw [heardRound]]
    rfl
  · obtain ⟨isAccepted, isRow⟩ := accepted k isKey active shape
    obtain ⟨v, isV, reported⟩ := dropReport_active (level := level) (stamp := stamp) isAccepted acts
    rw [shape, reported, isRow, heardRound] at row
    obtain ⟨w, isW⟩ : ∃ w, w = setRow k (fun r => { rowMarked s.rt.number r with tail := .inside 0 }) v := ⟨_, rfl⟩
    rw [← isW, ← shape] at row
    have opened : v = { u with free := v.free } := by
      rw [isV]
      split <;> rfl
    have frame : w = { u with de := w.de, free := v.free } := by
      rw [isW, opened]
      rfl
    have tables : w.ts = s.ts := by rw [frame]; exact heardTables
    have round : w.rt = s.rt := by rw [frame]; exact heardRound
    have where_ : w.ti.position = some p := by rw [frame]; exact heardPosition
    have branches : w.de.branches = s.de.branches := by
      rw [isW, opened]
      change u.de.branches = _
      rw [heardDrips]
    have marks : assocGet k w.de.rows = some { rowMarked s.rt.number run with tail := .inside 0 } := by
      rw [isW, opened]
      change assocGet k (assocMap k _ u.de.rows) = _
      rw [assocGet_assocMap, heardDrips, found]
      rfl
    obtain ⟨⟨index, record⟩, entry⟩ : ∃ e, rowByKey w.ti.position w.ts.active k = some e := by
      rw [where_, tables]
      obtain ⟨_, _, _, _, _, _, _, _, _, _, isRow⟩ := isKey
      exact Option.isSome_iff_exists.mp isRow
    obtain ⟨moved, rows, scores⟩ := creditRow_credits entry marks
    have same := quiet_settleAll (creditRow k w)
    have drips := congrArg (fun x : State => (x.de.rows, x.de.branches)) same
    obtain ⟨sameRows, sameBranches⟩ := Prod.mk.inj drips
    refine ⟨_, _, row, (congrArg (assocGet k) sameRows).trans rows, ?_, ?_, fun j r named once c candidate d stored => ?_⟩
    · refine quiet_of_credit same ?_
      rw [moved, frame]
    · rw [round]
      rfl
    · rw [where_, tables, named] at entry
      cases entry
      rw [tables, branches, round] at scores
      obtain ⟨d', kept, score⟩ := scores once c candidate d stored
      exact ⟨d', (congrArg (assocGet c.1) sameBranches).trans kept, score⟩

end Sys2Proof.Machine
end

section
/-! Valves that no Action Queue holds: what the legs, the queues and the tests of other valves leave of such a record
(sections 6.3 and 7.3), and the timers of strokes and of absence (sections 6.5 and 9.7). -/

namespace Sys2Proof.Machine

open Sys2Proof

/-! ### A valve that waits in no queue -/

/-- No Action Queue and no deferral order of the valve block holds `k`. -/
def Aside (k : NodeKey) (v : ValveBlock) : Prop :=
  ∀ l, (∀ e ∈ quadGet v.queues l, e.key ≠ k) ∧ k ∉ quadGet v.deferred l

/-- From `v` to `w` a valve that waits in no queue keeps its record, and still waits in none. -/
structure Unmoved (k : NodeKey) (v w : ValveBlock) : Prop where
  keeps : Aside k v → valveAt w k = valveAt v k ∧ Aside k w

section Unmoved

variable {k j : NodeKey} {v w x : ValveBlock}

theorem Unmoved.refl : Unmoved k v v := ⟨fun aside => ⟨rfl, aside⟩⟩

theorem Unmoved.trans (h : Unmoved k v w) (h' : Unmoved k w x) : Unmoved k v x where
  keeps aside :=
    have ⟨same, still⟩ := h.keeps aside
    have ⟨same', still'⟩ := h'.keeps still
    ⟨same'.trans same, still'⟩

theorem Unmoved.after (h' : Unmoved k w x) (h : Unmoved k v w) : Unmoved k v x := h.trans h'

theorem setValve_unmoved (f : ValveRec → ValveRec) (v : ValveBlock) (other : j ≠ k) : Unmoved k v (setValve j f v) :=
  ⟨fun aside => ⟨valveAt_setValve_ne f v other.symm, aside⟩⟩

/-- The record of a valve is found, and a change that makes of it what another makes is that other. -/
theorem setValve_congr {f g : ValveRec → ValveRec} (h : ∀ r, valveAt v k = some r → f r = g r) :
    setValve k f v = setValve k g v := by
  have same : ∀ m : List (NodeKey × ValveRec), (∀ r, assocGet k m = some r → f r = g r) → assocMap k f m = assocMap k g m := by
    intro m
    induction m with
    | nil => exact fun _ => rfl
    | cons p m ih =>
      intro hm
      unfold assocMap
      unfold assocGet at hm
      split
      next found => rw [hm p.2 (if_pos found)]
      next other =>
        rw [if_neg other] at hm
        rw [ih hm]
  unfold setValve
  rw [same v.valves h]

/-- No entry of leg `m` holds `k`. -/
def AsideOn (m : Leg) (k : NodeKey) (v : ValveBlock) : Prop :=
  (∀ e ∈ quadGet v.queues m, e.key ≠ k) ∧ k ∉ quadGet v.deferred m

/-- From `v` to `w` the queue and the deferral order of leg `m` alone have moved, and a valve in neither of them keeps its
record and is in neither afterwards. -/
structure OnLeg (m : Leg) (k : NodeKey) (v w : ValveBlock) : Prop where
  keeps : AsideOn m k v → valveAt w k = valveAt v k ∧ AsideOn m k w
  others : ∀ l ≠ m, quadGet w.queues l = quadGet v.queues l ∧ quadGet w.deferred l = quadGet v.deferred l

theorem OnLeg.refl {m : Leg} : OnLeg m k v v := ⟨fun aside => ⟨rfl, aside⟩, fun _ _ => ⟨rfl, rfl⟩⟩

theorem OnLeg.trans {m : Leg} (h : OnLeg m k v w) (h' : OnLeg m k w x) : OnLeg m k v x where
  keeps aside :=
    have ⟨same, still⟩ := h.keeps aside
    have ⟨same', still'⟩ := h'.keeps still
    ⟨same'.trans same, still'⟩
  others l hl :=
    have ⟨queue, order⟩ := h.others l hl
    have ⟨queue', order'⟩ := h'.others l hl
    ⟨queue'.trans queue, order'.trans order⟩

theorem OnLeg.unmoved {m : Leg} (h : OnLeg m k v w) : Unmoved k v w := by
  refine ⟨fun aside => ⟨(h.keeps (aside m)).1, fun l => ?_⟩⟩
  by_cases same : l = m
  · rw [same]
    exact (h.keeps (aside m)).2
  · obtain ⟨queue, order⟩ := h.others l same
    rw [queue, order]
    exact aside l

theorem setValve_onLeg (m : Leg) (f : ValveRec → ValveRec) (v : ValveBlock) (other : j ≠ k) : OnLeg m k v (setValve j f v) :=
  ⟨fun aside => ⟨valveAt_setValve_ne f v other.symm, aside⟩, fun _ _ => ⟨rfl, rfl⟩⟩

/-- A queue changed so that it holds no more of `k` moves no record. -/
theorem setQueue_onLeg (m : Leg) (q : List ActionEntry) (v : ValveBlock)
    (h : (∀ e ∈ quadGet v.queues m, e.key ≠ k) → ∀ e ∈ q, e.key ≠ k) :
    OnLeg m k v { v with queues := quadSet v.queues m q } :=
  ⟨fun aside => ⟨rfl, by unfold AsideOn; rw [quadGet_quadSet]; exact ⟨h aside.1, aside.2⟩⟩,
    fun _ hl => ⟨quadGet_quadSet_ne _ _ hl, rfl⟩⟩

/-- So does a deferral order. -/
theorem setDeferred_onLeg (m : Leg) (d : List NodeKey) (v : ValveBlock) (h : k ∉ quadGet v.deferred m → k ∉ d) :
    OnLeg m k v { v with deferred := quadSet v.deferred m d } :=
  ⟨fun aside => ⟨rfl, by unfold AsideOn; rw [quadGet_quadSet]; exact ⟨aside.1, h aside.2⟩⟩,
    fun _ hl => ⟨rfl, quadGet_quadSet_ne _ _ hl⟩⟩

theorem refillOnce_onLeg (l : Leg) (v : ValveBlock) : OnLeg l k v (refillOnce l v) := by
  refine ⟨fun aside => ?_, ?_⟩
  · unfold refillOnce
    split
    · split
      · exact ⟨rfl, aside⟩
      next j rest waiting =>
        have other : j ≠ k := fun same => aside.2 (by rw [waiting, same]; exact List.mem_cons_self)
        have shorter : OnLeg l k v { v with deferred := quadSet v.deferred l rest } :=
          setDeferred_onLeg l rest v fun out inside => out (by rw [waiting]; exact List.mem_cons_of_mem _ inside)
        dsimp only
        split
        next r _ =>
          split
          next t _ =>
            have queued := setQueue_onLeg (k := k) l (quadGet v.queues l ++ [⟨j, t, r.tag⟩])
              { v with deferred := quadSet v.deferred l rest } fun out e inside => by
                rcases List.mem_append.mp inside with old | new
                · exact out e old
                · rw [List.mem_singleton.mp new]
                  exact other
            exact ((shorter.trans queued).trans (setValve_onLeg _ _ _ other)).keeps aside
          · exact shorter.keeps aside
        · exact shorter.keeps aside
    · exact ⟨rfl, aside⟩
  · intro m hm
    unfold refillOnce
    split
    · split
      · exact ⟨rfl, rfl⟩
      · dsimp only
        split
        · split
          · exact ⟨quadGet_quadSet_ne _ _ hm, quadGet_quadSet_ne _ _ hm⟩
          · exact ⟨rfl, quadGet_quadSet_ne _ _ hm⟩
        · exact ⟨rfl, quadGet_quadSet_ne _ _ hm⟩
    · exact ⟨rfl, rfl⟩

theorem refill_onLeg (l : Leg) (n : Nat) (v : ValveBlock) : OnLeg l k v (refill l n v) := by
  induction n generalizing v with
  | zero => exact .refl
  | succ n ih => exact (refillOnce_onLeg l v).trans (ih _)

theorem placeCommand_onLeg (t : ValveTarget) (tag : Byte) (v : ValveBlock) (other : j ≠ k) :
    OnLeg j.leg k v (placeCommand j t tag v) := by
  have placed (w : ValveBlock) (p : StrokePhase) (h : OnLeg j.leg k v w) :
      OnLeg j.leg k v (setValve j (fun r => { r with phase := p }) w) := h.trans (setValve_onLeg _ _ w other)
  simp only [placeCommand]
  split
  · refine placed _ _ (setQueue_onLeg _ _ v fun out e inside => ?_)
    obtain ⟨old, was, rfl⟩ := List.mem_map.mp inside
    split
    · exact other
    · exact out old was
  · split
    · exact placed _ _ .refl
    · split
      · refine placed _ _ (setQueue_onLeg _ _ v fun out e inside => ?_)
        rcases List.mem_append.mp inside with old | new
        · exact out e old
        · rw [List.mem_singleton.mp new]
          exact other
      · refine placed _ _ (setDeferred_onLeg _ _ v fun out inside => ?_)
        rcases List.mem_append.mp inside with old | new
        · exact out old
        · exact other (List.mem_singleton.mp new).symm

theorem issue_onLeg (t : ValveTarget) (v : ValveBlock) (other : j ≠ k) : OnLeg j.leg k v (issue j t v) := by
  unfold issue
  split
  · exact .refl
  · split
    · exact .refl
    · exact (setValve_onLeg _ _ v other).trans (placeCommand_onLeg _ _ _ other)

theorem issue_unmoved (t : ValveTarget) (v : ValveBlock) (other : j ≠ k) : Unmoved k v (issue j t v) :=
  (issue_onLeg t v other).unmoved

theorem takeHead_onLeg {l : Leg} {e : ActionEntry} (taken : takeHead l v = some (e, w)) : OnLeg l k v w := by
  unfold takeHead at taken
  split at taken
  · cases taken
  next e rest waiting =>
    cases taken
    have others : OnLeg l k v { v with queues := quadSet v.queues l rest } :=
      setQueue_onLeg l rest v fun out f inside => out f (by rw [waiting]; exact List.mem_cons_of_mem _ inside)
    refine ⟨fun aside => ?_, fun m hm => ?_⟩
    · have other : e.key ≠ k := aside.1 e (by rw [waiting]; exact List.mem_cons_self)
      exact ((others.trans (setValve_onLeg l _ _ other)).trans (refill_onLeg l 8 _)).keeps aside
    · obtain ⟨queue, order⟩ := (refill_onLeg (k := k) l 8 (setValve e.key (fun r => { r with phase := .sent })
        { v with queues := quadSet v.queues l rest })).others m hm
      exact ⟨queue.trans (others.others m hm).1, order.trans (others.others m hm).2⟩

/-- The removal of a valve's command moves no record that waits in no queue. -/
theorem dropCommand_onLeg (j : NodeKey) (v : ValveBlock) : OnLeg j.leg k v (dropCommand j v) :=
  have shorter := setQueue_onLeg (k := k) j.leg _ v fun out e inside => out e (List.mem_of_mem_filter (p := fun e => e.key ≠ j) inside)
  (shorter.trans (setDeferred_onLeg j.leg _ _ fun out inside => out (List.mem_of_mem_filter (p := fun i => i ≠ j) inside))).trans
    (refill_onLeg ..)

end Unmoved

/-! ### What the boundaries of the legs do to the valves -/

section Heads

variable {l : Leg} {s : State}

theorem boundarySweep_vs (l : Leg) (s : State) : (boundarySweep l s).vs = s.vs := by
  have discovery (s : State) : (boundaryDiscovery l s).vs = s.vs := by
    simp only [boundaryDiscovery]
    split <;> rfl
  have poll (s : State) : (boundaryPoll l s).vs = s.vs := by
    simp only [boundaryPoll]
    split
    · rfl
    · exact discovery s
  have relay (s : State) : (boundaryRelay l s).vs = s.vs := by
    unfold boundaryRelay
    split
    · split
      · split
        · rw [poll, placeDue_vs]
        · rfl
      · exact poll s
    · exact poll s
  have begun : (sweepBegun l s).vs = s.vs := by
    simp only [sweepBegun]
    split <;> rfl
  simp only [boundarySweep]
  split
  next polled =>
    unfold sweepPoll at polled
    split at polled
    · split at polled
      · cases polled
        exact begun
      · cases polled
    · cases polled
  · rw [relay, begun]

/-- A boundary leaves the valves alone, or takes the head of the leg's Action Queue. -/
theorem boundary_vs (l : Leg) (s : State) :
    (boundary l s).vs = s.vs ∨ ∃ e, takeHead l s.vs = some (e, (boundary l s).vs) := by
  unfold boundary
  split
  · unfold boundaryQueue
    split
    next e v taken => exact .inr ⟨e, taken⟩
    · exact .inl (boundarySweep_vs l s)
  · exact .inl rfl

theorem boundaries_unmoved (k : NodeKey) (s : State) : Unmoved k s.vs (boundaries s).vs := by
  refine List.foldlRecOn (motive := fun t : State => Unmoved k s.vs t.vs) allLegs _ .refl fun t moved l _ => ?_
  refine moved.trans ?_
  rcases boundary_vs l t with same | ⟨e, taken⟩
  · rw [same]
    exact .refl
  · exact (takeHead_onLeg taken).unmoved

theorem settleAll_unmoved (k : NodeKey) (s : State) : Unmoved k s.vs (settleAll s).vs := by
  have valves := congrArg (fun u : State => u.vs.valves) (quiet_settle (boundaries s))
  have queues := congrArg (fun u : State => u.vs.queues) (quiet_settle (boundaries s))
  have deferred := congrArg (fun u : State => u.vs.deferred) (quiet_settle (boundaries s))
  refine .after ⟨fun aside => ⟨?_, fun l => ?_⟩⟩ (boundaries_unmoved k s)
  · exact congrArg (assocGet k) valves
  · rw [show (settleAll s).vs.queues = _ from queues, show (settleAll s).vs.deferred = _ from deferred]
    exact aside l

end Heads

/-! ### Tests of other valves -/

/-- The skip tests of R147 pass no valve with this record. -/
def Untestable (r : ValveRec) : Prop := r.fault ≠ .none ∨ r.target ≠ none ∨ r.position ≠ some .opened ∨ r.owner ≠ .none

/-- What the plan starts is the test of a valve that passes the skip tests. -/
theorem judgePlan_start {s : State} {i limit : Nat} {k : NodeKey} {r : ValveRec} (h : judgePlan s i = .start k limit)
    (found : valveAt s.vs k = some r) : ¬ Untestable r := by
  unfold judgePlan at h
  split at h
  · cases h
  split at h
  · cases h
  split at h
  · cases h
  next same =>
    iterate 4 (split at h; · cases h)
    next sound untargeted opened unowned =>
      cases h
      rw [found] at same
      cases same
      rintro (h | h | h | h)
      exacts [sound h, untargeted h, opened h, unowned h]

/-- The Exercise Controller leaves a valve that no queue holds and no skip test passes. -/
theorem Tests.untestable {s t : State} {k : NodeKey} {r : ValveRec} (h : Tests s t) (found : valveAt s.vs k = some r)
    (unfit : Untestable r) (aside : Aside k s.vs) : valveAt t.vs k = some r ∧ Aside k t.vs := by
  refine h.keeps (P := fun u => valveAt u.vs k = some r ∧ Aside k u.vs) ?_ ⟨found, aside⟩
  rintro u v act ⟨found, aside⟩
  cases act with
  | book => exact ⟨found, aside⟩
  | start i j limit judged =>
    have other : j ≠ k := fun same => judgePlan_start (same ▸ judged) found unfit
    obtain ⟨same, still⟩ := ((setValve_unmoved _ _ other).trans (issue_unmoved .partialTest _ other)).keeps aside
    exact ⟨same.trans found, still⟩

end Sys2Proof.Machine
end

section
/-! The timers of strokes and of absence (sections 6.5, 6.6 and 9.7). -/

namespace Sys2Proof.Machine

open Sys2Proof

/-! ### Faults reported to the owners of valves -/

section Faults

variable {s : State} {k : NodeKey} {r : ValveRec}

/-- The Exercise Controller's results only grow while it takes plan entries. -/
theorem takePlan_results (n : Nat) (s : State) : ∃ more, (takePlan n s).xc.results = s.xc.results ++ more := by
  induction n generalizing s with
  | zero => exact ⟨[], (List.append_nil _).symm⟩
  | succ n ih =>
    rw [takePlan]
    split
    · split
      · exact ⟨[], (List.append_nil _).symm⟩
      next i _ =>
        split
        next c _ =>
          obtain ⟨more, grown⟩ := ih (skipBranch i c s)
          exact ⟨_, grown.trans (List.append_assoc ..)⟩
        · exact ⟨[], (List.append_nil _).symm⟩
    · exact ⟨[], (List.append_nil _).symm⟩

theorem afterVerdict_results (s : State) : ∃ more, (afterVerdict s).xc.results = s.xc.results ++ more := by
  unfold afterVerdict
  split
  · exact ⟨[], (List.append_nil _).symm⟩
  · split
    · exact ⟨[], (List.append_nil _).symm⟩
    · split
      · exact takePlan_results _ s
      · exact ⟨[], (List.append_nil _).symm⟩

theorem headerPolicy_valves (id : Nat) (s : State) : valveAt (headerPolicy id s).vs = valveAt s.vs ∧
    Aside (k := k) (headerPolicy id s).vs = Aside k s.vs := by
  unfold headerPolicy
  split
  · unfold policyClose
    split <;> exact ⟨rfl, rfl⟩
  · exact ⟨rfl, rfl⟩

/-- An escalation leaves a valve that no queue holds and no skip test passes. -/
theorem escalate_untestable (id : Nat) (why : Reason) (found : valveAt s.vs k = some r) (unfit : Untestable r)
    (aside : Aside k s.vs) : valveAt (escalate id why s).vs k = some r ∧ Aside k (escalate id why s).vs := by
  obtain ⟨same, still⟩ := headerPolicy_valves (k := k) id
    (changeIncident id (fun i => { i with state := .escalated, reason := some why, probePhase := .none }) s)
  exact (tellExercise_tests (some .escalated) _).untestable ((congrFun same k).trans found) unfit (still ▸ aside)

/-- So does a fault reported to the incident that owns it. -/
theorem valveFaultEvent_untestable (id : Nat) (j : NodeKey) (f : ValveFault) (found : valveAt s.vs k = some r)
    (unfit : Untestable r) (aside : Aside k s.vs) :
    valveAt (valveFaultEvent id j f s).vs k = some r ∧ Aside k (valveFaultEvent id j f s).vs := by
  simp only [valveFaultEvent]
  split
  · exact ⟨found, aside⟩
  · split
    · exact ⟨found, aside⟩
    · split
      · exact escalate_untestable id _ found unfit aside
      · exact ⟨found, aside⟩

/-- An owned command is not given up. -/
theorem giveUp_owned (owned : r.owner ≠ .none) : giveUp r = r := if_neg fun free => owned free.1

/-- A fault of the valve under test: the test is FAILED, and the valve is returned and marked unreliable. -/
theorem exerciseFaulted_eq {x : ExTest} {f : ValveFault} {c : ExCause} (testing : s.xc.test = some x) (same : x.key = k)
    (cause : causeOfFault f = some c) : exerciseFaulted k f s = afterVerdict
      { s with
        xc := { addResult ⟨x.branch, .failed, some c, none, some x.limit, s.rt.number⟩ s.xc with test := none }
        vs := returnValve k (markUnreliable k true s.vs) } := by
  unfold exerciseFaulted
  rw [testing, cause]
  exact if_pos same

/-- What the failed test leaves: the valve's record, which no later test of the plan takes, and the results. -/
theorem exerciseFaulted_leaves {x : ExTest} {f : ValveFault} {c : ExCause} (testing : s.xc.test = some x) (same : x.key = k)
    (cause : causeOfFault f = some c) (found : valveAt s.vs k = some r) (faulty : r.fault ≠ .none) (aside : Aside k s.vs) :
    let t := exerciseFaulted k f s
    valveAt t.vs k = some (giveUp { r with owner := .none, unreliable := true }) ∧ Aside k t.vs ∧
      t = { s with vs := t.vs, xc := t.xc } ∧ ∃ more, t.xc.results = s.xc.results ++
        [⟨x.branch, .failed, some c, none, some x.limit, s.rt.number⟩] ++ more := by
  intro t
  have isT : t = _ := exerciseFaulted_eq testing same cause
  obtain ⟨u, isU⟩ : ∃ u : State, u = { s with
      xc := { addResult ⟨x.branch, .failed, some c, none, some x.limit, s.rt.number⟩ s.xc with test := none }
      vs := returnValve k (markUnreliable k true s.vs) } := ⟨_, rfl⟩
  rw [← isU] at isT
  have returned : valveAt u.vs k = some (giveUp { r with owner := .none, unreliable := true }) := by
    rw [isU]
    simp only [returnValve, markUnreliable, valveAt_setValve, found, Option.map_some]
  have unfit : Untestable (giveUp { r with owner := .none, unreliable := true }) := by
    refine .inl ?_
    unfold giveUp
    split <;> exact faulty
  obtain ⟨kept, still⟩ := (afterVerdict_tests u).untestable returned unfit (by rw [isU]; exact aside)
  obtain ⟨more, grown⟩ := afterVerdict_results u
  refine ⟨by rw [isT]; exact kept, by rw [isT]; exact still, ?_, more, ?_⟩
  · have frame := (afterVerdict_tests u).frame
    rw [← isT] at frame
    rw [frame, isU]
  · rw [isT, grown, isU]
    rfl

end Faults

/-! ### A change of a valve's record and its fault -/

section Changes

variable {s : State} {k : NodeKey} {r left : ValveRec} {f : ValveRec → ValveRec}

theorem changeFault_eq (found : valveAt s.vs k = some r) (makes : f r = left) : changeFault k f s =
    if left.fault = r.fault then { s with vs := setValve k (fun _ => giveUp left) s.vs }
    else reportFault k r.owner left.fault { s with vs := setValve k (fun _ => giveUp left) s.vs } := by
  unfold changeFault
  rw [found]
  dsimp only
  rw [makes]

/-- Without an owner nothing is reported. -/
theorem changeFault_unowned (found : valveAt s.vs k = some r) (makes : f r = left) (free : r.owner = .none) :
    changeFault k f s = { s with vs := setValve k (fun _ => giveUp left) s.vs } := by
  rw [changeFault_eq found makes, free]
  split <;> rfl

/-- A fault of an incident's valve: the record stays, and the incident is told. -/
theorem changeFault_owned {id : Nat} (found : valveAt s.vs k = some r) (makes : f r = left) (owned : r.owner = .incident id)
    (stays : left.owner = r.owner) (faulty : left.fault ≠ .none) (aside : Aside k s.vs) :
    let t := changeFault k f s
    valveAt t.vs k = some left ∧ Aside k t.vs ∧ t = { s with ie := t.ie, vs := t.vs, xc := t.xc } := by
  intro t
  have kept : giveUp left = left := giveUp_owned (by rw [stays, owned]; nofun)
  obtain ⟨u, isU⟩ : ∃ u : State, u = { s with vs := setValve k (fun _ => left) s.vs } := ⟨_, rfl⟩
  have isT : t = if left.fault = r.fault then u else valveFaultEvent id k left.fault u := by
    refine (changeFault_eq found makes).trans ?_
    rw [kept, owned, isU]
    rfl
  have record : valveAt u.vs k = some left := by
    rw [isU]
    simp only [valveAt_setValve, found, Option.map_some]
  have still : Aside k u.vs := by
    rw [isU]
    exact aside
  have frame : u = { s with ie := u.ie, vs := u.vs, xc := u.xc } := by rw [isU]
  rw [isT]
  split
  · exact ⟨record, still, frame⟩
  · obtain ⟨same, aside'⟩ := valveFaultEvent_untestable id k left.fault record (.inl faulty) still
    refine ⟨same, aside', ?_⟩
    have told := (valveFaultEvent_engine (c := false) id k left.fault u).frame_quietly
    generalize valveFaultEvent id k left.fault u = w at told ⊢
    rw [told, frame]

/-- A new fault of the valve under test: the test is FAILED. -/
theorem changeFault_tested {x : ExTest} {c : ExCause} (found : valveAt s.vs k = some r) (makes : f r = left)
    (owned : r.owner = .exercise) (stays : left.owner = r.owner) (testing : s.xc.test = some x) (same : x.key = k)
    (changed : left.fault ≠ r.fault) (cause : causeOfFault left.fault = some c) (aside : Aside k s.vs) :
    let t := changeFault k f s
    valveAt t.vs k = some (giveUp { left with owner := .none, unreliable := true }) ∧ Aside k t.vs ∧
      t = { s with vs := t.vs, xc := t.xc } ∧ ∃ more, t.xc.results = s.xc.results ++
        [⟨x.branch, .failed, some c, none, some x.limit, s.rt.number⟩] ++ more := by
  intro t
  have kept : giveUp left = left := giveUp_owned (by rw [stays, owned]; nofun)
  have faulty : left.fault ≠ .none := fun sound => by
    rw [sound] at cause
    cases cause
  obtain ⟨u, isU⟩ : ∃ u : State, u = { s with vs := setValve k (fun _ => left) s.vs } := ⟨_, rfl⟩
  have isT : t = exerciseFaulted k left.fault u := by
    refine (changeFault_eq found makes).trans ?_
    rw [kept, owned, isU, if_neg changed]
    rfl
  have record : valveAt u.vs k = some left := by
    rw [isU]
    simp only [valveAt_setValve, found, Option.map_some]
  obtain ⟨returned, still, frame, more, results⟩ := exerciseFaulted_leaves (s := u) (by rw [isU]; exact testing) same cause record
    faulty (by rw [isU]; exact aside)
  rw [← isT] at returned still frame results
  refine ⟨returned, still, ?_, more, ?_⟩
  · rw [frame, isU]
  · rw [results, isU]

end Changes

/-! ### A stroke that runs out -/

/-- The end of a step whose work moved the incidents, the valves and the exercise. -/
theorem quiet_of_events {s t w : State} (same : quiet t = quiet { w with le := t.le, vs := t.vs })
    (frame : w = { s with ie := w.ie, vs := w.vs, xc := w.xc }) :
    quiet t = quiet { s with le := t.le, ie := t.ie, vs := t.vs, xc := t.xc } := by
  rw [show quiet { s with le := t.le, ie := t.ie, vs := t.vs, xc := t.xc } =
    { quiet s with le := (quiet t).le, ie := (quiet t).ie, vs := (quiet t).vs, xc := (quiet t).xc } from rfl, same, frame]
  rfl

/-- The end of a step whose work moved the valves and the exercise. -/
theorem quiet_of_tests {s t w : State} (same : quiet t = quiet { w with le := t.le, vs := t.vs })
    (frame : w = { s with vs := w.vs, xc := w.xc }) :
    quiet t = quiet { s with le := t.le, vs := t.vs, xc := t.xc } := by
  rw [show quiet { s with le := t.le, vs := t.vs, xc := t.xc } =
    { quiet s with le := (quiet t).le, vs := (quiet t).vs, xc := (quiet t).xc } from rfl, same, frame]
  rfl

section Strokes

variable {s : State} {k : NodeKey} {r : ValveRec} {start limit : Nat}

/-- The record a stroke that runs out leaves, before its owner is told. -/
def ranOut (r : ValveRec) : ValveRec := { r with phase := .expired, fault := strokeFault r.fault }

/-- What the expiry makes of a record. -/
def expires (r : ValveRec) : ValveRec :=
  if r.phase = .stroking then { r with phase := .expired, fault := orMissing r.fault .jammed } else r

theorem expires_stroking (stroking : r.phase = .stroking) : expires r = ranOut r := if_pos stroking

theorem strokeExpired_eq (k : NodeKey) (s : State) : strokeExpired k s = changeFault k expires s := rfl

theorem strokeExpiry_runs (found : valveAt s.vs k = some r) (stroking : r.phase = .stroking) (started : r.start = some start)
    (limited : r.limit = some limit) :
    exec (.strokeTimerExpiry k) s = .next (settleAll (strokeExpired k (reachTime (start + 1000 * limit) s))) := by
  have ends : strokeEnd s k = some (start + 1000 * limit) := by
    unfold strokeEnd
    rw [found]
    dsimp only
    rw [stroking, started, limited]
  change Host.Outcome.next (settleAll (match strokeEnd s k with | some t => strokeExpired k (reachTime t s) | none => s)) = _
  rw [ends]

theorem strokeFault_faulty (f : ValveFault) : strokeFault f ≠ .none := by
  unfold strokeFault
  split <;> decide

/-- Without an owner the command is given up. -/
theorem strokeExpired_unowned (found : valveAt s.vs k = some r) (stroking : r.phase = .stroking) (free : r.owner = .none) :
    strokeExpired k s = { s with
      vs := setValve k (fun r => { r with phase := .none, target := none, fault := strokeFault r.fault }) s.vs } := by
  have given : giveUp (ranOut r) = { r with phase := .none, target := none, fault := strokeFault r.fault } := by
    unfold giveUp
    rw [if_pos ⟨free, .inl rfl⟩]
    rfl
  rw [strokeExpired_eq, changeFault_unowned found (expires_stroking stroking) free, given]
  rw [setValve_congr (f := fun _ => { r with phase := .none, target := none, fault := strokeFault r.fault })
    (g := fun r => { r with phase := .none, target := none, fault := strokeFault r.fault })]
  intro r' found'
  rw [found] at found'
  cases found'
  rfl

/-- Under test the test is FAILED, and the valve returned. -/
theorem giveUp_ranOut (sound : r.fault = .none) : giveUp { ranOut r with owner := .none, unreliable := true } =
    { r with phase := .none, target := none, owner := .none, fault := .jammed, unreliable := true } := by
  unfold giveUp ranOut
  rw [if_pos ⟨rfl, .inl rfl⟩, sound]
  rfl

end Strokes

/-! ### Absence -/

/-- The header is asked to close when absence begins (R110). -/
def asksClose (s : State) : Prop := s.ie.overflowReq = true ∨ ∃ i ∈ s.ie.incidents, i.state = .escalated ∧ i.headerReq = true

section Absence

variable {s : State}

theorem policyAgain_eq (s : State) [Decidable (asksClose s)] :
    policyAgain s = if asksClose s then policyClose s else s := by
  unfold policyAgain
  refine if_congr ?_ rfl rfl
  simp [asksClose]

/-- A close request outside CLOSED and CLOSING that FAULT with both limits does not refuse. -/
theorem closeHeader_unrefused (s : State) (closed : s.vs.header.state ≠ .closed) (closing : s.vs.header.state ≠ .closing)
    (heard : ¬ (s.vs.header.state = .fault ∧ s.vs.header.atClosed = true ∧ s.vs.header.atOpen = true)) :
    let h := (closeHeader s.clock (settings s).hdrStroke s.vs.header).1
    if s.vs.header.atClosed = true ∧ s.vs.header.atOpen = false then stands .closed true false h else strokes s .closing h := by
  have drives : closeHeader s.clock (settings s).hdrStroke s.vs.header =
      (completeAtOnce (enterHeader .closing 0 (some ⟨s.clock, (settings s).hdrStroke⟩) s.vs.header), .ok) := by
    unfold closeHeader
    split
    · contradiction
    · contradiction
    · exact if_neg heard
  rw [drives]
  have strokes_ := enterHeader_strokes s (.inl rfl : HeaderState.closing = .closing ∨ _)
  obtain ⟨state, -, -, -, atClosed, atOpen, -⟩ := id strokes_
  unfold completeAtOnce
  dsimp only
  rw [state, atClosed, atOpen]
  split
  next limits =>
    rw [if_pos ⟨rfl, limits.1, by rw [limits.2]; exact Bool.false_ne_true⟩]
    have := enterHeader_stands (st := .closed) (detail := 0) (h := enterHeader .closing 0 (some ⟨s.clock, (settings s).hdrStroke⟩) s.vs.header)
      ⟨nofun, nofun⟩
    rwa [atClosed, atOpen, limits.1, limits.2] at this
  next free =>
    rw [if_neg fun h => free ⟨h.2.1, Bool.not_eq_true _ ▸ h.2.2⟩, if_neg (by simp)]
    exact strokes_

/-- In FAULT with both limits asserted a close request does nothing. -/
theorem closeHeader_refused {clock limit : Nat} {h : HeaderDrive}
    (both : h.state = .fault ∧ h.atClosed = true ∧ h.atOpen = true) : closeHeader clock limit h = (h, .valveFault) := by
  unfold closeHeader
  rw [both.1]
  exact if_pos ⟨rfl, both.2⟩

/-- Absence begins: the condition is raised, and the header drive alone may move besides. -/
theorem beginAbsence_header (s : State) : beginAbsence s = setHeader (fun _ => (beginAbsence s).vs.header)
    { s with ti := { s.ti with lost := raise (settings s).absenceLimit } } := by
  unfold beginAbsence policyAgain policyClose
  split
  · split <;> rfl
  · rfl

theorem presenceTimeout_runs (present : s.ti.lost.active = false) : exec .controllerPresenceTimeout s =
    .next (settle (beginAbsence (elapse (1000 * (settings s).absenceLimit + 1 - s.ti.presenceTimer) s))) := by
  change Host.Outcome.next (settle (presenceTimeout s)) = _
  unfold presenceTimeout
  rw [if_neg (by rw [present]; nofun)]

theorem beginAbsence_stands (h : ¬ asksClose s ∨ s.vs.header.state = .closed ∨ s.vs.header.state = .closing) :
    (beginAbsence s).vs.header = s.vs.header := by
  classical
  unfold beginAbsence
  rw [policyAgain_eq]
  split
  next asked =>
    unfold policyClose
    rw [if_pos (h.resolve_left (not_not_intro asked))]
  · rfl

theorem beginAbsence_closes (asked : asksClose s) (closed : s.vs.header.state ≠ .closed) (closing : s.vs.header.state ≠ .closing) :
    (beginAbsence s).vs.header = (closeHeader s.clock (settings s).hdrStroke s.vs.header).1 := by
  classical
  unfold beginAbsence
  rw [policyAgain_eq, if_pos (by exact asked)]
  unfold policyClose
  rw [if_neg (not_or.mpr ⟨closed, closing⟩)]
  rfl

end Absence

/-- Settles O50: the owner of the valve decides what a stroke that runs out leaves; a valve in no queue keeps it while the
legs go on and the plan takes other valves. -/
theorem timersExpire : Obligations.TimersExpire := by
  unfold Obligations.TimersExpire
  refine ⟨fun s k r start limit found stroking started limited => ?_, fun s absent => ?_, fun s present => ?_⟩
  · have ran := strokeExpiry_runs found stroking started limited
    obtain ⟨u, isU⟩ : ∃ u, u = reachTime (start + 1000 * limit) s := ⟨_, rfl⟩
    have vs : u.vs = s.vs := by rw [isU]; rfl
    have xc : u.xc = s.xc := by rw [isU]; rfl
    have rt : u.rt = s.rt := by rw [isU]; rfl
    rw [← isU] at ran
    rw [ran, ← isU]
    have found' : valveAt u.vs k = some r := by rw [vs]; exact found
    refine ⟨fun free rest => ⟨_, rfl, ?_⟩, fun id owned notWaits => ⟨_, rfl, ?_⟩, fun x owned testing same sound notWaits => ⟨_, rfl, ?_⟩⟩
    · rw [strokeExpired_unowned found' stroking free, vs]
      refine (congrArg quiet (settleAll_at_rest ?_)).trans (quiet_settle _)
      exact legsAtRest_congr s _ (by rw [isU]; rfl) rfl (fun _ _ h => by rwa [isU] at h) (by rw [isU]; rfl) rest
    · obtain ⟨left, aside, frame⟩ := changeFault_owned found' (expires_stroking stroking) owned rfl (strokeFault_faulty _)
        (by rw [vs]; exact notWaits)
      exact ⟨quiet_of_events (quiet_settleAll _) frame, ((settleAll_unmoved k _).keeps aside).1.trans left⟩
    · obtain ⟨left, aside, frame, more, results⟩ := changeFault_tested (c := .jammed) found' (expires_stroking stroking) owned rfl
        (by rw [xc]; exact testing) same (fun stays => strokeFault_faulty _ (stays.trans sound))
        (by unfold ranOut; rw [sound]; rfl) (by rw [vs]; exact notWaits)
      rw [giveUp_ranOut sound] at left
      refine ⟨quiet_of_tests (quiet_settleAll _) frame, ((settleAll_unmoved k _).keeps aside).1.trans left, more, ?_⟩
      have kept := congrArg (fun u : State => u.xc.results) (quiet_settleAll (strokeExpired k u))
      exact kept.trans (by rw [← xc, ← rt]; exact results)
  · refine ⟨_, rfl, ?_⟩
    rw [quiet_settle]
    unfold presenceTimeout
    rw [if_pos absent]
  · refine ⟨_, presenceTimeout_runs present, ?_⟩
    intro limit asked u
    obtain ⟨h, isH⟩ : ∃ h, h = (beginAbsence u).vs.header := ⟨_, rfl⟩
    have moved : beginAbsence u = setHeader (fun _ => h) { u with ti := { u.ti with lost := raise limit } } := by
      rw [isH]
      exact beginAbsence_header u
    obtain ⟨frame, b, header⟩ := settle_header (s := { u with ti := { u.ti with lost := raise limit } }) (h := h)
    rw [show elapse (1000 * (settings s).absenceLimit + 1 - s.ti.presenceTimer) s = u from rfl, moved]
    refine ⟨frame, fun stays => ?_, fun asks closed closing => ?_⟩
    · have same : h = s.vs.header := by
        rw [isH]
        exact beginAbsence_stands (s := u) stays
      rw [header, same]
      exact ⟨rfl, rfl⟩
    · have closes : h = _ := isH.trans (beginAbsence_closes (s := u) asks closed closing)
      split
      next both =>
        rw [closeHeader_refused (h := u.vs.header) both] at closes
        rw [header, closes]
        exact ⟨rfl, rfl⟩
      next heard =>
        have driven := closeHeader_unrefused u closed closing heard
        dsimp only at driven
        rw [← closes] at driven
        rw [header]
        split
        next atLimit =>
          rw [if_pos (show u.vs.header.atClosed = true ∧ u.vs.header.atOpen = false from atLimit)] at driven
          exact driven
        next away =>
          rw [if_neg (show ¬ (u.vs.header.atClosed = true ∧ u.vs.header.atOpen = false) from away)] at driven
          exact driven

end Sys2Proof.Machine
end

section
/-! Requests of incidents to the Valve Supervisor (sections 5.6 to 5.8 and 6.2): what a request leaves of the valve asked and
of the others, what the Exercise Controller hears of it, and ISOLATE. -/

namespace Sys2Proof.Machine

open Sys2Proof

/-! ### What the Exercise Controller hears -/

section Hears

variable {s : State} {k : NodeKey}

/-- With an automatic cause an exercise does not run. -/
theorem exStateOf_auto (x : ExerciseBlock) (auto : x.autoCause = true) : exStateOf x ≠ .running := by
  unfold exStateOf
  rw [auto]
  split <;> nofun

/-- A suspend event moves the exercise alone: no test starts, and none ends. -/
theorem suspendEvent_books (s : State) :
    ∃ x, suspendEvent s = { s with xc := x } ∧ x.test = s.xc.test ∧ x.results = s.xc.results := by
  unfold suspendEvent
  split
  · exact ⟨s.xc, rfl, rfl, rfl⟩
  · refine ⟨resettle { s.xc with autoCause := true }, ?_, rfl, rfl⟩
    exact if_neg fun running => exStateOf_auto { s.xc with autoCause := true } rfl running.2

/-- A preemption moves the exercise alone, and ends the test of the valve as PREEMPTED. -/
theorem exercisePreempted_books (k : NodeKey) (s : State) : ∃ x, exercisePreempted k s = { s with xc := x } ∧
    ∀ y, s.xc.test = some y → y.key = k → x.test = none ∧
      x.results = s.xc.results ++ [⟨y.branch, .preempted, none, none, some y.limit, s.rt.number⟩] := by
  unfold exercisePreempted
  split
  next untested => exact ⟨s.xc, rfl, fun y testing => absurd (untested.symm.trans testing) nofun⟩
  next y testing =>
    split
    next same =>
      have stands : exStateOf { addResult ⟨y.branch, .preempted, none, none, some y.limit, s.rt.number⟩ s.xc with
          test := none, autoCause := true } ≠ .running := exStateOf_auto _ rfl
      unfold afterVerdict
      split
      · exact ⟨_, rfl, fun z found _ => by cases testing.symm.trans found; exact ⟨rfl, rfl⟩⟩
      · split
        · exact ⟨_, rfl, fun z found _ => by cases testing.symm.trans found; exact ⟨rfl, rfl⟩⟩
        · rw [if_neg (by exact stands)]
          exact ⟨_, rfl, fun z found _ => by cases testing.symm.trans found; exact ⟨rfl, rfl⟩⟩
    next other => exact ⟨s.xc, rfl, fun z found same => by cases testing.symm.trans found; exact absurd same other⟩

/-- While an incident closes a branch the Exercise Controller hears a suspend event alone. -/
theorem tellExercise_isolating (closing : closingIncident s = true) :
    ∃ x, tellExercise (some .isolating) s = { s with xc := x } ∧ x.test = s.xc.test ∧ x.results = s.xc.results := by
  obtain ⟨x, booked, kept⟩ := suspendEvent_books s
  refine ⟨x, ?_, kept⟩
  rw [tellExercise_eq]
  change (if closingIncident (suspendEvent s) = true then suspendEvent s else resumeEvent (suspendEvent s)) = _
  rw [booked, if_pos (by exact closing)]

/-- The Exercise Controller leaves the record of a valve that no skip test passes. -/
theorem valveAt_placeCommand_ne {j : NodeKey} (t : ValveTarget) (tag : Byte) (v : ValveBlock) (other : k ≠ j) :
    valveAt (placeCommand j t tag v) k = valveAt v k := by
  simp only [placeCommand]
  split
  · exact valveAt_setValve_ne _ _ other
  · split
    · exact valveAt_setValve_ne _ _ other
    · split <;> exact valveAt_setValve_ne _ _ other

theorem valveAt_issue_ne {j : NodeKey} (t : ValveTarget) (v : ValveBlock) (other : k ≠ j) :
    valveAt (issue j t v) k = valveAt v k := by
  unfold issue
  split
  · rfl
  · split
    · rfl
    · rw [valveAt_placeCommand_ne _ _ _ other, valveAt_setValve_ne _ _ other]

theorem Tests.record {t : State} {r : ValveRec} (h : Tests s t) (found : valveAt s.vs k = some r) (unfit : Untestable r) :
    valveAt t.vs k = some r := by
  refine h.keeps (P := fun u => valveAt u.vs k = some r) ?_ found
  rintro u v act found
  cases act with
  | book => exact found
  | start i j limit judged =>
    have other : k ≠ j := fun same => judgePlan_start (same ▸ judged) found unfit
    refine (valveAt_issue_ne _ _ other).trans ?_
    rw [valveAt_setValve_ne _ _ other, found]

end Hears

/-! ### Requests -/

section Requests

variable {s : State} {id : Nat} {b : BranchId} {t : ValveTarget} {k : NodeKey} {r : ValveRec}

/-- The record of a valve that an incident owns, with the target it asked. -/
def AskedBy (id : Nat) (t : ValveTarget) (r r' : ValveRec) : Prop :=
  r'.owner = .incident id ∧ r'.target = some t ∧ r'.unreliable = r.unreliable

theorem ownAndIssue_asked (found : valveAt s.vs k = some r) :
    ∃ r', valveAt (ownAndIssue id k t s).vs k = some r' ∧ AskedBy id t r r' := by
  have owned : valveAt (setValve k (fun r => { r with owner := .incident id }) s.vs) k = some { r with owner := .incident id } := by
    rw [valveAt_setValve, found]
    rfl
  unfold ownAndIssue
  by_cases inForce : r.target = some t ∧ inHand r.phase = true
  · refine ⟨{ r with owner := .incident id }, ?_, rfl, inForce.1, rfl⟩
    unfold issue
    rw [owned]
    dsimp only
    rw [if_pos inForce]
    exact owned
  · have fresh : r.target ≠ some t ∨ inHand r.phase = false :=
      (Decidable.not_and_iff_not_or_not.mp inForce).imp_right (fun h => Bool.not_eq_true _ ▸ h)
    obtain ⟨p, issued⟩ := valveAt_issue (t := t) owned fresh
    exact ⟨_, issued, rfl, rfl, rfl⟩

theorem requestValve_frame (id : Nat) (b : BranchId) (t : ValveTarget) (s : State) :
    requestValve id b t s = { s with vs := (requestValve id b t s).vs, xc := (requestValve id b t s).xc } := by
  unfold requestValve
  split
  · rfl
  · split
    · rfl
    · obtain ⟨x, booked, -⟩ := exercisePreempted_books b.valve s
      rw [booked]
      rfl
    · split <;> rfl

/-- A valve that is free, under test or the incident's own is asked. -/
theorem requestValve_asked (found : valveAt s.vs b.valve = some r) (askable : ∀ j, r.owner = .incident j → j = id) :
    ∃ r', valveAt (requestValve id b t s).vs b.valve = some r' ∧ AskedBy id t r r' := by
  unfold requestValve
  rw [found]
  dsimp only
  split
  · exact ownAndIssue_asked found
  · obtain ⟨x, booked, -⟩ := exercisePreempted_books b.valve s
    rw [booked]
    exact ownAndIssue_asked found
  next j owned =>
    rw [if_pos (askable j owned)]
    exact ownAndIssue_asked found

theorem requestValve_other (other : k ≠ b.valve) : valveAt (requestValve id b t s).vs k = valveAt s.vs k := by
  have owned (u : State) (same : u.vs = s.vs) : valveAt (ownAndIssue id b.valve t u).vs k = valveAt s.vs k := by
    rw [← same]
    exact (valveAt_issue_ne _ _ other).trans (valveAt_setValve_ne _ _ other)
  unfold requestValve
  split
  · rfl
  · split
    · exact owned s rfl
    · obtain ⟨x, booked, -⟩ := exercisePreempted_books b.valve s
      rw [booked]
      exact owned _ rfl
    · split
      · exact owned s rfl
      · rfl

/-- A request to a valve under test preempts the test. -/
theorem requestValve_preempts {y : ExTest} (found : valveAt s.vs b.valve = some r) (owned : r.owner = .exercise)
    (testing : s.xc.test = some y) (same : y.key = b.valve) : (requestValve id b t s).xc.test = none ∧
      (requestValve id b t s).xc.results =
        s.xc.results ++ [⟨y.branch, .preempted, none, none, some y.limit, s.rt.number⟩] := by
  obtain ⟨x, booked, ended⟩ := exercisePreempted_books b.valve s
  unfold requestValve
  rw [found]
  dsimp only
  rw [owned]
  dsimp only
  rw [booked]
  exact ended y testing same

end Requests

/-! ### ISOLATE -/

section Isolate

variable {s w u : State} {id : Nat} {b : BranchId}

/-- The incidents and notices after a close: the branch is among the held valves of the incident that asked. -/
theorem closeFor_ie (id : Nat) (b : BranchId) (s : State) : (closeFor id b s).ie =
    { s.ie with
      notices := assocMap b (fun _ => ⟨.lost, true⟩) s.ie.notices
      incidents := s.ie.incidents.map fun i =>
        if i.id = id then touch s.rt.number (if b ∈ i.held then i else { i with held := i.held ++ [b] }) else i } := by
  unfold closeFor changeIncident modIncident
  rw [requestValve_frame]
  rfl

theorem mem_closeFor {i : Incident} (h : i ∈ s.ie.incidents) (same : i.id = id) :
    touch s.rt.number (if b ∈ i.held then i else { i with held := i.held ++ [b] }) ∈ (closeFor id b s).ie.incidents := by
  rw [closeFor_ie]
  exact List.mem_map.mpr ⟨i, h, if_pos same⟩

/-- From `w` to `u` an incident in ISOLATING has closed the valve of branch `b`. -/
structure Closes (w u : State) (id : Nat) (b : BranchId) : Prop where
  frame : u = { w with ie := u.ie, vs := u.vs, xc := u.xc }
  asked : ∀ r, valveAt w.vs b.valve = some r → (∀ j, r.owner = .incident j → j = id) →
    ∃ r', valveAt u.vs b.valve = some r' ∧ AskedBy id .toClose r r'
  preempts : ∀ r y, valveAt w.vs b.valve = some r → r.owner = .exercise → w.xc.test = some y → y.key = b.valve →
    u.xc.test = none ∧ u.xc.results = w.xc.results ++ [⟨y.branch, .preempted, none, none, some y.limit, w.rt.number⟩]
  lost : (assocGet b w.ie.notices).isSome → assocGet b u.ie.notices = some ⟨.lost, true⟩

/-- A close, with the incidents brought to `e`, of which the Exercise Controller is told. -/
theorem closes_of_tell (e : IncidentBlock) (notices : e.notices = (closeFor id b w).ie.notices)
    (isolating : ∃ i ∈ e.incidents, i.state = .isolating) :
    Closes w (tellExercise (some .isolating) { closeFor id b w with ie := e }) id b ∧
      (tellExercise (some .isolating) { closeFor id b w with ie := e }).ie = e := by
  obtain ⟨x, told, test, results⟩ := tellExercise_isolating (s := { closeFor id b w with ie := e })
    (closingIncident_iff.mpr (isolating.imp fun i h => ⟨h.1, .inl h.2⟩))
  rw [told]
  refine ⟨⟨?_, fun r found askable => ?_, fun r y found owned testing same => ?_, fun noticed => ?_⟩, rfl⟩
  · change ({ closeFor id b w with ie := e, xc := x } : State) = { w with ie := e, vs := (closeFor id b w).vs, xc := x }
    unfold closeFor changeIncident modIncident
    rw [requestValve_frame]
    rfl
  · exact requestValve_asked (s := setNotice b .lost w) found askable
  · obtain ⟨ended, grown⟩ := requestValve_preempts (s := setNotice b .lost w) (id := id) (t := .toClose) found owned testing same
    exact ⟨test.trans ended, results.trans grown⟩
  · change assocGet b e.notices = _
    rw [notices, closeFor_ie]
    obtain ⟨n, found⟩ := Option.isSome_iff_exists.mp noticed
    change assocGet b (assocMap b _ w.ie.notices) = _
    rw [assocGet_assocMap, found]
    rfl

/-- For a branch in no incident a MANUAL incident opens and closes it. -/
theorem isolateBranch_opens {n : Nat} (named : identAt s.ts.active n = some b) (unclaimed : incidentOf s b = none)
    (sound : valveFaulted s.vs b.valve = false) (allowed : ¬ (settings s).isoLimit ≤ closedCount s)
    (room : s.ie.incidents.length < 8) (isId : id = nextFreeId s) : ∃ u, isolateBranch n s = (u, .ok, [byte id]) ∧
      Closes s u id b ∧ ∃ i ∈ u.ie.incidents, i.id = id ∧ i.state = .isolating ∧ i.target = some b ∧
        i.origin = .manual ∧ i.members = [b] ∧ i.held = [b] := by
  rw [isId]
  obtain ⟨w, opened⟩ : ∃ w, openIncident .manual .isolating (fun i => { i with members := [b], target := some b }) s =
      some (nextFreeId s, w) := ⟨_, if_pos room⟩
  obtain ⟨-, -, isW⟩ := openIncident_eq_some_iff.mp opened
  have ran : isolateBranch n s = (tellExercise (some .isolating) (closeFor (nextFreeId s) b w), .ok, [byte (nextFreeId s)]) := by
    unfold isolateBranch
    rw [named]
    dsimp only
    rw [unclaimed, opened, sound, if_neg (by simp), if_neg (by simp), if_neg allowed]
  have record : ∃ i ∈ (closeFor (nextFreeId s) b w).ie.incidents, i.id = nextFreeId s ∧ i.state = .isolating ∧
      i.target = some b ∧ i.origin = .manual ∧ i.members = [b] ∧ i.held = [b] := by
    obtain ⟨i, isI⟩ : ∃ i : Incident, i = { newIncident (nextFreeId s) .manual .isolating s.rt.number with
      members := [b], target := some b } := ⟨_, rfl⟩
    have closed := mem_closeFor (b := b) (i := i) (s := w) (id := nextFreeId s)
      (by rw [isW, isI]; exact List.mem_append.mpr (.inr (List.mem_singleton.mpr rfl))) (by rw [isI]; rfl)
    rw [if_neg (by rw [isI]; exact List.not_mem_nil)] at closed
    exact ⟨_, closed, by rw [isI]; exact ⟨rfl, rfl, rfl, rfl, rfl, rfl⟩⟩
  obtain ⟨closes, kept⟩ := closes_of_tell (id := nextFreeId s) (b := b) (w := w) (closeFor (nextFreeId s) b w).ie rfl
    (record.imp fun i h => ⟨h.1, h.2.2.1⟩)
  refine ⟨_, ran, ⟨?_, fun r found => closes.asked r (by rw [isW]; exact found),
    fun r y found owned testing => ?_, fun noticed => closes.lost (by rw [isW]; exact noticed)⟩, ?_⟩
  · have frame := closes.frame
    generalize tellExercise (some .isolating) { closeFor (nextFreeId s) b w with ie := (closeFor (nextFreeId s) b w).ie } = v at frame
    rw [isW] at frame
    exact frame
  · have ended := closes.preempts r y (by rw [isW]; exact found) owned (by rw [isW]; exact testing)
    rw [isW] at ended ⊢
    exact ended
  · rw [kept]
    exact record

/-- For a member of a REPORT_ONLY incident that incident closes it. -/
theorem isolateBranch_turns {n : Nat} {i : Incident} (named : identAt s.ts.active n = some b) (claimed : incidentOf s b = some i)
    (reports : i.state = .reportOnly) (sound : valveFaulted s.vs b.valve = false)
    (allowed : ¬ (settings s).isoLimit ≤ closedCount s) : ∃ u, isolateBranch n s = (u, .ok, [byte i.id]) ∧
      Closes s u i.id b ∧ ∃ j ∈ u.ie.incidents, j.id = i.id ∧ j.state = .isolating ∧ j.target = some b ∧ b ∈ j.members ∧
        b ∈ j.held := by
  obtain ⟨e, isE⟩ : ∃ e, e = (changeIncident i.id (fun j => { j with target := some b, state := .isolating })
    (closeFor i.id b s)).ie := ⟨_, rfl⟩
  have ran : isolateBranch n s = (tellExercise (some .isolating) { closeFor i.id b s with ie := e }, .ok, [byte i.id]) := by
    unfold isolateBranch
    rw [named]
    dsimp only
    rw [claimed, sound, if_neg (by simp [reports]), if_neg (by simp), if_neg allowed, isE]
    rfl
  have member : i ∈ s.ie.incidents := List.mem_of_find?_eq_some claimed
  have inside : b ∈ i.members := of_decide_eq_true (List.find?_some (p := fun i : Incident => decide (b ∈ i.members)) claimed)
  have record : ∃ j ∈ e.incidents, j.id = i.id ∧ j.state = .isolating ∧ j.target = some b ∧ b ∈ j.members ∧ b ∈ j.held := by
    rw [isE]
    have closed := mem_closeFor (b := b) member rfl
    obtain ⟨i', isI', same, inside', holds⟩ : ∃ i', i' = touch s.rt.number (if b ∈ i.held then i else { i with held := i.held ++ [b] }) ∧
        i'.id = i.id ∧ b ∈ i'.members ∧ b ∈ i'.held := by
      refine ⟨_, rfl, ?_⟩
      split
      next held => exact ⟨rfl, inside, held⟩
      · exact ⟨rfl, inside, List.mem_append.mpr (.inr (List.mem_singleton.mpr rfl))⟩
    rw [← isI'] at closed
    exact ⟨_, List.mem_map.mpr ⟨i', closed, if_pos same⟩, same, rfl, rfl, inside', holds⟩
  obtain ⟨closes, kept⟩ := closes_of_tell (id := i.id) (b := b) (w := s) e (by rw [isE]; rfl) (record.imp fun j h => ⟨h.1, h.2.2.1⟩)
  exact ⟨_, ran, closes, by rw [kept]; exact record⟩

/-- A refusal of ISOLATE, when one of its tests holds. -/
theorem isolateBranch_refused {n : Nat} (named : identAt s.ts.active n = some b) :
    (∀ i, incidentOf s b = some i → i.state ≠ .reportOnly → isolateBranch n s = (s, .wrongState, [])) ∧
      ((∀ i, incidentOf s b = some i → i.state = .reportOnly) →
        (valveFaulted s.vs b.valve = true → isolateBranch n s = (s, .valveFault, [])) ∧
        (valveFaulted s.vs b.valve = false →
          ((settings s).isoLimit ≤ closedCount s → isolateBranch n s = (s, .limit, [])) ∧
          (¬ (settings s).isoLimit ≤ closedCount s → incidentOf s b = none ∧ 8 ≤ s.ie.incidents.length →
            isolateBranch n s = (s, .busy, [])))) := by
  unfold isolateBranch
  rw [named]
  dsimp only
  refine ⟨fun i claimed other => ?_, fun reports => ?_⟩
  · rw [claimed, if_pos (by simpa using other)]
  · have stands : (incidentOf s b).any (fun i => decide (i.state ≠ .reportOnly)) = false := by
      cases claimed : incidentOf s b with
      | none => rfl
      | some i => simpa using reports i claimed
    rw [stands]
    refine ⟨fun faulty => ?_, fun sound => ⟨fun full => ?_, fun allowed none => ?_⟩⟩
    · rw [faulty]
      rfl
    · rw [sound, if_neg Bool.false_ne_true, if_neg Bool.false_ne_true, if_pos full]
    · rw [sound, if_neg Bool.false_ne_true, if_neg Bool.false_ne_true, if_neg allowed, none.1]
      unfold openIncident
      rw [if_neg (Nat.not_lt.mpr none.2)]

end Isolate

/-- What the end of a step keeps of an open incident. -/
theorem incident_of_quiet {t u : State} {i : Incident} (same : quiet t = quiet u) (h : i ∈ u.ie.incidents) :
    ∃ j ∈ t.ie.incidents, quietIncident j = quietIncident i := by
  have lists := congrArg (fun v : State => v.ie.incidents) same
  obtain ⟨j, inside, alike⟩ := List.mem_map.mp ((Eq.symm lists : u.ie.incidents.map quietIncident = _) ▸ List.mem_map_of_mem h)
  exact ⟨j, inside, alike⟩

/-- What it keeps of a cooling notice. -/
theorem notice_of_quiet {t u : State} {b : BranchId} {n : Notice} (same : quiet t = quiet u) (h : assocGet b u.ie.notices = some n) :
    ∃ x, assocGet b t.ie.notices = some x ∧ x.state = n.state := by
  have lists := congrArg (fun v : State => assocGet b v.ie.notices) same
  change assocGet b (assocAll quietNotice t.ie.notices) = assocGet b (assocAll quietNotice u.ie.notices) at lists
  rw [assocGet_assocAll, assocGet_assocAll, h] at lists
  obtain ⟨x, found, alike⟩ := Option.map_eq_some_iff.mp lists
  have states := congrArg Notice.state alike
  exact ⟨x, found, states⟩

/-- ISOLATE carried out, and what its step leaves. -/
theorem isolate_ends {hdr : Header} {s u : State} {n : Byte} {b : BranchId} {id : Nat} (taken : Taken s hdr)
    (ran : isolateBranch n.toNat (presenceRestart s) = (u, .ok, [byte id])) (closes : Closes (presenceRestart s) u id b) :
    ∃ t, exec (.isolate hdr n) s = .next t ∧ Replied t [0x12, 0x00, byte id] ∧
      quiet t = quiet { presenceRestart s with le := t.le, ie := t.ie, vs := t.vs, xc := t.xc } ∧
      (∀ i ∈ u.ie.incidents, ∃ j ∈ t.ie.incidents, quietIncident j = quietIncident i) ∧
      (∀ r, valveAt s.vs b.valve = some r → (∀ j, r.owner = .incident j → j = id) →
        ∃ r', valveAt t.vs b.valve = some r' ∧ AskedBy id .toClose r r') ∧
      (∀ r y, valveAt s.vs b.valve = some r → r.owner = .exercise → s.xc.test = some y → y.key = b.valve →
        t.xc.test = none ∧ t.xc.results = s.xc.results ++ [⟨y.branch, .preempted, none, none, some y.limit, s.rt.number⟩]) ∧
      ((assocGet b s.ie.notices).isSome → ∃ x, assocGet b t.ie.notices = some x ∧ x.state = .lost) := by
  have frame := closes.frame
  obtain ⟨t, exec_, replied, same, phases⟩ := replied_of_carry (c := .isolate hdr n) (code := codeIsolate) (s₀ := s) (s := s)
    (hdr := hdr) (args := [n]) (carry := carryIsolate n) (u := u) (r := .ok) (detail := [byte id]) (payload := [0x12, 0x00, byte id])
    rfl taken ran (by rw [frame]) (.inl (by decide)) rfl
  refine ⟨t, exec_, replied, quiet_of_events same frame, fun i inside => incident_of_quiet same inside, fun r found askable => ?_,
    fun r y found owned testing matching => ?_, fun noticed => ?_⟩
  · obtain ⟨r', asked, owner, target, mark⟩ := closes.asked r found askable
    obtain ⟨p, moved⟩ := phases b.valve
    rw [asked] at moved
    exact ⟨_, moved, owner, target, mark⟩
  · have tests := congrArg (fun v : State => v.xc) same
    rw [show t.xc = u.xc from tests]
    exact closes.preempts r y found owned testing matching
  · exact notice_of_quiet same (closes.lost noticed)

/-- Settles O39. -/
theorem isolateClosesTheBranch : Obligations.IsolateClosesTheBranch := by
  unfold Obligations.IsolateClosesTheBranch
  intro hdr s n taken rest
  split
  next unnamed =>
    refine completes_of_refusal_at_rest rfl taken rest .badArgument [] ?_ nofun
    change isolateBranch n.toNat (presenceRestart s) = _
    unfold isolateBranch
    rw [show identAt (presenceRestart s).ts.active n.toNat = none from unnamed]
  next b named =>
    refine ⟨fun i claimed other => ?_, fun reports => ?_⟩
    · exact completes_of_refusal_at_rest rfl taken rest .wrongState []
        ((isolateBranch_refused (s := presenceRestart s) named).1 i claimed other) nofun
    · have refused := (isolateBranch_refused (s := presenceRestart s) named).2 reports
      split
      next faulty => exact completes_of_refusal_at_rest rfl taken rest .valveFault [] (refused.1 faulty) nofun
      next fit =>
        have sound : valveFaulted s.vs b.valve = false := Bool.not_eq_true _ ▸ fit
        split
        next full => exact completes_of_refusal_at_rest rfl taken rest .limit [] ((refused.2 sound).1 full) nofun
        next allowed =>
          split
          next busy => exact completes_of_refusal_at_rest rfl taken rest .busy [] ((refused.2 sound).2 allowed busy) nofun
          next roomy =>
            obtain claimed | ⟨i, claimed⟩ := Option.eq_none_or_eq_some (incidentOf s b)
            · have room : s.ie.incidents.length < 8 := Nat.lt_of_not_le fun full => roomy ⟨claimed, full⟩
              have sameId : nextFreeId (presenceRestart s) = nextFreeId s := by
                unfold nextFreeId usedIds
                rfl
              obtain ⟨id, isId⟩ : ∃ id, id = nextFreeId s := ⟨_, rfl⟩
              obtain ⟨u, ran, closes, i, inside, named', state, target, origin, members, held⟩ :=
                isolateBranch_opens (s := presenceRestart s) named claimed sound allowed room (isId.trans sameId.symm)
              obtain ⟨t, ends, replied, same, records, asked, preempts, lost⟩ := isolate_ends taken ran closes
              obtain ⟨j, inside', alike⟩ := records i inside
              simp only [quietIncident, Incident.mk.injEq] at alike
              refine ⟨t, id, ends, replied, same, ⟨j, inside', ?_⟩, fun _ => isId, fun i h => absurd (claimed.symm.trans h) nofun,
                fun r found free => ?_, fun r y found owned testing matching => ?_, lost⟩
              · obtain ⟨isId', isOrigin, isState, isMembers, isTarget, isHeld⟩ :
                    j.id = i.id ∧ j.origin = i.origin ∧ j.state = i.state ∧ j.members = i.members ∧ j.target = i.target ∧
                      j.held = i.held := by grind
                rw [isId', isOrigin, isState, isMembers, isTarget, isHeld, named', state, target, members, held]
                exact ⟨rfl, rfl, rfl, List.mem_singleton_self b, List.mem_singleton_self b, fun _ => ⟨origin, rfl, rfl⟩⟩
              · obtain ⟨r', found', owner, target, -⟩ := asked r found (by rw [free]; nofun)
                exact ⟨r', found', owner, target⟩
              · obtain ⟨r', found', asked⟩ := asked r found (by rw [owned]; nofun)
                obtain ⟨ended, grown⟩ := preempts r y found owned testing matching
                exact ⟨ended, grown, r', found', asked⟩
            · obtain ⟨u, ran, closes, i', inside, sameId, state, target, member, held⟩ :=
                isolateBranch_turns (s := presenceRestart s) named claimed (reports i claimed) sound allowed
              obtain ⟨t, ends, replied, same, records, asked, preempts, lost⟩ := isolate_ends taken ran closes
              obtain ⟨j, inside', alike⟩ := records i' inside
              simp only [quietIncident, Incident.mk.injEq] at alike
              refine ⟨t, i.id, ends, replied, same, ⟨j, inside', ?_⟩, fun none => absurd (none.symm.trans claimed) nofun, fun i' h => ?_,
                fun r found free => ?_, fun r y found owned testing matching => ?_, lost⟩
              · obtain ⟨isId', isState, isMembers, isTarget, isHeld⟩ :
                    j.id = i'.id ∧ j.state = i'.state ∧ j.members = i'.members ∧ j.target = i'.target ∧ j.held = i'.held := by
                  grind
                rw [isId', isState, isMembers, isTarget, isHeld]
                exact ⟨sameId, state, target, member, held, fun none => absurd (none.symm.trans claimed) nofun⟩
              · cases claimed.symm.trans h
                rfl
              · obtain ⟨r', found', owner, target, -⟩ := asked r found (by rw [free]; nofun)
                exact ⟨r', found', owner, target⟩
              · obtain ⟨r', found', asked⟩ := asked r found (by rw [owned]; nofun)
                obtain ⟨ended, grown⟩ := preempts r y found owned testing matching
                exact ⟨ended, grown, r', found', asked⟩

end Sys2Proof.Machine
end

section
/-! RELEASE (section 5.8): the requests to reopen, the freeing of an incident, and what the command leaves. -/

namespace Sys2Proof.Machine

open Sys2Proof

/-! ### Several requests, one after another -/

section Requests

variable {s : State} {id : Nat} {t : ValveTarget} {k : NodeKey}

/-- A close or reopen asked of the valves of several branches, in order. -/
def requestValves (id : Nat) (t : ValveTarget) (bs : List BranchId) (s : State) : State :=
  bs.foldl (fun s b => requestValve id b t s) s

/-- The valve is no other incident's. -/
def Askable (id : Nat) (v : ValveBlock) (k : NodeKey) : Prop :=
  ∃ r, valveAt v k = some r ∧ ∀ j, r.owner = .incident j → j = id

/-- The valve is the incident's, with the target it asked. -/
def Asked (id : Nat) (t : ValveTarget) (v : ValveBlock) (k : NodeKey) : Prop :=
  ∃ r, valveAt v k = some r ∧ r.owner = .incident id ∧ r.target = some t

theorem Asked.askable {v : ValveBlock} (h : Asked id t v k) : Askable id v k := by
  obtain ⟨r, found, owned, -⟩ := h
  exact ⟨r, found, fun j owned' => by cases owned.symm.trans owned'; rfl⟩

theorem Askable.request {b : BranchId} (h : Askable id s.vs b.valve) : Asked id t (requestValve id b t s).vs b.valve := by
  obtain ⟨r, found, free⟩ := h
  obtain ⟨r', asked, owned, target, -⟩ := requestValve_asked (t := t) found free
  exact ⟨r', asked, owned, target⟩

theorem Asked.request (h : Asked id t s.vs k) (b : BranchId) : Asked id t (requestValve id b t s).vs k := by
  by_cases same : k = b.valve
  · subst same
    exact h.askable.request
  · unfold Asked
    rw [requestValve_other same]
    exact h

theorem Asked.requests (h : Asked id t s.vs k) (bs : List BranchId) : Asked id t (requestValves id t bs s).vs k := by
  induction bs generalizing s with
  | nil => exact h
  | cons b bs ih => exact ih (h.request b)

/-- Each valve that is no other incident's is asked. -/
theorem requestValves_asked {bs : List BranchId} {b : BranchId} (inside : b ∈ bs) (h : Askable id s.vs b.valve) :
    Asked id t (requestValves id t bs s).vs b.valve := by
  induction bs generalizing s with
  | nil => cases inside
  | cons c bs ih =>
    by_cases same : b.valve = c.valve
    · have asked : Asked id t (requestValve id c t s).vs b.valve := by
        rw [same] at h ⊢
        exact h.request
      exact asked.requests bs
    · have inside' : b ∈ bs := (List.mem_cons.mp inside).resolve_left fun eq => same (congrArg BranchId.valve eq)
      refine ih inside' ?_
      unfold Askable
      rw [requestValve_other same]
      exact h

/-- The other valves keep their records. -/
theorem requestValves_other {bs : List BranchId} (other : ∀ b ∈ bs, b.valve ≠ k) :
    valveAt (requestValves id t bs s).vs k = valveAt s.vs k := by
  induction bs generalizing s with
  | nil => rfl
  | cons b bs ih =>
    refine (ih fun c inside => other c (List.mem_cons_of_mem b inside)).trans ?_
    exact requestValve_other (other b List.mem_cons_self).symm

theorem requestValves_frame (id : Nat) (t : ValveTarget) (bs : List BranchId) (s : State) : requestValves id t bs s =
    { s with vs := (requestValves id t bs s).vs, xc := (requestValves id t bs s).xc } := by
  induction bs generalizing s with
  | nil => rfl
  | cons b bs ih =>
    have later : requestValves id t (b :: bs) s = requestValves id t bs (requestValve id b t s) := rfl
    rw [later, ih, requestValve_frame]

/-- A valve that an incident owns stays so over a change that the Exercise Controller hears of. -/
theorem Asked.tell (h : Asked id t s.vs k) (entered : Option IncState) : Asked id t (tellExercise entered s).vs k := by
  obtain ⟨r, found, owned, target⟩ := h
  exact ⟨r, (tellExercise_tests entered s).record found (.inr (.inr (.inr (by rw [owned]; nofun)))), owned, target⟩

theorem Asked.phases {v w : ValveBlock} (h : Asked id t v k) (moved : PhasesMoved v w) : Asked id t w k := by
  obtain ⟨r, found, owned, target⟩ := h
  obtain ⟨p, same⟩ := moved k
  rw [found] at same
  exact ⟨_, same, owned, target⟩

end Requests

/-! ### Freeing -/

section Freeing

variable {s : State} {i : Incident} {b : BranchId}

/-- The evidence of a branch is cleared: its score, its loss and its remainder. -/
def EvidenceCleared (s : State) (b : BranchId) : Prop :=
  (∀ d, assocGet b s.de.branches = some d → d.score = 0) ∧ ∀ f, assocGet b s.fa.branches = some f → f.loss = 0 ∧ f.rem = 0

/-- A record under a key that has been brought to meet `P`, or met it before under another key's change. -/
theorem assocMap_meets {κ ρ : Type} [DecidableEq κ] {P : ρ → Prop} {k j : κ} {f : ρ → ρ} {l : List (κ × ρ)} (made : ∀ x, P (f x))
    (h : k = j ∨ ∀ x, assocGet k l = some x → P x) : ∀ x, assocGet k (assocMap j f l) = some x → P x := by
  intro x found
  by_cases same : k = j
  · rw [same, assocGet_assocMap] at found
    obtain ⟨y, -, rfl⟩ := Option.map_eq_some_iff.mp found
    exact made y
  · rw [assocGet_assocMap_ne f l same] at found
    exact h.resolve_left same x found

theorem clearBranch_cleared (c : BranchId) (h : b = c ∨ EvidenceCleared s b) : EvidenceCleared (zeroLoss c (zeroScore c s)) b :=
  ⟨assocMap_meets (fun _ => rfl) (h.imp_right And.left), assocMap_meets (fun _ => ⟨rfl, rfl⟩) (h.imp_right And.right)⟩

theorem clearEvidence_cleared (inside : b ∈ i.members) : EvidenceCleared (clearEvidence i s) b := by
  have later (bs : List BranchId) (s : State) (h : EvidenceCleared s b) :
      EvidenceCleared (bs.foldl (fun s b => zeroLoss b (zeroScore b s)) s) b := by
    induction bs generalizing s with
    | nil => exact h
    | cons c bs ih => exact ih _ (clearBranch_cleared c (.inr h))
  have members (bs : List BranchId) (s : State) (inside : b ∈ bs) :
      EvidenceCleared (bs.foldl (fun s b => zeroLoss b (zeroScore b s)) s) b := by
    induction bs generalizing s with
    | nil => cases inside
    | cons c bs ih =>
      rcases List.mem_cons.mp inside with same | inside'
      · exact later bs _ (clearBranch_cleared c (.inl same))
      · exact ih _ inside'
  have cleared := members i.members s inside
  simp only [clearEvidence]
  split
  · exact cleared
  · exact cleared

theorem judgeOverflow_frame (s : State) : ∃ o q, judgeOverflow s = { s with ie := { s.ie with
    overflow := o, overflowReq := q, overflowBy := (judgeOverflow s).ie.overflowBy } } := by
  unfold judgeOverflow
  split
  · exact ⟨_, _, rfl⟩
  · exact ⟨_, _, rfl⟩

/-- An incident freed is open no more, and the evidence of its members is cleared. -/
theorem freeIncident_leaves {id : Nat} (found : incidentById s id = some i) :
    (∀ j ∈ (freeIncident id true none s).ie.incidents, j.id ≠ id) ∧
      ∀ b ∈ i.members, EvidenceCleared (freeIncident id true none s) b := by
  obtain ⟨w, isW⟩ : ∃ w : State, w = { clearEvidence i s with
      ie := { (clearEvidence i s).ie with
        cleared := pushCleared ⟨id, none⟩ (clearEvidence i s).ie.cleared
        incidents := (clearEvidence i s).ie.incidents.filter fun j => decide (j.id ≠ id) }
      vs := i.held.foldl (fun v b => returnValve b.valve v) (clearEvidence i s).vs } := ⟨_, rfl⟩
  have freed : freeIncident id true none s = tellExercise none (judgeOverflow w) := by
    unfold freeIncident
    rw [found, isW]
    rfl
  obtain ⟨o, q, judged⟩ := judgeOverflow_frame w
  rw [freed, (tellExercise_tests none (judgeOverflow w)).frame, judged]
  refine ⟨fun j inside => ?_, fun b inside => ?_⟩
  · have left : j ∈ (clearEvidence i s).ie.incidents.filter fun j => decide (j.id ≠ id) := by
      rw [isW] at inside
      exact inside
    exact of_decide_eq_true (List.mem_filter.mp left).2
  · have cleared := clearEvidence_cleared (s := s) inside
    rw [isW]
    exact cleared

end Freeing

/-! ### RELEASE by the incident's state -/

section Release

variable {s : State} {i : Incident} {id : Nat}

theorem id_of_incidentById (found : incidentById s id = some i) : i.id = id :=
  of_decide_eq_true (List.find?_some (p := fun i : Incident => decide (i.id = id)) found)

/-- The record of an incident after a change that keeps its id. -/
theorem incidentById_changeIncident {f : Incident → Incident} (found : incidentById s id = some i)
    (keeps : ∀ j, (f j).id = j.id) : incidentById (changeIncident id f s) id = some (touch s.rt.number (f i)) := by
  have alike (j : Incident) : (if j.id = id then touch s.rt.number (f j) else j).id = j.id := by
    split
    · exact keeps j
    · rfl
  unfold incidentById changeIncident modIncident
  rw [List.find?_map]
  have same : ((fun i : Incident => decide (i.id = id)) ∘ fun j => if j.id = id then touch s.rt.number (f j) else j) =
      fun i => decide (i.id = id) := funext fun j => by simp only [Function.comp_apply, alike]
  rw [same, show s.ie.incidents.find? _ = some i from found, Option.map_some, if_pos (id_of_incidentById found)]

/-- An incident's record as it enters RELEASING. -/
def toReleasing (i j : Incident) : Incident := { (if i.state = .probing then endProbe j else j) with state := .releasing }

theorem toReleasing_keeps (i j : Incident) : (toReleasing i j).id = j.id ∧ (toReleasing i j).state = .releasing ∧
    (toReleasing i j).members = j.members ∧ (toReleasing i j).held = j.held := by
  unfold toReleasing
  split <;> exact ⟨rfl, rfl, rfl, rfl⟩

theorem toReleasing_probe (i : Incident) : if i.state = .probing then
      (toReleasing i i).probeRow = none ∧ (toReleasing i i).probeBranch = none ∧ (toReleasing i i).probePhase = .none
    else (toReleasing i i).probeRow = i.probeRow ∧ (toReleasing i i).probeBranch = i.probeBranch ∧
      (toReleasing i i).probePhase = i.probePhase := by
  unfold toReleasing
  split <;> exact ⟨rfl, rfl, rfl⟩

/-- RELEASE of an incident that holds no valve frees it. -/
theorem releaseIncident_frees (found : incidentById s id = some i) (isolating : i.state ≠ .isolating)
    (releasing : i.state ≠ .releasing) (empty : i.held = []) :
    ∃ w i', releaseIncident id s = (freeIncident id true none w, .ok) ∧ incidentById w id = some i' ∧
      i'.members = i.members ∧ w = { s with ie := w.ie } := by
  have entered : (enterReleasing i s, Result.ok) = (freeIncident id true none (changeIncident id (toReleasing i) s), .ok) := by
    unfold enterReleasing
    dsimp only
    rw [if_pos empty, id_of_incidentById found]
    rfl
  have turned := incidentById_changeIncident found fun j => (toReleasing_keeps i j).1
  unfold releaseIncident
  rw [found]
  dsimp only
  split
  · contradiction
  · contradiction
  iterate 2
    rw [if_pos empty]
    exact ⟨s, i, rfl, found, rfl, rfl⟩
  · exact ⟨_, _, entered, turned, (toReleasing_keeps i i).2.2.1, rfl⟩

/-- RELEASE of one that holds valves has it enter RELEASING and asks each to reopen. -/
theorem releaseIncident_reopens (found : incidentById s id = some i) (isolating : i.state ≠ .isolating)
    (releasing : i.state ≠ .releasing) (holds : i.held ≠ []) : releaseIncident id s =
      (tellExercise (some .releasing) (requestValves id .toOpen i.held (changeIncident id (toReleasing i) s)), .ok) := by
  have entered : enterReleasing i s =
      tellExercise (some .releasing) (requestValves id .toOpen i.held (changeIncident id (toReleasing i) s)) := by
    unfold enterReleasing
    dsimp only
    rw [if_neg holds, id_of_incidentById found]
    unfold reopenHeld
    rw [List.filter_true, id_of_incidentById found]
    rfl
  unfold releaseIncident
  rw [found]
  dsimp only
  split
  · contradiction
  · contradiction
  iterate 2 rw [if_neg holds, entered]
  · rw [entered]

/-- RELEASE of one in RELEASING asks its faulted valves again. -/
theorem releaseIncident_again (found : incidentById s id = some i) (releasing : i.state = .releasing)
    (faulty : ∃ b ∈ i.held, valveFaulted s.vs b.valve = true) : releaseIncident id s =
      (requestValves id .toOpen (i.held.filter fun b => valveFaulted s.vs b.valve) s, .ok) := by
  unfold releaseIncident
  rw [found]
  dsimp only
  rw [releasing]
  dsimp only
  rw [if_pos (List.any_eq_true.mpr faulty)]
  unfold reopenHeld
  rw [id_of_incidentById found]
  rfl

theorem releaseIncident_busy (found : incidentById s id = some i)
    (h : i.state = .isolating ∨ i.state = .releasing ∧ ∀ b ∈ i.held, valveFaulted s.vs b.valve = false) :
    releaseIncident id s = (s, .busy) := by
  unfold releaseIncident
  rw [found]
  dsimp only
  rcases h with isolating | ⟨releasing, sound⟩
  · rw [isolating]
  · rw [releasing]
    dsimp only
    rw [if_neg]
    intro faulty
    obtain ⟨b, inside, fault⟩ := List.any_eq_true.mp faulty
    exact absurd ((sound b inside).symm.trans fault) nofun

/-- The data of the reply to RELEASE: the incident's state, or FREED. -/
theorem replyPayload_release (u : State) (id : Byte) :
    replyPayload u ⟨codeRelease, [id], .ok, []⟩ = [0x13, 0x00, incidentStateByte u id] := rfl

theorem incidentStateByte_open {id : Byte} (found : incidentById s id.toNat = some i) :
    incidentStateByte s id = incStateCode i.state := by
  unfold incidentStateByte
  rw [found]

end Release

/-- The end of a step whose work moved what the engines may. -/
theorem quiet_of_engine {s t w : State} (same : quiet t = quiet { w with le := t.le, vs := t.vs })
    (frame : w = { s with fa := w.fa, de := w.de, ie := w.ie, vs := w.vs, xc := w.xc }) :
    quiet t = quiet { s with le := t.le, fa := t.fa, de := t.de, ie := t.ie, vs := t.vs, xc := t.xc } := by
  rw [show quiet { s with le := t.le, fa := t.fa, de := t.de, ie := t.ie, vs := t.vs, xc := t.xc } =
    { quiet s with
      le := (quiet t).le, fa := (quiet t).fa, de := (quiet t).de, ie := (quiet t).ie, vs := (quiet t).vs
      xc := (quiet t).xc } from rfl, same, frame]
  rfl

/-- What the end of a step keeps of the evidence of a branch. -/
theorem EvidenceCleared.of_quiet {t u : State} {b : BranchId} (same : quiet t = quiet u) (h : EvidenceCleared u b) :
    EvidenceCleared t b := by
  have drips := congrArg (fun v : State => v.de.branches) same
  have flows := congrArg (fun v : State => v.fa.branches) same
  unfold EvidenceCleared
  rw [show t.de.branches = u.de.branches from drips, show t.fa.branches = u.fa.branches from flows]
  exact h

/-- RELEASE carried out. -/
theorem release_ends {hdr : Header} {s u : State} {id : Byte} {code : Byte} (taken : Taken s hdr)
    (ran : releaseIncident id.toNat (presenceRestart s) = (u, .ok)) (trunk : u.ti = (presenceRestart s).ti)
    (state : incidentStateByte u id = code) : ∃ t, exec (.release hdr id) s = .next t ∧ Replied t [0x13, 0x00, code] ∧
      quiet t = quiet { u with le := t.le, vs := t.vs } ∧ PhasesMoved u.vs t.vs :=
  replied_of_carry (c := .release hdr id) (code := codeRelease) (s₀ := s) (s := s) (hdr := hdr) (args := [id])
    (carry := carryRelease id) (u := u) (r := .ok) (detail := []) (payload := [0x13, 0x00, code]) rfl taken
    (congrArg plain ran) trunk (.inl (by decide)) (by rw [replyPayload_release, state])

/-- Settles O40. -/
theorem releaseFollowsTheIncidentState : Obligations.ReleaseFollowsTheIncidentState := by
  unfold Obligations.ReleaseFollowsTheIncidentState
  intro hdr s id taken rest
  split
  next absent =>
    refine completes_of_refusal_at_rest rfl taken rest .badArgument [] ?_ nofun
    change plain (releaseIncident id.toNat (presenceRestart s)) = _
    unfold releaseIncident
    rw [show incidentById (presenceRestart s) id.toNat = none from absent]
    rfl
  next i found =>
    have found' : incidentById (presenceRestart s) id.toNat = some i := found
    have sameId := id_of_incidentById found
    dsimp only
    refine ⟨fun busy => ?_, fun isolating releasing => ?_, fun releasing faulty => ?_⟩
    · exact completes_of_refusal_at_rest rfl taken rest .busy [] (congrArg plain (releaseIncident_busy found' busy)) nofun
    · by_cases empty : i.held = []
      · obtain ⟨w, i', ran, record, members, isW⟩ := releaseIncident_frees found' isolating releasing empty
        obtain ⟨freed, cleared⟩ := freeIncident_leaves record
        have frame := (freeIncident_engine (c := true) id.toNat true none w fun _ => rfl).frame
        obtain ⟨u, isU⟩ : ∃ u, u = freeIncident id.toNat true none w := ⟨_, rfl⟩
        rw [← isU] at ran freed cleared frame
        rw [isW] at frame
        have gone : incidentStateByte u id = 0x07 := by
          unfold incidentStateByte
          rw [incidentById_eq_none freed]
          rfl
        obtain ⟨t, ends, replied, same, -⟩ := release_ends taken ran (by rw [frame]) gone
        refine ⟨t, ends, quiet_of_engine same frame, fun _ => ⟨replied, fun j inside => ?_, fun b inside => ?_, fun b inside => ?_⟩,
          fun holds => absurd empty holds⟩
        · obtain ⟨j', inside', alike⟩ := incident_of_quiet same.symm inside
          have ids := congrArg Incident.id alike
          rw [sameId, ← show j'.id = j.id from ids]
          exact freed j' inside'
        · exact (EvidenceCleared.of_quiet (u := { u with le := t.le, vs := t.vs }) same (cleared b (by rw [members]; exact inside))).1
        · exact (EvidenceCleared.of_quiet (u := { u with le := t.le, vs := t.vs }) same (cleared b (by rw [members]; exact inside))).2
      · have ran := releaseIncident_reopens found' isolating releasing empty
        have record := incidentById_changeIncident found' fun j => (toReleasing_keeps i j).1
        obtain ⟨w, isW⟩ : ∃ w, w = changeIncident id.toNat (toReleasing i) (presenceRestart s) := ⟨_, rfl⟩
        obtain ⟨u, isU⟩ : ∃ u, u = tellExercise (some .releasing) (requestValves id.toNat .toOpen i.held w) := ⟨_, rfl⟩
        rw [← isW] at ran record
        rw [← isU] at ran
        have frame : u = { w with vs := u.vs, xc := u.xc } := by
          have told := (tellExercise_tests (some .releasing) (requestValves id.toNat .toOpen i.held w)).frame
          rw [← isU, requestValves_frame] at told
          exact told
        obtain ⟨kept, state, members, held⟩ := toReleasing_keeps i i
        have record' : incidentById u id.toNat = some (touch (presenceRestart s).rt.number (toReleasing i i)) := by
          rw [frame]
          exact record
        have turned : incidentStateByte u id = 0x06 := by
          exact (incidentStateByte_open record').trans (congrArg incStateCode state)
        obtain ⟨t, ends, replied, same, phases⟩ := release_ends taken ran (by rw [frame, isW]; rfl) turned
        have events : quiet t = quiet { presenceRestart s with le := t.le, ie := t.ie, vs := t.vs, xc := t.xc } :=
          quiet_of_events same (by
            rw [frame, isW]
            rfl)
        refine ⟨t, ends, ?_, fun none => absurd none empty, fun _ => ⟨replied, events, fun b inside r at_ free => ?_, ?_⟩⟩
        · exact quiet_of_engine same (by
            rw [frame, isW]
            rfl)
        · have asked : Asked id.toNat .toOpen u.vs b.valve := by
            rw [isU]
            refine (requestValves_asked inside ?_).tell _
            rw [isW]
            refine ⟨r, at_, fun j owned => ?_⟩
            rcases free with mine | unowned
            · cases mine.symm.trans owned
              exact sameId
            · exact absurd (unowned.symm.trans owned) nofun
          rw [sameId]
          exact asked.phases phases
        · obtain ⟨j, inside, alike⟩ := incident_of_quiet same (mem_of_incidentById record')
          obtain ⟨isId, isState, isMembers, isHeld, isRow, isBranch, isPhase⟩ : j.id = (toReleasing i i).id ∧
              j.state = (toReleasing i i).state ∧ j.members = (toReleasing i i).members ∧ j.held = (toReleasing i i).held ∧
              j.probeRow = (toReleasing i i).probeRow ∧ j.probeBranch = (toReleasing i i).probeBranch ∧
              j.probePhase = (toReleasing i i).probePhase := by
            simp only [quietIncident, touch, Incident.mk.injEq] at alike
            grind
          refine ⟨j, inside, isId.trans kept, isState.trans state, isMembers.trans members, isHeld.trans held, ?_⟩
          rw [isRow, isBranch, isPhase]
          exact toReleasing_probe i
    · have ran := releaseIncident_again found' releasing faulty
      obtain ⟨u, isU⟩ : ∃ u, u = requestValves id.toNat .toOpen (i.held.filter fun b => valveFaulted s.vs b.valve)
        (presenceRestart s) := ⟨_, rfl⟩
      have frame : u = { presenceRestart s with vs := u.vs, xc := u.xc } := by
        rw [isU]
        exact requestValves_frame ..
      have standing : incidentStateByte u id = 0x06 := by
        refine (incidentStateByte_open ?_).trans (congrArg incStateCode releasing)
        rw [frame]
        exact found'
      obtain ⟨t, ends, replied, same, phases⟩ := release_ends taken (ran.trans (by rw [isU]; rfl)) (by rw [frame]) standing
      refine ⟨t, ends, replied, quiet_of_tests same frame, fun b inside fault r at_ free => ?_, fun k r at_ other => ?_⟩
      · have asked : Asked id.toNat .toOpen u.vs b.valve := by
          rw [isU]
          refine requestValves_asked (List.mem_filter.mpr ⟨inside, fault⟩) ⟨r, at_, fun j owned => ?_⟩
          rcases free with mine | unowned
          · cases mine.symm.trans owned
            exact sameId
          · exact absurd (unowned.symm.trans owned) nofun
        rw [sameId]
        exact asked.phases phases
      · have kept : valveAt u.vs k = some r := by
          rw [isU]
          refine (requestValves_other fun b inside => ?_).trans at_
          obtain ⟨held, fault⟩ := List.mem_filter.mp inside
          exact other b held fault
        obtain ⟨p, moved⟩ := phases k
        rw [kept] at moved
        exact ⟨_, moved, rfl, rfl, rfl⟩

end Sys2Proof.Machine
end

section
/-! A command placed again in its Action Queue (sections 6.3 and 6.4): where it stands once the legs have gone on. -/

namespace Sys2Proof.Machine

open Sys2Proof

section Placed

variable {k : NodeKey} {target : ValveTarget} {r : ValveRec} {v w : ValveBlock}

/-- The command stands in the Action Queue of its leg, once, and in no deferral order of it. -/
def InQueue (k : NodeKey) (target : ValveTarget) (r : ValveRec) (v : ValveBlock) : Prop :=
  valveAt v k = some { r with phase := .queued } ∧
    (∃ before later, quadGet v.queues k.leg = before ++ ⟨k, target, r.tag⟩ :: later ∧ ∀ e ∈ before ++ later, e.key ≠ k) ∧
    k ∉ quadGet v.deferred k.leg

/-- The command is the youngest in the deferral order of its leg. -/
def InOrder (k : NodeKey) (r : ValveRec) (v : ValveBlock) : Prop :=
  valveAt v k = some { r with phase := .deferred } ∧ (∀ e ∈ quadGet v.queues k.leg, e.key ≠ k) ∧
    ∃ before, quadGet v.deferred k.leg = before ++ [k] ∧ k ∉ before

/-- A command placed on a leg where it stood neither queued nor deferred. -/
theorem placeCommand_stands (found : valveAt v k = some r) (aside : AsideOn k.leg k v) :
    InQueue k target r (placeCommand k target r.tag v) ∨ InOrder k r (placeCommand k target r.tag v) := by
  obtain ⟨unqueued, undeferred⟩ := aside
  have absent : (quadGet v.queues k.leg).any (fun e => decide (e.key = k)) = false := by simpa using unqueued
  have recorded (w : ValveBlock) (p : StrokePhase) (same : w.valves = v.valves) :
      valveAt (setValve k (fun r => { r with phase := p }) w) k = some { r with phase := p } := by
    rw [valveAt_setValve, show valveAt w k = some r by unfold valveAt at found ⊢; rw [same]; exact found]
    rfl
  simp only [placeCommand]
  rw [absent, if_neg Bool.false_ne_true, if_neg undeferred]
  split
  · refine .inl ⟨recorded _ _ rfl, ⟨quadGet v.queues k.leg, [], ?_, ?_⟩, undeferred⟩
    · exact quadGet_quadSet ..
    · rw [List.append_nil]
      exact unqueued
  · exact .inr ⟨recorded _ _ rfl, unqueued, quadGet v.deferred k.leg, quadGet_quadSet .., undeferred⟩

/-- A command placed moves the queue and the deferral order of its own leg alone. -/
theorem placeCommand_others {t : ValveTarget} {tag : Byte} {m : Leg} (other : m ≠ k.leg) :
    quadGet (placeCommand k t tag v).queues m = quadGet v.queues m ∧
      quadGet (placeCommand k t tag v).deferred m = quadGet v.deferred m := by
  simp only [placeCommand]
  split
  · exact ⟨quadGet_quadSet_ne _ _ other, rfl⟩
  · split
    · exact ⟨rfl, rfl⟩
    · split
      · exact ⟨quadGet_quadSet_ne _ _ other, rfl⟩
      · exact ⟨rfl, quadGet_quadSet_ne _ _ other⟩

/-- Boundaries of other legs leave it where it stands. -/
theorem OnLeg.stands {m : Leg} (moved : OnLeg m k v w) (aside : AsideOn m k v) (other : k.leg ≠ m) :
    (InQueue k target r v → InQueue k target r w) ∧ (InOrder k r v → InOrder k r w) := by
  obtain ⟨queue, order⟩ := moved.others k.leg other
  have same := (moved.keeps aside).1
  unfold InQueue InOrder
  rw [queue, order, same]
  exact ⟨fun h => h, fun h => h⟩

/-- Another command that enters the queue from the deferral order leaves it where it stands. -/
theorem refilled_stands {j : NodeKey} {t : ValveTarget} {tag : Byte} (other : j ≠ k)
    (h : InQueue k target r v ∨ InOrder k r v) :
    let w := setValve j (fun r => { r with phase := .queued })
      { v with queues := quadSet v.queues k.leg (quadGet v.queues k.leg ++ [⟨j, t, tag⟩]) }
    InQueue k target r w ∨ InOrder k r w := by
  intro w
  have same : valveAt w k = valveAt v k := valveAt_setValve_ne _ _ other.symm
  have queue : quadGet w.queues k.leg = quadGet v.queues k.leg ++ [⟨j, t, tag⟩] := quadGet_quadSet ..
  rcases h with ⟨record, ⟨before, later, stands, others⟩, undeferred⟩ | ⟨record, unqueued, waits⟩
  · refine .inl ⟨same.trans record, ⟨before, later ++ [⟨j, t, tag⟩], ?_, fun e inside => ?_⟩, undeferred⟩
    · rw [queue, stands, List.append_assoc]
      rfl
    · rw [← List.append_assoc] at inside
      rcases List.mem_append.mp inside with old | new
      · exact others e old
      · rw [List.mem_singleton.mp new]
        exact other
  · refine .inr ⟨same.trans record, fun e inside => ?_, waits⟩
    rw [queue] at inside
    rcases List.mem_append.mp inside with old | new
    · exact unqueued e old
    · rw [List.mem_singleton.mp new]
      exact other

/-- A refill of its own leg may queue it. -/
theorem refillOnce_stands (targeted : r.target = some target) (h : InQueue k target r v ∨ InOrder k r v) :
    InQueue k target r (refillOnce k.leg v) ∨ InOrder k r (refillOnce k.leg v) := by
  unfold refillOnce
  split
  · split
    · exact h
    next j rest waiting =>
      have shortened : quadGet (quadSet v.deferred k.leg rest) k.leg = rest := quadGet_quadSet ..
      by_cases own : j = k
      · subst own
        rcases h with ⟨-, -, undeferred⟩ | ⟨record, unqueued, before, order, youngest⟩
        · exact absurd (waiting ▸ List.mem_cons_self) undeferred
        · cases before with
          | cons c before =>
            rw [waiting] at order
            cases order
            exact absurd List.mem_cons_self youngest
          | nil =>
            rw [waiting] at order
            cases order
            rw [record]
            dsimp only
            rw [targeted]
            refine .inl ⟨?_, ⟨quadGet v.queues j.leg, [], quadGet_quadSet .., by rw [List.append_nil]; exact unqueued⟩, ?_⟩
            · refine (valveAt_setValve ..).trans ?_
              exact congrArg (Option.map _) record
            · have empty : ∀ d : List NodeKey, d = [] → j ∉ d := by
                rintro _ rfl
                exact List.not_mem_nil
              exact empty _ shortened
      · have kept : InQueue k target r { v with deferred := quadSet v.deferred k.leg rest } ∨
            InOrder k r { v with deferred := quadSet v.deferred k.leg rest } := by
          rcases h with ⟨record, stands, undeferred⟩ | ⟨record, unqueued, before, order, youngest⟩
          · refine .inl ⟨record, stands, ?_⟩
            rw [shortened]
            exact fun inside => undeferred (waiting ▸ List.mem_cons_of_mem j inside)
          · cases before with
            | nil =>
              rw [waiting] at order
              cases order
              exact absurd rfl own
            | cons c before =>
              rw [waiting] at order
              cases order
              exact .inr ⟨record, unqueued, before, shortened, fun inside => youngest (List.mem_cons_of_mem _ inside)⟩
        dsimp only
        split
        · split
          · exact refilled_stands own kept
          · exact kept
        · exact kept
  · exact h

theorem refill_stands (targeted : r.target = some target) (n : Nat) (h : InQueue k target r v ∨ InOrder k r v) :
    InQueue k target r (refill k.leg n v) ∨ InOrder k r (refill k.leg n v) := by
  induction n generalizing v with
  | zero => exact h
  | succ n ih => exact ih (refillOnce_stands targeted h)

/-- The head that its leg takes is the command, or leaves it where it stands. -/
theorem takeHead_stands {e : ActionEntry} (targeted : r.target = some target) (h : InQueue k target r v ∨ InOrder k r v)
    (taken : takeHead k.leg v = some (e, w)) :
    (InQueue k target r w ∨ InOrder k r w) ∨
      e = ⟨k, target, r.tag⟩ ∧ valveAt w k = some { r with phase := .sent } ∧ AsideOn k.leg k w := by
  unfold takeHead at taken
  split at taken
  · cases taken
  next e' rest waiting =>
    cases taken
    have shortened : quadGet (quadSet v.queues k.leg rest) k.leg = rest := quadGet_quadSet ..
    have passed (other : e.key ≠ k) (kept : InQueue k target r { v with queues := quadSet v.queues k.leg rest } ∨
        InOrder k r { v with queues := quadSet v.queues k.leg rest }) :
        InQueue k target r (refill k.leg 8 (setValve e.key (fun r => { r with phase := .sent })
          { v with queues := quadSet v.queues k.leg rest })) ∨ InOrder k r (refill k.leg 8
            (setValve e.key (fun r => { r with phase := .sent }) { v with queues := quadSet v.queues k.leg rest })) := by
      refine refill_stands targeted 8 ?_
      unfold InQueue InOrder at kept ⊢
      rw [valveAt_setValve_ne _ _ other.symm]
      exact kept
    rcases h with ⟨record, ⟨before, later, stands, others⟩, undeferred⟩ | ⟨record, unqueued, waits⟩
    · rw [waiting] at stands
      cases before with
      | nil =>
        cases stands
        have aside : AsideOn k.leg k (setValve k (fun r => { r with phase := .sent })
            { v with queues := quadSet v.queues k.leg rest }) :=
          ⟨fun f inside => others f (by rw [← shortened]; exact inside), undeferred⟩
        obtain ⟨same, still⟩ := (refill_onLeg k.leg 8 _).keeps aside
        refine .inr ⟨rfl, same.trans ((valveAt_setValve ..).trans ?_), still⟩
        exact congrArg (Option.map _) record
      | cons f before =>
        cases stands
        refine .inl (passed (others e List.mem_cons_self) (.inl ⟨record, ⟨before, later, shortened, fun f inside => ?_⟩, undeferred⟩))
        exact others f (List.mem_cons_of_mem e inside)
    · refine .inl (passed (unqueued e (by rw [waiting]; exact List.mem_cons_self)) (.inr ⟨record, fun f inside => ?_, waits⟩))
      rw [shortened] at inside
      exact unqueued f (by rw [waiting]; exact List.mem_cons_of_mem e inside)

end Placed

/-! ### The boundaries of a step -/

section Steps

variable {k : NodeKey} {target : ValveTarget} {r : ValveRec} {s : State} {l : Leg}

/-- The command is in flight on its leg. -/
def InFlight (k : NodeKey) (r : ValveRec) (s : State) : Prop :=
  valveAt s.vs k = some { r with phase := .sent } ∧ AsideOn k.leg k s.vs ∧
    ∃ y limit, (legAt s k.leg).txn = some y ∧ y.purpose = .valveSet r.tag limit ∧ y.key = k

/-- The command stands in its queue or order, or is in flight, and in no queue or order of another leg. -/
def Stands (k : NodeKey) (target : ValveTarget) (r : ValveRec) (s : State) : Prop :=
  (∀ m ≠ k.leg, AsideOn m k s.vs) ∧ ((InQueue k target r s.vs ∨ InOrder k r s.vs) ∨ InFlight k r s)

/-- A boundary of another leg. -/
theorem Stands.boundary_other (h : Stands k target r s) (other : l ≠ k.leg) : Stands k target r (boundary l s) := by
  obtain ⟨elsewhere, here⟩ := h
  have legs := (boundary_step l s).others k.leg other.symm
  have moved : OnLeg l k s.vs (boundary l s).vs := by
    rcases boundary_vs l s with same | ⟨e, taken⟩
    · rw [same]
      exact .refl
    · exact takeHead_onLeg taken
  refine ⟨fun m hm => ?_, ?_⟩
  · by_cases own : m = l
    · rw [own]
      exact (moved.keeps (elsewhere l other)).2
    · obtain ⟨queue, order⟩ := moved.others m own
      unfold AsideOn
      rw [queue, order]
      exact elsewhere m hm
  · obtain ⟨queue, order⟩ := moved.others k.leg other.symm
    rcases here with (queued | ordered) | ⟨record, aside, flight⟩
    · exact .inl (.inl ((moved.stands (elsewhere l other) other.symm).1 queued))
    · exact .inl (.inr ((moved.stands (target := target) (elsewhere l other) other.symm).2 ordered))
    · refine .inr ⟨(moved.keeps (elsewhere l other)).1.trans record, ?_, ?_⟩
      · unfold AsideOn
        rw [queue, order]
        exact aside
      · rw [legs]
        exact flight

/-- A boundary of its own leg, which takes the command when it is the head. -/
theorem Stands.boundary_own (targeted : r.target = some target) (h : Stands k target r s) :
    Stands k target r (boundary k.leg s) := by
  obtain ⟨elsewhere, here⟩ := h
  unfold boundary
  split
  next ready =>
    have waiting : InQueue k target r s.vs ∨ InOrder k r s.vs := by
      refine here.resolve_right fun ⟨_, _, y, limit, flying, _⟩ => ?_
      unfold legReady at ready
      rw [flying] at ready
      cases ready
    unfold boundaryQueue
    split
    next e v taken =>
      refine ⟨fun m hm => ?_, ?_⟩
      · obtain ⟨queue, order⟩ := (takeHead_onLeg (k := k) taken).others m hm
        change AsideOn m k v
        unfold AsideOn
        rw [queue, order]
        exact elsewhere m hm
      · rcases takeHead_stands targeted waiting taken with stands | ⟨rfl, record, aside⟩
        · exact .inl stands
        · exact .inr ⟨record, aside, _, _, congrArg LegEngine.txn (legAt_setLeg ..), rfl, rfl⟩
    · unfold Stands
      rw [boundarySweep_vs]
      exact ⟨elsewhere, .inl waiting⟩
  · exact ⟨elsewhere, here⟩

theorem Stands.settleAll (targeted : r.target = some target) (h : Stands k target r s) : Stands k target r (settleAll s) := by
  have gone : Stands k target r (boundaries s) := by
    refine List.foldlRecOn (motive := Stands k target r) allLegs _ h fun t ht l _ => ?_
    by_cases own : l = k.leg
    · rw [own]
      exact ht.boundary_own targeted
    · exact ht.boundary_other own
  have valves := congrArg (fun u : State => u.vs.valves) (quiet_settle (boundaries s))
  have queues := congrArg (fun u : State => u.vs.queues) (quiet_settle (boundaries s))
  have deferred := congrArg (fun u : State => u.vs.deferred) (quiet_settle (boundaries s))
  have legs := settle_legs (boundaries s) k.leg
  unfold Stands InQueue InOrder InFlight AsideOn valveAt at gone ⊢
  rw [show (Machine.settleAll s).vs.valves = _ from valves, show (Machine.settleAll s).vs.queues = _ from queues,
    show (Machine.settleAll s).vs.deferred = _ from deferred, show legAt (Machine.settleAll s) k.leg = _ from legs]
  exact gone

/-- What the obligation says of a command placed again. -/
theorem Stands.placedAgain (h : Stands k target r s) : ∃ r', valveAt s.vs k = some r' ∧ r' = { r with phase := r'.phase } ∧
    placedAgain k.leg k target r' s := by
  obtain ⟨-, (⟨record, ⟨before, later, queue, -⟩, -⟩ | ⟨record, -, before, order, -⟩) | ⟨record, -, y, limit, flying, purpose, key⟩⟩ := h
  · exact ⟨_, record, rfl, .inl ⟨rfl, by rw [queue]; exact List.mem_append.mpr (.inr List.mem_cons_self)⟩⟩
  · exact ⟨_, record, rfl, .inr (.inl ⟨rfl, by rw [order]; exact List.mem_append.mpr (.inr List.mem_cons_self)⟩)⟩
  · exact ⟨_, record, rfl, .inr (.inr ⟨rfl, y, limit, flying, purpose, key⟩)⟩

end Steps

end Sys2Proof.Machine
end

section
/-! The outcome of a VALVE SET (sections 6.2 and 6.4): an accepted command starts its stroke, a failed attempt is repeated, and
the third abandons the command. -/

namespace Sys2Proof.Machine

open Sys2Proof

/-! ### Presence outcomes of a node that stays as it was -/

section Presence

variable {s : State} {k : NodeKey} {n : NodeRun}

/-- A presence outcome that changes no presence moves the Node Directory alone. -/
theorem nodeOutcome_steady {reply : Bool} (found : assocGet k s.nd.nodes = some n)
    (same : (presenceAfter reply n).presence = n.presence) :
    nodeOutcome k reply s = { s with nd := (nodeOutcome k reply s).nd } := by
  cases entry : nodeByKey s.ts.active k with
  | none =>
    unfold nodeOutcome
    rw [found, entry]
  | some p =>
    rw [nodeOutcome_eq (i := p.1) (r := p.2) found entry, if_pos same, presenceNoted_frame]

/-- What a presence outcome may move. -/
theorem nodeOutcome_keeps (k : NodeKey) (reply : Bool) (s : State) : nodeOutcome k reply s =
    { s with nd := (nodeOutcome k reply s).nd, de := (nodeOutcome k reply s).de, ie := (nodeOutcome k reply s).ie,
             vs := (nodeOutcome k reply s).vs, xc := (nodeOutcome k reply s).xc } := by
  cases found : assocGet k s.nd.nodes with
  | none =>
    unfold nodeOutcome
    rw [found]
  | some n =>
    cases entry : nodeByKey s.ts.active k with
    | none =>
      unfold nodeOutcome
      rw [found, entry]
    | some p => rw [nodeOutcome_frame found (by rw [entry]; rfl)]

theorem presenceAfter_steady (present : n.presence = .present) (low : n.misses ≤ 1) (reply : Bool) :
    (presenceAfter reply n).presence = n.presence := by
  cases reply with
  | true => exact present.symm
  | false =>
    rw [(presenceAfter_miss n).2, if_neg (by omega)]

end Presence

/-! ### A failed attempt -/

section Attempts

variable {s : State} {k : NodeKey} {r : ValveRec} {target : ValveTarget}

theorem attemptFailed_places (found : valveAt s.vs k = some r) (targeted : r.target = some target) (few : r.attempts + 1 < 3) :
    attemptFailed k s = { s with
      vs := placeCommand k target r.tag (setValve k (fun r' => { r' with attempts := r.attempts + 1 }) s.vs) } := by
  unfold attemptFailed
  rw [found]
  dsimp only
  rw [targeted]
  exact if_pos few

/-- The record that the third failed attempt leaves, before its owner is told. -/
def abandoned (r : ValveRec) : ValveRec :=
  { r with attempts := r.attempts + 1, phase := .abandoned, fault := if r.fault = .missing then .missing else .unreachable }

theorem attemptFailed_abandons (found : valveAt s.vs k = some r) (targeted : r.target = some target)
    (many : 3 ≤ r.attempts + 1) : ∃ f : ValveRec → ValveRec, f r = abandoned r ∧ attemptFailed k s = changeFault k f s := by
  refine ⟨fun r' => { r' with attempts := r.attempts + 1, phase := .abandoned, fault := orMissing r'.fault .unreachable }, rfl, ?_⟩
  unfold attemptFailed
  rw [found]
  dsimp only
  rw [targeted]
  exact if_neg (by omega)

/-- What an escalation leaves of the incident's record. -/
theorem escalate_record {i : Incident} {id : Nat} {why : Reason} (inside : i ∈ s.ie.incidents) (same : i.id = id) :
    ∃ j ∈ (escalate id why s).ie.incidents, j.id = id ∧ j.state = .escalated ∧ j.reason = some why := by
  obtain ⟨w, isW⟩ : ∃ w, w = changeIncident id (fun i => { i with state := .escalated, reason := some why, probePhase := .none }) s :=
    ⟨_, rfl⟩
  have record : ∃ j ∈ w.ie.incidents, j.id = id ∧ j.state = .escalated ∧ j.reason = some why := by
    rw [isW]
    exact ⟨_, List.mem_map.mpr ⟨i, inside, if_pos same⟩, same, rfl, rfl⟩
  have policed : ∃ j ∈ (headerPolicy id w).ie.incidents, j.id = id ∧ j.state = .escalated ∧ j.reason = some why := by
    obtain ⟨j, inside', sameId, state, reason⟩ := record
    unfold headerPolicy
    split
    · unfold policyClose
      split <;> exact ⟨j, inside', sameId, state, reason⟩
    · exact ⟨_, List.mem_map.mpr ⟨j, inside', if_pos sameId⟩, sameId, state, reason⟩
  unfold escalate
  rw [← isW, (tellExercise_tests (some .escalated) (headerPolicy id w)).frame]
  exact policed

/-- A fault of a valve that its incident is closing escalates it. -/
theorem valveFaultEvent_escalates {id : Nat} {i : Incident} {b : BranchId} {f : ValveFault} (found : incidentById s id = some i)
    (held : i.held.find? (fun b => decide (b.valve = k)) = some b) (isolating : i.state = .isolating) (aimed : i.target = some b)
    (faulty : f ≠ .none) : valveFaultEvent id k f s = escalate id .valveFault s := by
  have branch : heldBranch i k = some b := held
  unfold valveFaultEvent
  rw [found]
  dsimp only
  rw [branch]
  dsimp only
  rw [if_pos ⟨faulty, by rw [decide_eq_true (show i.state = .isolating ∧ i.target = some b from ⟨isolating, aimed⟩)]; rfl⟩]

/-- A fault of a valve that is not under test does not reach the exercise. -/
theorem exerciseFaulted_untested {f : ValveFault} (untested : ∀ y, s.xc.test = some y → y.key ≠ k) :
    exerciseFaulted k f s = s := by
  unfold exerciseFaulted
  split
  next testing _ => exact if_neg (untested _ testing)
  · rfl

/-- A fault of a valve that waits in no queue leaves it so, whatever test is under way. -/
theorem exerciseFaulted_keeps {f : ValveFault} (found : valveAt s.vs k = some r) (faulty : r.fault ≠ .none)
    (aside : Aside k s.vs) : Aside k (exerciseFaulted k f s).vs ∧
      exerciseFaulted k f s = { s with vs := (exerciseFaulted k f s).vs, xc := (exerciseFaulted k f s).xc } := by
  by_cases testing : ∃ y, s.xc.test = some y ∧ y.key = k
  · obtain ⟨y, testing, same⟩ := testing
    cases cause : causeOfFault f with
    | none =>
      have stays : exerciseFaulted k f s = s := by
        unfold exerciseFaulted
        rw [testing, cause]
      rw [stays]
      exact ⟨aside, rfl⟩
    | some c =>
      obtain ⟨-, still, frame, -⟩ := exerciseFaulted_leaves testing same cause found faulty aside
      exact ⟨still, frame⟩
  · rw [exerciseFaulted_untested fun y h same => testing ⟨y, h, same⟩]
    exact ⟨aside, rfl⟩

theorem abandoned_faulty (r : ValveRec) : (abandoned r).fault ≠ .none := by
  unfold abandoned
  dsimp only
  split <;> nofun

theorem abandoned_fault (sound : r.fault = .none) : (abandoned r).fault = .unreachable := by
  unfold abandoned
  rw [sound]
  rfl

/-- The third failed attempt without an owner. -/
theorem abandons_unowned (found : valveAt s.vs k = some r) (free : r.owner = .none) :
    abandons s k r { s with vs := setValve k (fun _ => giveUp (abandoned r)) s.vs } := by
  refine ⟨fun _ => ?_, fun id owned => absurd (free.symm.trans owned) nofun, fun y owned => absurd (free.symm.trans owned) nofun⟩
  rw [show giveUp (abandoned r) = { abandoned r with target := none, phase := .none } from if_pos ⟨free, .inr rfl⟩]
  simp only [valveAt_setValve, found, Option.map_some]
  rfl

/-- The third failed attempt at an incident's valve. -/
theorem abandons_owned {id : Nat} {f : ValveRec → ValveRec} (found : valveAt s.vs k = some r) (makes : f r = abandoned r)
    (owned : r.owner = .incident id) (aside : Aside k s.vs) : abandons s k r (changeFault k f s) := by
  obtain ⟨record, -, -⟩ := changeFault_owned found makes owned rfl (abandoned_faulty r) aside
  refine ⟨fun free => absurd (owned.symm.trans free) nofun, fun id' owned' => ?_, fun y other => absurd (owned.symm.trans other) nofun⟩
  cases owned.symm.trans owned'
  refine ⟨record, fun i b open_ held isolating aimed sound => ?_⟩
  rw [changeFault_eq found makes, owned, abandoned_fault sound, if_neg (by rw [sound]; nofun)]
  change ∃ j ∈ (valveFaultEvent id k .unreachable _).ie.incidents, _
  rw [valveFaultEvent_escalates (by exact open_) held isolating aimed (by decide)]
  exact escalate_record (mem_of_incidentById open_) (id_of_incidentById open_)

/-- The third failed attempt at the valve under test. -/
theorem abandons_tested {f : ValveRec → ValveRec} (found : valveAt s.vs k = some r) (makes : f r = abandoned r)
    (owned : r.owner = .exercise) (aside : Aside k s.vs) : abandons s k r (changeFault k f s) := by
  refine ⟨fun free => absurd (owned.symm.trans free) nofun, fun id other => absurd (owned.symm.trans other) nofun,
    fun y _ testing same sound => ?_⟩
  obtain ⟨record, -, -, more, results⟩ := changeFault_tested (c := .unreachable) found makes owned rfl testing same
    (by rw [abandoned_fault sound, sound]; nofun) (by rw [abandoned_fault sound]; rfl) aside
  refine ⟨record.trans ?_, more, results⟩
  rw [show giveUp { abandoned r with owner := .none, unreliable := true } =
    { abandoned r with owner := .none, unreliable := true, target := none, phase := .none } from if_pos ⟨rfl, .inr rfl⟩]
  rfl

/-- The third failed attempt. -/
theorem attemptFailed_leaves (found : valveAt s.vs k = some r) (targeted : r.target = some target)
    (many : 3 ≤ r.attempts + 1) (aside : Aside k s.vs) :
    let t := attemptFailed k s
    Aside k t.vs ∧ t = { s with ie := t.ie, vs := t.vs, xc := t.xc } ∧ abandons s k r t := by
  obtain ⟨f, makes, changed⟩ := attemptFailed_abandons found targeted many
  rw [changed]
  intro t
  cases owned : r.owner with
  | none =>
    have isT : t = _ := changeFault_unowned found makes owned
    rw [isT]
    exact ⟨aside, rfl, abandons_unowned found owned⟩
  | incident id =>
    obtain ⟨-, still, frame⟩ := changeFault_owned found makes owned rfl (abandoned_faulty r) aside
    exact ⟨still, frame, abandons_owned found makes owned aside⟩
  | exercise =>
    refine and_assoc.mp ⟨?_, abandons_tested found makes owned aside⟩
    obtain ⟨u, isU⟩ : ∃ u : State, u = { s with vs := setValve k (fun _ => abandoned r) s.vs } := ⟨_, rfl⟩
    have isT : t = if (abandoned r).fault = r.fault then u else exerciseFaulted k (abandoned r).fault u := by
      refine (changeFault_eq found makes).trans ?_
      rw [owned, giveUp_owned (by rw [show (abandoned r).owner = _ from owned]; nofun), isU]
      rfl
    have kept : Aside k u.vs ∧ u = { s with ie := u.ie, vs := u.vs, xc := u.xc } := by
      rw [isU]
      exact ⟨aside, rfl⟩
    rw [isT]
    split
    · exact kept
    · obtain ⟨still, frame⟩ := exerciseFaulted_keeps (f := (abandoned r).fault) (s := u) (k := k) (r := abandoned r)
        (by rw [isU]; simp only [valveAt_setValve, found, Option.map_some]) (abandoned_faulty r) kept.1
      refine ⟨still, ?_⟩
      generalize exerciseFaulted k (abandoned r).fault u = w at frame ⊢
      rw [frame, kept.2]

/-- A miss, a refusal and an ACK of another tag are a failed attempt, then the presence outcome of the node. -/
theorem setOutcome_failed {limit : Nat} {reply : Option Frame} (found : valveAt s.vs k = some r) (targeted : r.target = some target)
    (failed : ∀ f, reply = some f → ∃ tag result, f.payload = [tag, result] ∧ (result = 0x01 ∨ result = 0x00 ∧ tag ≠ r.tag)) :
    setOutcome k r.tag limit reply s = nodeOutcome k reply.isSome (attemptFailed k s) := by
  have outcome (ack : Option (Byte × Bool)) (refused : ∀ tag, ack = some (tag, true) → tag ≠ r.tag) :
      valveOutcome k r.tag limit ack s = attemptFailed k s := by
    unfold valveOutcome
    rw [found]
    dsimp only
    rw [if_neg (by rw [targeted]; simp)]
    split
    next tag => exact if_neg (refused tag rfl)
    · rfl
  cases reply with
  | none =>
    unfold setOutcome
    dsimp only
    rw [outcome none nofun]
    rfl
  | some f =>
    obtain ⟨tag, result, payload, refused⟩ := failed f rfl
    unfold setOutcome
    dsimp only
    rw [payload]
    rcases refused with rfl | ⟨rfl, other⟩
    · exact congrArg (nodeOutcome k true) (outcome (some (tag, false)) nofun)
    · refine congrArg (nodeOutcome k true) (outcome (some (tag, true)) fun tag' same => ?_)
      cases same
      exact other

end Attempts

/-! ### What the obligation says of a failed attempt -/

section Failed

variable {s t u w : State} {l : Leg} {x : Txn} {r : ValveRec} {target : ValveTarget} {n : NodeRun} {limit : Nat}

/-- The end of a step whose work moved a node, the incidents, the valves and the exercise. -/
theorem quiet_of_outcome (same : quiet t = quiet { w with le := t.le, vs := t.vs })
    (frame : w = { s with le := w.le, nd := w.nd, ie := w.ie, vs := w.vs, xc := w.xc }) :
    quiet t = quiet { s with le := t.le, nd := t.nd, ie := t.ie, vs := t.vs, xc := t.xc } := by
  rw [show quiet { s with le := t.le, nd := t.nd, ie := t.ie, vs := t.vs, xc := t.xc } =
    { quiet s with
      le := (quiet t).le, nd := (quiet t).nd, ie := (quiet t).ie, vs := (quiet t).vs, xc := (quiet t).xc } from rfl, same, frame]
  rfl

theorem abandons_congr {k : NodeKey} {s' t' : State} (before : s'.ie = s.ie ∧ s'.xc = s.xc ∧ s'.rt = s.rt)
    (after : t'.vs = t.vs ∧ t'.ie = t.ie ∧ t'.xc = t.xc) (h : abandons s k r t) : abandons s' k r t' := by
  obtain ⟨incidents, exercise, round⟩ := before
  obtain ⟨valves, incidents', exercise'⟩ := after
  unfold abandons incidentById at h ⊢
  rw [incidents, exercise, round, valves, incidents', exercise']
  exact h

/-- What the third failed attempt leaves still stands when the step has ended. -/
theorem abandons_settles (h : abandons s x.key r w) (same : quiet t = quiet { w with le := t.le, vs := t.vs })
    (kept : valveAt t.vs x.key = valveAt w.vs x.key) : abandons s x.key r t := by
  obtain ⟨unowned, owned, tested⟩ := h
  have tests := congrArg (fun v : State => v.xc) same
  unfold abandons
  rw [kept, show t.xc = w.xc from tests]
  refine ⟨unowned, fun id own => ⟨(owned id own).1, fun i b open_ held isolating aimed sound => ?_⟩, tested⟩
  obtain ⟨j, inside, sameId, state, reason⟩ := (owned id own).2 i b open_ held isolating aimed sound
  obtain ⟨j', inside', alike⟩ := incident_of_quiet same inside
  have ids := congrArg Incident.id alike
  have states := congrArg Incident.state alike
  have reasons := congrArg Incident.reason alike
  exact ⟨j', inside', Eq.trans ids sameId, Eq.trans states state, Eq.trans reasons reason⟩

/-- A failed attempt and what its step leaves, from the state at the row's moment. -/
theorem failed_of_ending (purpose : x.purpose = .valveSet r.tag limit) (own : x.key.leg = l)
    (time : u.nd = s.nd ∧ u.vs = s.vs ∧ u.ie = s.ie ∧ u.xc = s.xc ∧ u.rt = s.rt)
    (found : valveAt s.vs x.key = some r) (targeted : r.target = some target) (aside : Aside x.key s.vs)
    (node : assocGet x.key s.nd.nodes = some n) (present : n.presence = .present) (low : n.misses ≤ 1)
    {reply : Option (Frame × List Byte)} (failed : ∀ f, reply.map (·.1) = some f →
      ∃ tag result, f.payload = [tag, result] ∧ (result = 0x01 ∨ result = 0x00 ∧ tag ≠ r.tag)) (held disregard : Bool) :
    let t := settleAll (concludeTxn l x reply (lineFreed l held disregard u))
    quiet t = quiet { u with le := t.le, nd := t.nd, ie := t.ie, vs := t.vs, xc := t.xc } ∧
      (r.attempts + 1 < 3 → ∃ r', valveAt t.vs x.key = some r' ∧
        r' = { r with attempts := r.attempts + 1, phase := r'.phase } ∧ placedAgain l x.key target r' t) ∧
      (3 ≤ r.attempts + 1 → abandons s x.key r t) := by
  obtain ⟨nodes, valves, incidents, exercise, round⟩ := time
  obtain ⟨w₀, isW₀⟩ : ∃ w, w = lineFreed l held disregard u := ⟨_, rfl⟩
  have freed : w₀ = { u with le := w₀.le } := by
    rw [isW₀]
    rfl
  have found₀ : valveAt w₀.vs x.key = some r := by rw [freed, show ({ u with le := w₀.le } : State).vs = _ from valves]; exact found
  have aside₀ : Aside x.key w₀.vs := by rw [freed, show ({ u with le := w₀.le } : State).vs = _ from valves]; exact aside
  have concluded : concludeTxn l x reply w₀ = nodeOutcome x.key (reply.map (·.1)).isSome (attemptFailed x.key w₀) := by
    unfold concludeTxn deliver
    rw [purpose]
    exact setOutcome_failed found₀ targeted failed
  rw [← isW₀, concluded]
  obtain ⟨w₁, isW₁⟩ : ∃ w, w = attemptFailed x.key w₀ := ⟨_, rfl⟩
  have frame₁ : w₁ = { w₀ with ie := w₁.ie, vs := w₁.vs, xc := w₁.xc } := by
    rw [isW₁]
    by_cases few : r.attempts + 1 < 3
    · rw [attemptFailed_places found₀ targeted few]
    · exact (attemptFailed_leaves found₀ targeted (by omega) aside₀).2.1
  have node₁ : assocGet x.key w₁.nd.nodes = some n := by
    rw [frame₁, freed]
    change assocGet x.key u.nd.nodes = _
    rw [nodes]
    exact node
  have steady := nodeOutcome_steady (reply := (reply.map (·.1)).isSome) node₁ (presenceAfter_steady present low _)
  rw [← isW₁]
  obtain ⟨w₂, isW₂⟩ : ∃ w, w = nodeOutcome x.key (reply.map (·.1)).isSome w₁ := ⟨_, rfl⟩
  rw [← isW₂] at steady ⊢
  have vs₂ : w₂.vs = w₁.vs := by rw [steady]
  refine ⟨quiet_of_outcome (quiet_settleAll w₂) ?_, fun few => ?_, fun many => ?_⟩
  · rw [steady, frame₁, freed]
  · have places := attemptFailed_places found₀ targeted few
    have stands : Stands x.key target { r with attempts := r.attempts + 1 } w₂ := by
      unfold Stands
      rw [vs₂, isW₁, places]
      refine ⟨fun m hm => ?_, .inl (placeCommand_stands (r := { r with attempts := r.attempts + 1 }) ?_ (aside₀ x.key.leg))⟩
      · obtain ⟨queue, order⟩ := placeCommand_others (k := x.key) (t := target) (tag := r.tag)
          (v := setValve x.key (fun r' => { r' with attempts := r.attempts + 1 }) w₀.vs) hm
        unfold AsideOn
        dsimp only
        rw [queue, order]
        exact aside₀ m
      · rw [valveAt_setValve, found₀]
        rfl
    obtain ⟨r', record, same, again⟩ := (stands.settleAll (by exact targeted)).placedAgain
    exact ⟨r', record, same, own ▸ again⟩
  · obtain ⟨still, -, leaves⟩ := attemptFailed_leaves found₀ targeted many aside₀
    rw [← isW₁] at still leaves
    have moved : abandons s x.key r w₂ := by
      refine abandons_congr ⟨?_, ?_, ?_⟩ ⟨vs₂, by rw [steady], by rw [steady]⟩ leaves <;> rw [freed]
      exacts [incidents.symm, exercise.symm, round.symm]
    exact abandons_settles moved (quiet_settleAll w₂) ((settleAll_unmoved x.key w₂).keeps (by rw [vs₂]; exact still)).1

end Failed

/-! ### An accepted command -/

section Accepted

variable {s : State} {k : NodeKey} {r left : ValveRec} {f : ValveRec → ValveRec} {l : Leg} {x : Txn}

/-- A change that leaves the fault or clears it moves the record alone of the valves, and tells the owner no fault. -/
theorem changeFault_clears (found : valveAt s.vs k = some r) (makes : f r = left)
    (clears : left.fault = r.fault ∨ left.fault = .none) :
    changeFault k f s = { s with ie := (changeFault k f s).ie, vs := setValve k (fun _ => giveUp left) s.vs } := by
  rw [changeFault_eq found makes]
  split
  · rfl
  next changed =>
    rw [clears.resolve_left changed]
    unfold reportFault
    split
    · rfl
    · simp only [valveFaultEvent]
      split
      · rfl
      · split
        · rfl
        · rw [if_neg fun h => h.1 rfl]
          rfl
    · unfold exerciseFaulted causeOfFault
      split
      next cause => cases cause
      · rfl

theorem giveUp_stroking (stroking : r.phase = .stroking) : giveUp r = r :=
  if_neg fun ended => by rw [stroking] at ended; rcases ended.2 with h | h <;> cases h

/-- The record under one key, replaced. -/
theorem valveAt_replaced {v : ValveBlock} (found : valveAt v k = some r) : valveAt (setValve k (fun _ => left) v) k = some left := by
  rw [valveAt_setValve, found]
  rfl

theorem presenceNoted_vs (k : NodeKey) (n : NodeRun) (reply : Bool) (s : State) : (presenceNoted k n reply s).vs = s.vs := by
  rw [presenceNoted_frame]

/-- What the presence of its node makes of a valve's record. -/
def seenAgain (r : ValveRec) : ValveRec :=
  if r.fault = .missing then
    { r with fault := if r.phase = .abandoned then .unreachable else if r.phase = .expired then .jammed else .none }
  else r

theorem valvePresence_present (k : NodeKey) (s : State) : valvePresence k .present s = changeFault k seenAgain s := rfl

theorem seenAgain_missing (missing : r.fault = .missing) (stroking : r.phase = .stroking) :
    seenAgain r = { r with fault := .none } := by
  unfold seenAgain
  rw [if_pos missing, stroking]
  rfl

theorem seenAgain_other (other : r.fault ≠ .missing) : seenAgain r = r := if_neg other

/-- The presence outcome of a reply leaves the record of a valve that strokes, but for its fault. -/
theorem nodeOutcome_stroking (found : valveAt s.vs k = some r) (stroking : r.phase = .stroking) (aside : Aside k s.vs) :
    (∃ fault, valveAt (nodeOutcome k true s).vs k = some { r with fault := fault }) ∧ Aside k (nodeOutcome k true s).vs := by
  have stays : (∃ fault, valveAt s.vs k = some { r with fault := fault }) ∧ Aside k s.vs := ⟨⟨r.fault, found⟩, aside⟩
  cases node : assocGet k s.nd.nodes with
  | none =>
    unfold nodeOutcome
    rw [node]
    exact stays
  | some n =>
    cases entry : nodeByKey s.ts.active k with
    | none =>
      unfold nodeOutcome
      rw [node, entry]
      exact stays
    | some p =>
      rw [nodeOutcome_eq (i := p.1) (r := p.2) node entry]
      split
      · rw [presenceNoted_vs]
        exact stays
      · split
        · have found' : valveAt (presenceNoted k n true s).vs k = some r := by rw [presenceNoted_vs]; exact found
          rw [show (presenceAfter true n).presence = .present from rfl, valvePresence_present]
          by_cases missing : r.fault = .missing
          · rw [changeFault_clears found' (seenAgain_missing missing stroking) (.inr rfl), giveUp_stroking (by exact stroking),
              presenceNoted_vs]
            exact ⟨⟨.none, valveAt_replaced found⟩, aside⟩
          · rw [changeFault_clears found' (seenAgain_other missing) (.inl rfl), giveUp_stroking stroking, presenceNoted_vs]
            exact ⟨⟨r.fault, valveAt_replaced found⟩, aside⟩
        · rw [show (rowPresence p.1 (presenceAfter true n).presence (presenceNoted k n true s)).vs = s.vs from presenceNoted_vs ..]
          exact stays
        · rw [presenceNoted_vs]
          exact stays

/-- The record that an accepted command has. -/
def accepted (clock limit : Nat) (r : ValveRec) : ValveRec :=
  { r with phase := .stroking, attempts := 0, start := some clock, limit := some limit,
           fault := if r.fault = .unreachable then .none else r.fault }

theorem commandAccepted_eq (k : NodeKey) (limit : Nat) (s : State) :
    commandAccepted k limit s = changeFault k (accepted s.clock limit) s := rfl

/-- A reply that ends within the window ends the transaction, whatever the line is. -/
theorem replyEnd_closes (found : (legAt s l).txn = some x) (opened : x.phase ≠ .sending) (bytes : List Byte) :
    exec (.legReplyEnd l bytes) s =
      .next (settleAll (concludeTxn l x (validReply x bytes) (lineFreed l false (legAt s l).disregard s))) := by
  obtain ⟨at_, limit, phase⟩ : ∃ at_ limit, x.phase = .window at_ limit := by
    cases phase : x.phase with
    | sending => exact absurd phase opened
    | window at_ limit => exact ⟨at_, limit, rfl⟩
  change Host.Outcome.next (settleAll (replyEnd l bytes s)) = _
  unfold replyEnd
  rw [windowTxn_of_window found phase]
  dsimp only
  rw [endTxn_eq, setLeg_setLeg, lineFreed]
  rfl

theorem validReply_of_good {f : Frame} {bytes : List Byte} (good : checkFrame bytes = .good f) (place : f.place = placeByte x.key)
    (kind : expectedKind x.purpose = some f.kind) : validReply x bytes = some (f, bytes) := by
  unfold validReply
  rw [good]
  dsimp only
  exact if_pos ⟨place, by rw [kind]; simp⟩

end Accepted

/-- Settles O48. -/
theorem anAcceptedCommandStartsTheStroke : Obligations.AnAcceptedCommandStartsTheStroke := by
  unfold Obligations.AnAcceptedCommandStartsTheStroke
  refine ⟨fun s l x limit r target n bytes opened w found purpose phase own attended record targeted aside node present low
      reply p row => ?_, fun s l x limit r f bytes found purpose opened record targeted aside good place kind payload => ?_⟩
  · have failed (u : State) (time : u.nd = s.nd ∧ u.vs = s.vs ∧ u.ie = s.ie ∧ u.xc = s.xc ∧ u.rt = s.rt)
        {reply : Option (Frame × List Byte)} (fails : ∀ f, reply.map (·.1) = some f →
          ∃ tag result, f.payload = [tag, result] ∧ (result = 0x01 ∨ result = 0x00 ∧ tag ≠ r.tag)) (held disregard : Bool) :=
      failed_of_ending (l := l) purpose own time record targeted aside node present low fails held disregard
    have none (u : State) (time : u.nd = s.nd ∧ u.vs = s.vs ∧ u.ie = s.ie ∧ u.xc = s.xc ∧ u.rt = s.rt) :=
      failed u time (reply := .none) nofun
    have reached := none (reachTime (opened + w) s) ⟨rfl, rfl, rfl, rfl, rfl⟩
    have now := none s ⟨rfl, rfl, rfl, rfl, rfl⟩
    simp only [endings, List.mem_cons, List.not_mem_nil, or_false] at row
    rcases row with rfl | rfl | rfl | rfl | rfl
    · exact ⟨_, windowExpiry_ends found phase attended false, reached _ _⟩
    · exact ⟨_, windowExpiry_ends found phase attended true, reached _ _⟩
    · exact ⟨_, lineIdle_ends found phase attended nofun, now _ _⟩
    · exact ⟨_, lineIdle_ends found phase attended nofun, now _ _⟩
    · have ran := replyEnd_ends found phase attended bytes
      refine ⟨_, ran, failed s ⟨rfl, rfl, rfl, rfl, rfl⟩ (fun g valid => ?_) _ _⟩
      rcases reply with invalid | ⟨f, tag, result, valid', payload, fails⟩
      · rw [invalid] at valid
        cases valid
      · rw [valid'] at valid
        cases valid
        exact ⟨tag, result, payload, fails⟩
  · have ran := replyEnd_closes found opened bytes
    rw [validReply_of_good good place (by rw [purpose, kind]; rfl)] at ran
    obtain ⟨w₀, isW₀⟩ : ∃ w, w = lineFreed l false (legAt s l).disregard s := ⟨_, rfl⟩
    have freed : w₀ = { s with le := w₀.le } := by
      rw [isW₀]
      rfl
    have record₀ : valveAt w₀.vs x.key = some r := by rw [freed]; exact record
    obtain ⟨w₁, isW₁⟩ : ∃ w, w = commandAccepted x.key limit w₀ := ⟨_, rfl⟩
    have concluded : concludeTxn l x (some (f, bytes)) w₀ = nodeOutcome x.key true w₁ := by
      unfold concludeTxn deliver
      rw [purpose]
      change setOutcome x.key r.tag limit (some f) w₀ = _
      unfold setOutcome
      dsimp only
      rw [payload, isW₁]
      refine congrArg (nodeOutcome x.key true) ?_
      change valveOutcome x.key r.tag limit (some (r.tag, true)) w₀ = _
      unfold valveOutcome
      rw [record₀]
      dsimp only
      rw [if_neg (by simpa using targeted), if_pos rfl]
    have accepts : w₁ = _ := isW₁.trans ((commandAccepted_eq ..).trans (changeFault_clears (left := accepted w₀.clock limit r) record₀ rfl
      (by
        unfold accepted
        dsimp only
        split
        · exact .inr rfl
        · exact .inl rfl)))
    rw [giveUp_stroking (r := accepted w₀.clock limit r) rfl, ← commandAccepted_eq, ← isW₁] at accepts
    have record₁ : valveAt w₁.vs x.key = some (accepted w₀.clock limit r) := by
      rw [accepts]
      exact valveAt_replaced record₀
    have aside₁ : Aside x.key w₁.vs := by
      rw [accepts, freed]
      exact aside
    obtain ⟨⟨fault, record₂⟩, aside₂⟩ := nodeOutcome_stroking record₁ rfl aside₁
    rw [← isW₀, concluded] at ran
    have kept := ((settleAll_unmoved x.key (nodeOutcome x.key true w₁)).keeps aside₂).1
    have clock : w₀.clock = s.clock := by rw [freed]
    refine ⟨_, _, ran, kept.trans record₂, quiet_of_work (quiet_settleAll _) ?_, rfl, rfl, congrArg some clock, rfl, rfl, rfl, rfl⟩
    rw [nodeOutcome_keeps, accepts, freed]

end Sys2Proof.Machine
end

section
/-! The handling of a SAMPLE by the Node Directory and Flow Accounting (sections 2.3 to 2.6, 3.3 and 3.4). -/

namespace Sys2Proof.Machine

open Sys2Proof

/-! ### Verdicts -/

section Verdicts

theorem toNat_ne {b : Byte} {n : Nat} (small : n < 256) (h : b ≠ BitVec.ofNat 8 n) : b.toNat ≠ n := fun same =>
  h (BitVec.eq_of_toNat_eq (by rw [same, BitVec.toNat_ofNat, Nat.mod_eq_of_lt small]))

/-- The verdict that a status byte gives. -/
def verdictFor (st : Byte) (ok : Verdict) : Verdict :=
  match statusOk st with
  | none => .malformed
  | some good => if good then ok else .notOk

theorem verdictFor_eq (st : Byte) (ok : Verdict) : verdictFor st ok = statusVerdict st ok := by
  by_cases zero : st = 0
  · subst zero
    rfl
  by_cases one : st = 1
  · subst one
    rfl
  by_cases two : st = 2
  · subst two
    rfl
  have undefined : statusOk st = none := by
    unfold statusOk
    split
    next h => exact absurd h (toNat_ne (by decide) zero)
    next h => exact absurd h (toNat_ne (by decide) one)
    next h => exact absurd h (toNat_ne (by decide) two)
    · rfl
  unfold verdictFor statusVerdict
  rw [undefined, if_neg zero, if_neg (not_or.mpr ⟨one, two⟩)]

theorem positionOf_isNone (b : Byte) : (positionOf b).isNone = true ↔ 4 < b.toNat := by
  unfold positionOf
  split
  iterate 5 next h => simp [h]
  next h0 h1 h2 h3 h4 => exact ⟨fun _ => by simp only [imp_false] at *; omega, fun _ => rfl⟩

theorem targetOf_isNone (b : Byte) : (targetOf b).isNone = true ↔ 3 < b.toNat := by
  unfold targetOf
  split
  iterate 4 next h => simp [h]
  next h0 h1 h2 h3 => exact ⟨fun _ => by simp only [imp_false] at *; omega, fun _ => rfl⟩

theorem ofBytes2_full (lo hi : Byte) : ofBytes2 lo hi = 65535 ↔ lo = 255 ∧ hi = 255 := by
  have low := lo.isLt
  have high := hi.isLt
  unfold ofBytes2
  constructor
  · intro h
    exact ⟨BitVec.eq_of_toNat_eq (show lo.toNat = 255 by omega), BitVec.eq_of_toNat_eq (show hi.toNat = 255 by omega)⟩
  · rintro ⟨rfl, rfl⟩
    rfl

/-- The verdict of a payload, as the obligations say it. -/
theorem verdictOf_eq (k : NodeKind) (payload : List Byte) : verdictOf k payload = sampleVerdict k payload := by
  unfold verdictOf
  split
  next st _ => exact verdictFor_eq st .usable
  next lo hi st _ =>
    have same : (if ofBytes2 lo hi = 65535 then Verdict.noReading else .usable) =
        if lo = 255 ∧ hi = 255 then .noReading else .usable := if_congr (ofBytes2_full lo hi) rfl rfl
    exact (congrArg (verdictFor st) same).trans (verdictFor_eq st _)
  next po ta _ _ _ st =>
    have undefined : (positionOf po).isNone = true ∨ (targetOf ta).isNone = true ↔ 4 < po.toNat ∨ 3 < ta.toNat :=
      or_congr (positionOf_isNone po) (targetOf_isNone ta)
    exact if_congr undefined rfl (verdictFor_eq st .usable)
  next notDrip notFlow notValve =>
    unfold sampleVerdict
    split
    · exact (notDrip _ _ _ _ rfl rfl).elim
    · exact (notFlow _ _ _ _ rfl rfl).elim
    · exact (notValve _ _ _ _ _ _ rfl rfl).elim
    · rfl

end Verdicts

/-! ### One node at a time -/

section OneNode

variable {k : NodeKey} {s t u : State} {n m : NodeRun}

/-- From `s` to `t` the Node Directory has changed the record of node `k` alone, from `n` to `m`, and the blocks that a
sample reaches may have moved. -/
structure OneNode (k : NodeKey) (n m : NodeRun) (s t : State) : Prop where
  frame : t = { s with nd := t.nd, fa := t.fa, de := t.de, ie := t.ie, vs := t.vs, xc := t.xc }
  node : assocGet k s.nd.nodes = some n → assocGet k t.nd.nodes = some m
  others : ∀ j ≠ k, assocGet j t.nd.nodes = assocGet j s.nd.nodes

theorem OneNode.trans {m' : NodeRun} (h : OneNode k n m s t) (h' : OneNode k m m' t u) : OneNode k n m' s u where
  frame := by
    have later := h'.frame
    rw [h.frame] at later
    exact later
  node found := h'.node (h.node found)
  others j hj := (h'.others j hj).trans (h.others j hj)

/-- A change of other blocks. -/
theorem OneNode.aside (frame : t = { s with fa := t.fa, de := t.de, ie := t.ie, vs := t.vs, xc := t.xc }) : OneNode k n n s t := by
  have nodes : t.nd = s.nd := by rw [frame]
  exact ⟨by rw [frame], fun found => by rw [nodes]; exact found, fun _ _ => by rw [nodes]⟩

theorem OneNode.refl : OneNode k n n s s := .aside rfl

theorem OneNode.engine {c : Bool} (h : Engine c s t) : OneNode k n n s t := .aside h.frame

theorem OneNode.set (f : NodeRun → NodeRun) : OneNode k n (f n) s (setNode k f s) where
  frame := rfl
  node found := (assocGet_assocMap ..).trans (congrArg (Option.map f) found)
  others _ hj := assocGet_assocMap_ne f s.nd.nodes hj

theorem OneNode.outcome (found : assocGet k s.nd.nodes = some n) (tabled : (nodeByKey s.ts.active k).isSome = true) (reply : Bool) :
    OneNode k n (presenceAfter reply n) s (nodeOutcome k reply s) where
  frame := by
    have kept := nodeOutcome_keeps k reply s
    generalize nodeOutcome k reply s = t at kept ⊢
    rw [kept]
  node found := by
    rw [nodeOutcome_nodes found tabled, assocGet_assocMap, found]
    rfl
  others j hj := by rw [nodeOutcome_nodes found tabled, assocGet_assocMap_ne _ _ hj]

/-- The flood mark follows the level (R35). -/
theorem OneNode.flood (d : DripFields) (level : Nat) (found : assocGet k s.nd.nodes = some n) :
    OneNode k n { n with floodMark := decide (d.flood ≤ level) } s (judgeFlood k d level s) := by
  unfold judgeFlood
  rw [found]
  dsimp only
  split
  next same =>
    rw [same]
    exact .refl
  · refine (OneNode.set fun n => { n with floodMark := decide (d.flood ≤ level) }).trans ?_
    have frame := floodMarksChanged_frame (decide (d.flood ≤ level))
      (setNode k (fun n => { n with floodMark := decide (d.flood ≤ level) }) s)
    have nodes : (floodMarksChanged (decide (d.flood ≤ level))
        (setNode k (fun n => { n with floodMark := decide (d.flood ≤ level) }) s)).nd.nodes = _ := congrArg (fun u : State => u.nd.nodes) frame
    exact ⟨by rw [frame], fun found => nodes ▸ found, fun j _ => by rw [nodes]⟩

/-- A local sample reaches Drip Evidence and what its credit event brings, and no node. -/
theorem creditRow_frame (k : RowKey) (s : State) : creditRow k s =
    { s with de := (creditRow k s).de, ie := (creditRow k s).ie, vs := (creditRow k s).vs, xc := (creditRow k s).xc } := by
  cases entry : rowByKey s.ti.position s.ts.active k with
  | none =>
    unfold creditRow
    rw [entry]
  | some p =>
    cases found : assocGet k s.de.rows with
    | none =>
      unfold creditRow
      rw [entry, found]
    | some run => exact (creditRow_credits (index := p.1) (row := p.2) entry found).1

theorem localSample_frame (i : Nat) (active : Option Bool) (s : State) : localSample i active s =
    { s with de := (localSample i active s).de, ie := (localSample i active s).ie, vs := (localSample i active s).vs
             xc := (localSample i active s).xc } := by
  simp only [localSample]
  split
  · rfl
  · split
    · split
      · rw [creditRow_frame]
        rfl
      · rfl
    · split <;> rfl

theorem OneNode.local (i : Nat) (active : Option Bool) (s : State) : OneNode k n n s (localSample i active s) :=
  .aside (by
    have frame := localSample_frame i active s
    generalize localSample i active s = t at frame ⊢
    rw [frame])

/-- What a USABLE DRIP sample makes of its node's record (R31 to R40). -/
def dripTaken (here : Bool) (d : DripFields) (level drops : Nat) (round : Half) (n : NodeRun) : NodeRun :=
  let m := { n with usableLevel := some level, wet := wetAfter d n.wet level, floodMark := decide (d.flood ≤ level) }
  if here then m else remoteSample drops level (wetOnset d n.wet level) round m

/-- A USABLE sample of a DRIP node. -/
theorem OneNode.drip (i : Nat) (d : DripFields) (lv dr st tag : Byte) (found : assocGet k s.nd.nodes = some n) :
    OneNode k n (dripTaken (decide (resolveUnit s.ti.position d.evUnit = 0)) d lv.toNat dr.toNat s.rt.number n) s
      (dripSample k i d .usable [lv, dr, st, tag] s) := by
  obtain ⟨s₁, isS₁⟩ : ∃ u, u = setNode k (fun n => { n with usableLevel := some lv.toNat, wet := wetAfter d n.wet lv.toNat }) s :=
    ⟨_, rfl⟩
  have levelled : OneNode k n { n with usableLevel := some lv.toNat, wet := wetAfter d n.wet lv.toNat } s s₁ := by
    rw [isS₁]
    exact .set fun n => { n with usableLevel := some lv.toNat, wet := wetAfter d n.wet lv.toNat }
  have flooded := levelled.trans (.flood d lv.toNat (levelled.node found))
  have ran : dripSample k i d .usable [lv, dr, st, tag] s =
      if decide (resolveUnit s.ti.position d.evUnit = 0) = true then
        localSample i (some (decide (1 ≤ dr.toNat) || wetOnset d n.wet lv.toNat)) (judgeFlood k d lv.toNat s₁)
      else setNode k (remoteSample dr.toNat lv.toNat (wetOnset d n.wet lv.toNat) s.rt.number) (judgeFlood k d lv.toNat s₁) := by
    unfold dripSample
    rw [found, isS₁]
  rw [ran]
  unfold dripTaken
  dsimp only
  split
  · exact flooded.trans (.local ..)
  · exact flooded.trans (.set _)

/-- Any other sample of a DRIP node changes nothing. -/
theorem dripSample_unusable (i : Nat) (d : DripFields) {v : Verdict} {payload : List Byte}
    (unusable : ∀ lv dr st tag, ¬ (v = .usable ∧ payload = [lv, dr, st, tag])) : dripSample k i d v payload s = s := by
  unfold dripSample
  dsimp only
  split
  next lv dr st tag _ _ => exact absurd ⟨rfl, rfl⟩ (unusable lv dr st tag)
  · split <;> rfl

/-- A FLOW sample reaches Flow Accounting and what its pair brings, and no node. -/
theorem flowSample_frame (i : Nat) (stamp : Half) (v : SideValue) (s : State) : flowSample i stamp v s =
    { s with fa := (flowSample i stamp v s).fa, ie := (flowSample i stamp v s).ie, vs := (flowSample i stamp v s).vs
             xc := (flowSample i stamp v s).xc } := by
  simp only [flowSample]
  split
  · rfl
  · split
    · rfl
    · split
      · rfl
      · split
        · rfl
        · split
          · rfl
          · split
            · rw [(pairEvent_engine (c := false) _ _ _).frame_quietly]
            · rfl

end OneNode

/-! ### A sample taken -/

section Samples

variable {k : NodeKey} {s : State} {n : NodeRun} {i : Nat} {r : NodeRec} {payload : List Byte}

/-- What the handling of a sample by its kind makes of its node's record (R27, step 3). -/
def sampled (position : Option Nat) (r : NodeRec) (v : Verdict) (payload : List Byte) (round : Half) (n : NodeRun) : NodeRun :=
  match r.body, v, payload with
  | .drip d, .usable, [lv, dr, _, _] => dripTaken (decide (resolveUnit position d.evUnit = 0)) d lv.toNat dr.toNat round n
  | _, _, _ => n

theorem sampled_keeps (position : Option Nat) (r : NodeRec) (v : Verdict) (payload : List Byte) (round : Half) (n : NodeRun) :
    (sampled position r v payload round n).presence = n.presence ∧ (sampled position r v payload round n).misses = n.misses ∧
      (sampled position r v payload round n).last = n.last := by
  unfold sampled
  split
  · unfold dripTaken
    dsimp only
    split
    · exact ⟨rfl, rfl, rfl⟩
    · unfold remoteSample
      dsimp only
      split <;> exact ⟨rfl, rfl, rfl⟩
  · exact ⟨rfl, rfl, rfl⟩

theorem OneNode.byKind (v : Verdict) (found : assocGet k s.nd.nodes = some n) :
    OneNode k n (sampled s.ti.position r v payload s.rt.number n) s (sampleByKind k i r v payload s) := by
  unfold sampleByKind sampled
  cases body : r.body with
  | drip d =>
    dsimp only
    split
    next lv dr st tag same =>
      cases same
      exact .drip i d lv dr st tag found
    next other =>
      rw [dripSample_unusable i d fun lv dr st tag h => other d lv dr st tag rfl h.1 h.2]
      exact .refl
  | flow =>
    have frame := flowSample_frame i s.rt.number (flowValue v payload) s
    refine .aside ?_
    dsimp only
    generalize flowSample i s.rt.number (flowValue v payload) s = t at frame ⊢
    rw [frame]
  | valve limit =>
    dsimp only
    split
    · exact .engine (valveSample_engine k _ s)
    · exact .refl

/-- The record of a node whose sample has just arrived, before it is handled. -/
def arrived (r : NodeRec) (payload : List Byte) (round : Half) (n : NodeRun) : NodeRun :=
  { n with presence := .present, misses := 0, last := some ⟨payload, verdictOf (nodeKind r) payload, round⟩ }

/-- The state in which a sample has been stored and is to be handled by kind. -/
def sampleStored (k : NodeKey) (r : NodeRec) (payload : List Byte) (s : State) : State :=
  setNode k (fun n => { n with last := some ⟨payload, verdictOf (nodeKind r) payload, s.rt.number⟩ }) (nodeOutcome k true s)

theorem OneNode.stored (found : assocGet k s.nd.nodes = some n) (entry : nodeByKey s.ts.active k = some (i, r)) :
    OneNode k n (arrived r payload s.rt.number n) s (sampleStored k r payload s) :=
  (OneNode.outcome found (by rw [entry]; rfl) true).trans
    (.set fun n => { n with last := some ⟨payload, verdictOf (nodeKind r) payload, s.rt.number⟩ })

theorem takeSample_eq (entry : nodeByKey s.ts.active k = some (i, r)) : takeSample k payload s =
    setNode k (judgeMirror r (verdictOf (nodeKind r) payload) payload)
      (sampleByKind k i r (verdictOf (nodeKind r) payload) payload (sampleStored k r payload s)) := by
  unfold takeSample
  rw [entry]
  rfl

/-- A sample handled whole. -/
theorem OneNode.sample (found : assocGet k s.nd.nodes = some n) (entry : nodeByKey s.ts.active k = some (i, r)) :
    OneNode k n (judgeMirror r (verdictOf (nodeKind r) payload) payload
      (sampled s.ti.position r (verdictOf (nodeKind r) payload) payload s.rt.number (arrived r payload s.rt.number n))) s
      (takeSample k payload s) := by
  have stored : OneNode k n (arrived r payload s.rt.number n) s (sampleStored k r payload s) := .stored found entry
  have handled := OneNode.byKind (i := i) (r := r) (payload := payload) (verdictOf (nodeKind r) payload) (stored.node found)
  rw [show (sampleStored k r payload s).ti = s.ti by rw [stored.frame],
    show (sampleStored k r payload s).rt = s.rt by rw [stored.frame]] at handled
  rw [takeSample_eq entry]
  exact (stored.trans handled).trans (.set _)

theorem assocMap_id {κ ρ : Type} [DecidableEq κ] {j : κ} {x : ρ} {l : List (κ × ρ)} (found : assocGet j l = some x) :
    assocMap j (fun _ => x) l = l := by
  induction l with
  | nil => rfl
  | cons p l ih =>
    unfold assocGet at found
    unfold assocMap
    split at found
    next own =>
      rw [if_pos own]
      cases found
      rfl
    next other => rw [if_neg other, ih found]

section Pairs

variable {j : Nat} {b : BranchRec} {onSupply : Bool} {y : BranchId} {g : BranchFlow} {v : SideValue}

/-- A value for a side that has none completes the pair when the other side has a reading (R50 to R55). -/
theorem flowTaken_pair {x z : Nat} (fresh : ¬ ((if onSupply then g.supply else g.ret) ≠ .notTaken ∨ g.paired = true))
    (supply : (storeSide onSupply v g).supply = .reading x) (ret : (storeSide onSupply v g).ret = .reading z) :
    flowTaken s b onSupply v g
      (pairRecord b (pairElapsed s (storeSide onSupply v g)) x z (storeSide onSupply v g)) := by
  unfold flowTaken
  rw [if_neg fresh]
  cases onSupply with
  | true =>
    change v = _ at supply
    change g.ret = _ at ret
    subst supply
    simp only [storeSide, if_true, ret]
    rfl
  | false =>
    change g.supply = _ at supply
    change v = _ at ret
    subst ret
    simp only [storeSide, Bool.false_eq_true, if_false, supply]
    rfl

/-- Else it is stored. -/
theorem flowTaken_single (fresh : ¬ ((if onSupply then g.supply else g.ret) ≠ .notTaken ∨ g.paired = true))
    (single : ∀ x z, (storeSide onSupply v g).supply = .reading x → (storeSide onSupply v g).ret ≠ .reading z) :
    flowTaken s b onSupply v g (storeSide onSupply v g) := by
  unfold flowTaken
  rw [if_neg fresh]
  unfold storeSide at single ⊢
  dsimp only
  split
  next x z supply ret => exact absurd ret (single x z supply)
  · rfl

/-- A FLOW sample is its branch side's value of the round, and the second of two readings completes the pair. -/
theorem flowSample_takes (v : SideValue) (side : flowSide s.ts.active i = some (j, b, onSupply))
    (named : branchIdent s.ts.active b = some y) (found : assocGet y s.fa.branches = some g) :
    ∃ g', (flowSample i s.rt.number v s).fa.branches = assocMap y (fun _ => g') s.fa.branches ∧
      flowTaken s b onSupply v g g' := by
  have taken : sideTaken onSupply g = true ↔ (if onSupply then g.supply else g.ret) ≠ .notTaken := decide_eq_true_iff
  unfold flowSample
  rw [if_neg (not_not_intro rfl), side]
  dsimp only
  rw [named]
  dsimp only
  rw [found]
  dsimp only
  by_cases stands : sideTaken onSupply g = true ∨ g.paired = true
  · rw [if_pos stands]
    exact ⟨g, (assocMap_id found).symm, by unfold flowTaken; rw [if_pos (by rwa [taken] at stands)]⟩
  · have fresh := stands
    rw [taken] at fresh
    rw [if_neg stands]
    split
    next x z supply ret =>
      refine ⟨_, ?_, flowTaken_pair fresh supply ret⟩
      rw [(pairEvent_engine (c := false) _ _ _).frame_quietly]
    next other => exact ⟨_, rfl, flowTaken_single fresh fun x z supply ret => other x z supply ret⟩

theorem flowTaken_congr {u : State} {g' : BranchFlow} (flows : u.fa = s.fa) (round : u.rt = s.rt) (tables : u.ts = s.ts)
    (h : flowTaken u b onSupply v g g') : flowTaken s b onSupply v g g' := by
  unfold flowTaken settings at h ⊢
  rw [flows, round, tables] at h
  exact h

theorem flowValue_eq : ∀ payload : List Byte, flowValue (verdictOf .flow payload) payload =
    if sampleVerdict .flow payload = .usable then .reading (ofBytes2 (payload.getD 0 0) (payload.getD 1 0)) else .noReading
  | [] => rfl
  | [_] => rfl
  | lo :: hi :: rest => by
    rw [verdictOf_eq]
    cases sampleVerdict .flow (lo :: hi :: rest) <;> rfl

end Pairs

end Samples

end Sys2Proof.Machine
end

section
/-! What a VALVE sample leaves of the position and the stroke time it shows (sections 2.3 and 6.2). -/

namespace Sys2Proof.Machine

open Sys2Proof

/-- From `v` to `w` the record of valve `k` keeps the position and the stroke time last shown. -/
structure SameShown (k : NodeKey) (v w : ValveBlock) : Prop where
  keeps : ∀ r, valveAt v k = some r → ∃ r', valveAt w k = some r' ∧ r'.position = r.position ∧ r'.lastStroke = r.lastStroke

section Shown

variable {k : NodeKey} {v w x : ValveBlock} {s t : State}

theorem SameShown.refl : SameShown k v v := ⟨fun r found => ⟨r, found, rfl, rfl⟩⟩

theorem SameShown.trans (h : SameShown k v w) (h' : SameShown k w x) : SameShown k v x where
  keeps r found :=
    have ⟨r', found', position, stroke⟩ := h.keeps r found
    have ⟨r'', found'', position', stroke'⟩ := h'.keeps r' found'
    ⟨r'', found'', position'.trans position, stroke'.trans stroke⟩

theorem SameShown.after (h' : SameShown k w x) (h : SameShown k v w) : SameShown k v x := h.trans h'

theorem SameShown.of_phases (h : PhasesMoved v w) : SameShown k v w where
  keeps r found := by
    obtain ⟨p, moved⟩ := h k
    rw [found] at moved
    exact ⟨_, moved, rfl, rfl⟩

theorem SameShown.set (j : NodeKey) (f : ValveRec → ValveRec) (v : ValveBlock)
    (h : ∀ r, valveAt v j = some r → (f r).position = r.position ∧ (f r).lastStroke = r.lastStroke) : SameShown k v (setValve j f v) where
  keeps r found := by
    by_cases same : k = j
    · subst same
      exact ⟨f r, by rw [valveAt_setValve, found]; rfl, h r found⟩
    · exact ⟨r, by rw [valveAt_setValve_ne _ _ same]; exact found, rfl, rfl⟩

theorem SameShown.issue (j : NodeKey) (t : ValveTarget) (v : ValveBlock) : SameShown k v (issue j t v) := by
  unfold Machine.issue
  split
  · exact .refl
  · split
    · exact .refl
    · exact .after (.of_phases (placeCommand_phases _ _ _ _)) (.set _ _ _ fun _ _ => ⟨rfl, rfl⟩)

theorem giveUp_shown (r : ValveRec) : (giveUp r).position = r.position ∧ (giveUp r).lastStroke = r.lastStroke := by
  unfold giveUp
  split <;> exact ⟨rfl, rfl⟩

theorem SameShown.returned (j : NodeKey) (v : ValveBlock) : SameShown k v (returnValve j v) :=
  .set _ _ _ fun r _ => giveUp_shown { r with owner := .none }

theorem SameShown.tests (h : Tests s t) : SameShown k s.vs t.vs := by
  refine h.keeps (P := fun u => SameShown k s.vs u.vs) ?_ .refl
  rintro u v act ih
  cases act with
  | book => exact ih
  | start i j limit judged =>
    have owned : SameShown k u.vs (setValve j (fun r => { r with owner := .exercise }) u.vs) := .set _ _ _ fun _ _ => ⟨rfl, rfl⟩
    exact (ih.trans owned).trans (.issue ..)

theorem SameShown.tell (entered : Option IncState) (s : State) : SameShown k s.vs (tellExercise entered s).vs :=
  .tests (tellExercise_tests entered s)

theorem SameShown.of_valves (h : w.valves = v.valves) : SameShown k v w := .of_phases (.of_valves h)

theorem SameShown.escalate (id : Nat) (why : Reason) (s : State) : SameShown k s.vs (escalate id why s).vs := by
  refine .after (.tell ..) (.of_valves ?_)
  unfold headerPolicy policyClose
  split
  · split <;> rfl
  · rfl

theorem SameShown.faultEvent (id : Nat) (j : NodeKey) (f : ValveFault) (s : State) :
    SameShown k s.vs (valveFaultEvent id j f s).vs := by
  simp only [valveFaultEvent]
  split
  · exact .refl
  · split
    · exact .refl
    · split
      · exact .escalate ..
      · exact .refl

theorem SameShown.exerciseFault (j : NodeKey) (f : ValveFault) (s : State) : SameShown k s.vs (exerciseFaulted j f s).vs := by
  unfold exerciseFaulted
  split
  · split
    · exact .after (.tests (afterVerdict_tests _)) (.after (.returned ..) (.set _ _ _ fun _ _ => ⟨rfl, rfl⟩))
    · exact .refl
  · exact .refl

theorem SameShown.report (j : NodeKey) (o : Owner) (f : ValveFault) (s : State) : SameShown k s.vs (reportFault j o f s).vs := by
  cases o with
  | none => exact .refl
  | incident id => exact .faultEvent ..
  | exercise => exact .exerciseFault ..

theorem SameShown.change (j : NodeKey) (f : ValveRec → ValveRec) (s : State)
    (h : ∀ r, (f r).position = r.position ∧ (f r).lastStroke = r.lastStroke) : SameShown k s.vs (changeFault j f s).vs := by
  unfold changeFault
  split
  · exact .refl
  next r found =>
    have set : SameShown k s.vs (setValve j (fun _ => giveUp (f r)) s.vs) := .set _ _ _ fun r' found' => by
      rw [found] at found'
      cases found'
      exact ⟨(giveUp_shown (f r)).1.trans (h r).1, (giveUp_shown (f r)).2.trans (h r).2⟩
    dsimp only
    split
    · exact set
    · exact .after (.report ..) set

theorem sampleFault_shown (p : ValvePos) (r : ValveRec) :
    (sampleFault p r).position = r.position ∧ (sampleFault p r).lastStroke = r.lastStroke := by
  unfold sampleFault
  split
  · exact ⟨rfl, rfl⟩
  · split <;> exact ⟨rfl, rfl⟩

theorem clearEvidence_frame (i : Incident) (s : State) :
    clearEvidence i s = { s with fa := (clearEvidence i s).fa, de := (clearEvidence i s).de } := by
  have members (bs : List BranchId) (s : State) : bs.foldl (fun s b => zeroLoss b (zeroScore b s)) s =
      { s with fa := (bs.foldl (fun s b => zeroLoss b (zeroScore b s)) s).fa
               de := (bs.foldl (fun s b => zeroLoss b (zeroScore b s)) s).de } := by
    induction bs generalizing s with
    | nil => rfl
    | cons b bs ih => rw [List.foldl_cons, ih]; rfl
  simp only [clearEvidence]
  split
  · rw [members]; rfl
  · rw [members]

theorem judgeOverflow_valves (s : State) : (judgeOverflow s).vs = s.vs ∧ (judgeOverflow s).xc = s.xc := by
  unfold judgeOverflow
  split <;> exact ⟨rfl, rfl⟩

/-- An incident freed: its valves are returned, it leaves the open ones, and the Exercise Controller is told. -/
theorem freeIncident_told {id : Nat} {i : Incident} (evidence : Bool) (into : Option Nat) (found : incidentById s id = some i) :
    ∃ w, freeIncident id evidence into s = tellExercise none w ∧
      w.vs = i.held.foldl (fun v b => returnValve b.valve v) s.vs ∧ w.xc = s.xc := by
  have cleared : (if evidence then clearEvidence i s else s).vs = s.vs ∧ (if evidence then clearEvidence i s else s).xc = s.xc := by
    split
    · rw [clearEvidence_frame]
      exact ⟨rfl, rfl⟩
    · exact ⟨rfl, rfl⟩
  unfold freeIncident
  rw [found]
  refine ⟨_, rfl, ?_, ?_⟩
  · rw [(judgeOverflow_valves _).1]
    dsimp only
    rw [cleared.1]
  · rw [(judgeOverflow_valves _).2]
    exact cleared.2

theorem SameShown.free (id : Nat) (evidence : Bool) (into : Option Nat) (s : State) :
    SameShown k s.vs (freeIncident id evidence into s).vs := by
  have returns (bs : List BranchId) (v : ValveBlock) : SameShown k v (bs.foldl (fun v b => returnValve b.valve v) v) := by
    induction bs generalizing v with
    | nil => exact .refl
    | cons b bs ih => exact .after (ih _) (.returned ..)
  cases found : incidentById s id with
  | none =>
    unfold freeIncident
    rw [found]
    exact .refl
  | some i =>
    obtain ⟨w, told, vs, -⟩ := freeIncident_told evidence into found
    rw [told]
    exact .after (.tell ..) (vs ▸ returns i.held s.vs)

theorem SameShown.reached (id : Nat) (j : NodeKey) (t : ValveTarget) (s : State) : SameShown k s.vs (valveReached id j t s).vs := by
  unfold valveReached
  split
  · exact .refl
  · split
    · exact .refl
    · split
      · unfold reachedClosed
        split
        · exact .after (.tell _ _) (.of_valves rfl)
        · split <;> exact .refl
      · unfold reachedOpen
        dsimp only
        split
        · exact .after (.free ..) (.returned ..)
        · exact .returned ..
      · exact .refl

theorem SameShown.completion (j : NodeKey) (o : Owner) (t : ValveTarget) (stroke : Nat) (s : State) :
    SameShown k s.vs (reportCompletion j o t stroke s).vs := by
  cases o with
  | none => exact .refl
  | incident id => exact .reached ..
  | exercise =>
    change SameShown k s.vs (exerciseCompleted j stroke s).vs
    unfold exerciseCompleted
    split
    · exact .refl
    · split
      · exact .after (.tests (afterVerdict_tests _)) (.after (.returned ..) (.set _ _ _ fun _ _ => ⟨rfl, rfl⟩))
      · exact .refl

theorem SameShown.completes (j : NodeKey) (t : ValveTarget) (m : ValveSample) (s : State) :
    SameShown k s.vs (completeCommand j t m s).vs := by
  unfold completeCommand
  split
  · exact .refl
  · dsimp only
    refine .after (.completion ..) ?_
    have dropped (f : ValveRec → ValveRec) (h : ∀ r, (f r).position = r.position ∧ (f r).lastStroke = r.lastStroke) :
        SameShown k s.vs (dropCommand j (setValve j f s.vs)) :=
      .after (.of_phases (dropCommand_phases _ _)) (.set _ _ _ fun r _ => h r)
    split
    · exact dropped _ fun _ => ⟨rfl, rfl⟩
    · exact .after (.report ..) (dropped _ fun _ => ⟨rfl, rfl⟩)

theorem SameShown.adoption (j : NodeKey) (m : ValveSample) (s : State) : SameShown k s.vs (judgeAdoption j m s).vs := by
  unfold judgeAdoption
  split
  · split
    · unfold foundClosed
      split
      · exact .refl
      · split
        next opened =>
          refine .after (.tell ..) (.after (.set _ _ _ fun _ _ => ⟨rfl, rfl⟩) (.of_valves ?_))
          rw [(openIncident_eq_some_iff.mp opened).2.2]
        · unfold overflowOn
          split <;> exact .refl
    · exact .refl
  · exact .refl

/-- The rest of a valve sample, once its position and stroke time are in the record (R127). -/
def sampleJudged (k : NodeKey) (m : ValveSample) (s : State) : State :=
  let s2 := changeFault k (sampleFault m.position) s
  let s3 :=
    match valveAt s2.vs k with
    | some r =>
      match r.target with
      | some t => if m.tag = r.tag ∧ reaches t m then completeCommand k t m s2 else s2
      | none => s2
    | none => s2
  judgeAdoption k m s3

theorem valveSample_eq {r : ValveRec} (m : ValveSample) (found : valveAt s.vs k = some r) : valveSample k m s = sampleJudged k m
    { s with vs := setValve k (fun r => { r with position := some m.position, lastStroke := some m.stroke }) s.vs } := by
  unfold valveSample
  rw [found]
  rfl

theorem SameShown.judged (m : ValveSample) (s : State) : SameShown k s.vs (sampleJudged k m s).vs := by
  simp only [sampleJudged]
  refine .after (.adoption ..) (.after ?_ (.change k _ s fun r => sampleFault_shown m.position r))
  split
  · split
    · split
      · exact .completes ..
      · exact .refl
    · exact .refl
  · exact .refl

/-- The record of the valve shows what its sample shows. -/
theorem valveSample_shows {r : ValveRec} (m : ValveSample) (found : valveAt s.vs k = some r) :
    ∃ r', valveAt (valveSample k m s).vs k = some r' ∧ r'.position = some m.position ∧ r'.lastStroke = some m.stroke := by
  rw [valveSample_eq m found]
  exact (SameShown.judged m _).keeps { r with position := some m.position, lastStroke := some m.stroke } (by
    rw [valveAt_setValve, found]
    rfl)

end Shown

end Sys2Proof.Machine
end

section
/-! A command that has been taken from its queue (sections 6.2 and 6.3): no entry of its tag is left, whatever the exercise
starts and the legs take before the step ends. -/

namespace Sys2Proof.Machine

open Sys2Proof

section Gone

variable {k j : NodeKey} {tag : Byte} {v w : ValveBlock} {s t : State} {r : ValveRec}

/-- A newer command of the valve is in force, and the queue of its leg holds no entry of the tag. -/
def Renewed (k : NodeKey) (tag : Byte) (v : ValveBlock) : Prop :=
  (∃ r, valveAt v k = some r ∧ r.tag ≠ tag ∧ r.target ≠ none) ∧ (∀ m ≠ k.leg, AsideOn m k v) ∧
    ∀ e ∈ quadGet v.queues k.leg, e.key = k → e.tag ≠ tag

/-- The command of the tag is in no queue: the valve waits in none, or a newer command is in force. -/
def OldGone (k : NodeKey) (tag : Byte) (v : ValveBlock) : Prop :=
  (∃ r, valveAt v k = some r ∧ r.tag = tag) ∧ Aside k v ∨ Renewed k tag v

theorem OldGone.entries (h : OldGone k tag v) : ∀ e ∈ quadGet v.queues k.leg, e.key = k → e.tag ≠ tag := by
  rcases h with ⟨-, aside⟩ | ⟨-, -, entries⟩
  · exact fun e inside own => absurd own ((aside k.leg).1 e inside)
  · exact entries

/-- The entries of another valve's command placed are its own. -/
theorem placeCommand_entries {t : ValveTarget} {tag : Byte} (other : j ≠ k) {l : Leg} {e : ActionEntry}
    (inside : e ∈ quadGet (placeCommand j t tag v).queues l) (own : e.key = k) : e ∈ quadGet v.queues l := by
  by_cases leg : l = j.leg
  · subst leg
    simp only [placeCommand] at inside
    split at inside
    · change e ∈ quadGet (quadSet v.queues j.leg _) j.leg at inside
      rw [quadGet_quadSet] at inside
      obtain ⟨f, was, made⟩ := List.mem_map.mp inside
      split at made
      · subst made
        exact absurd own other
      · exact made ▸ was
    · split at inside
      · exact inside
      · split at inside
        · change e ∈ quadGet (quadSet v.queues j.leg _) j.leg at inside
          rw [quadGet_quadSet] at inside
          rcases List.mem_append.mp inside with old | new
          · exact old
          · rw [List.mem_singleton.mp new] at own
            exact absurd own other
        · exact inside
  · rw [(placeCommand_others leg).1] at inside
    exact inside

theorem issue_entries {t : ValveTarget} (other : j ≠ k) {l : Leg} {e : ActionEntry}
    (inside : e ∈ quadGet (issue j t v).queues l) (own : e.key = k) : e ∈ quadGet v.queues l := by
  unfold issue at inside
  split at inside
  · exact inside
  · split at inside
    · exact inside
    · exact placeCommand_entries (v := setValve j _ v) other inside own

/-- A command issued to a valve in no queue stands on its leg, under a new tag. -/
theorem issue_renews {t : ValveTarget} (found : valveAt v k = some r) (untargeted : r.target = none) (tagged : r.tag = tag)
    (aside : Aside k v) : Renewed k tag (issue k t v) := by
  obtain ⟨p, record⟩ := valveAt_issue (t := t) found (.inl (by rw [untargeted]; nofun))
  have newTag : r.tag + 1 ≠ tag := by
    rw [← tagged]
    bv_omega
  obtain ⟨u, isU⟩ : ∃ u, u = setValve k (fun r =>
      { r with tag := r.tag + 1, target := some t, attempts := 0, start := none, limit := none }) v :=
    ⟨_, rfl⟩
  have ran : issue k t v = placeCommand k t (r.tag + 1) u := by
    unfold issue
    rw [found, isU]
    exact if_neg fun h => by
      rw [untargeted] at h
      cases h.1
  have asideU : Aside k u := by
    rw [isU]
    exact aside
  have recordU : valveAt u k = some { r with tag := r.tag + 1, target := some t, attempts := 0, start := none, limit := none } := by
    rw [isU, valveAt_setValve, found]
    rfl
  refine ⟨⟨_, record, newTag, nofun⟩, fun m hm => ?_, ?_⟩
  · obtain ⟨queue, order⟩ := placeCommand_others (v := u) (t := t) (tag := r.tag + 1) hm
    rw [ran]
    unfold AsideOn
    rw [queue, order]
    exact asideU m
  · rw [ran]
    rcases placeCommand_stands (target := t) recordU (asideU k.leg) with ⟨-, ⟨before, later, queue, others⟩, -⟩ | ⟨-, unqueued, -⟩
    · intro e inside own
      change e ∈ quadGet (placeCommand k t (r.tag + 1) u).queues k.leg at inside
      rw [queue] at inside
      rcases List.mem_append.mp inside with old | new
      · exact absurd own (others e (List.mem_append.mpr (.inl old)))
      · rcases List.mem_cons.mp new with rfl | old
        · exact newTag
        · exact absurd own (others e (List.mem_append.mpr (.inr old)))
    · exact fun e inside own => absurd own (unqueued e inside)

/-- What the Exercise Controller does of itself leaves no entry of the tag. -/
theorem OldGone.tests (h : Tests s t) (gone : OldGone k tag s.vs) : OldGone k tag t.vs := by
  refine h.keeps (P := fun u => OldGone k tag u.vs) ?_ gone
  rintro u v act gone
  cases act with
  | book => exact gone
  | start i j limit judged =>
    obtain ⟨x, isX⟩ : ∃ x, x = setValve j (fun r => { r with owner := .exercise }) u.vs := ⟨_, rfl⟩
    change OldGone k tag (issue j .partialTest (setValve j (fun r => { r with owner := .exercise }) u.vs))
    by_cases own : j = k
    · subst own
      rcases gone with ⟨⟨r, found, tagged⟩, aside⟩ | ⟨⟨r, found, -, targeted⟩, -⟩
      · refine .inr (issue_renews (r := { r with owner := .exercise }) ?_ ?_ tagged aside)
        · rw [valveAt_setValve, found]
          rfl
        · have fit := judgePlan_start judged found
          exact not_not.mp fun targeted => fit (.inr (.inl targeted))
      · exact absurd (.inr (.inl targeted)) (judgePlan_start judged found)
    · rw [← isX]
      have moved : OnLeg j.leg k u.vs (issue j .partialTest x) := by
        rw [isX]
        exact (setValve_onLeg _ _ _ own).trans (issue_onLeg _ _ own)
      rcases gone with ⟨⟨r, found, tagged⟩, aside⟩ | ⟨⟨r, found, renewed⟩, elsewhere, entries⟩
      · obtain ⟨same, still⟩ := moved.unmoved.keeps aside
        exact .inl ⟨⟨r, same.trans found, tagged⟩, still⟩
      · refine .inr ⟨⟨r, ?_, renewed⟩, fun m hm => ?_, fun e inside mine => entries e ?_ mine⟩
        · rw [valveAt_issue_ne _ _ (Ne.symm own), isX, valveAt_setValve_ne _ _ (Ne.symm own), found]
        · by_cases leg : m = j.leg
          · subst leg
            exact (moved.keeps (elsewhere _ hm)).2
          · obtain ⟨queue, order⟩ := moved.others m leg
            unfold AsideOn
            rw [queue, order]
            exact elsewhere m hm
        · have before := issue_entries own inside mine
          rw [isX] at before
          exact before

/-- What a refill of its own leg queues carries the tag in force. -/
theorem refillOnce_renewed (h : Renewed k tag v) : Renewed k tag (refillOnce k.leg v) := by
  obtain ⟨⟨r, found, newTag, targeted⟩, elsewhere, entries⟩ := h
  obtain ⟨p, record⟩ := refillOnce_phases k.leg v k
  rw [found] at record
  refine ⟨⟨_, record, newTag, targeted⟩, fun m hm => ?_, ?_⟩
  · obtain ⟨queue, order⟩ := (refillOnce_onLeg (k := k) k.leg v).others m hm
    unfold AsideOn
    rw [queue, order]
    exact elsewhere m hm
  · intro e inside own
    unfold refillOnce at inside
    split at inside
    · split at inside
      · exact entries e inside own
      next i rest waiting =>
        dsimp only at inside
        split at inside
        next r' found' =>
          split at inside
          next t' _ =>
            change e ∈ quadGet (quadSet v.queues k.leg _) k.leg at inside
            rw [quadGet_quadSet] at inside
            rcases List.mem_append.mp inside with old | new
            · exact entries e old own
            · rw [List.mem_singleton.mp new] at own ⊢
              change i = k at own
              subst own
              cases found.symm.trans found'
              exact newTag
          · exact entries e inside own
        · exact entries e inside own
    · exact entries e inside own

theorem refill_renewed (n : Nat) (h : Renewed k tag v) : Renewed k tag (refill k.leg n v) := by
  induction n generalizing v with
  | zero => exact h
  | succ n ih => exact ih (refillOnce_renewed h)

/-- The head that a leg takes leaves no entry of the tag. -/
theorem OldGone.head {l : Leg} {e : ActionEntry} (taken : takeHead l v = some (e, w)) (gone : OldGone k tag v) :
    OldGone k tag w := by
  have moved : OnLeg l k v w := takeHead_onLeg taken
  rcases gone with ⟨⟨r, found, tagged⟩, aside⟩ | ⟨⟨r, found, newTag, targeted⟩, elsewhere, entries⟩
  · obtain ⟨same, still⟩ := moved.unmoved.keeps aside
    exact .inl ⟨⟨r, same.trans found, tagged⟩, still⟩
  · obtain ⟨p, record⟩ := takeHead_phases taken k
    rw [found] at record
    by_cases leg : l = k.leg
    · subst leg
      unfold takeHead at taken
      split at taken
      · cases taken
      next e rest waiting =>
        cases taken
        refine .inr (refill_renewed 8 ⟨?_, fun m hm => ?_, fun f inside own => ?_⟩)
        · obtain ⟨q, phased⟩ := setPhase_moved e.key .sent { v with queues := quadSet v.queues k.leg rest } k
          rw [show valveAt { v with queues := quadSet v.queues k.leg rest } k = some r from found] at phased
          exact ⟨_, phased, newTag, targeted⟩
        · have queue : quadGet (quadSet v.queues k.leg rest) m = quadGet v.queues m := quadGet_quadSet_ne _ _ hm
          change (∀ e ∈ quadGet (quadSet v.queues k.leg rest) m, e.key ≠ k) ∧ _
          rw [queue]
          exact elsewhere m hm
        · change f ∈ quadGet (quadSet v.queues k.leg rest) k.leg at inside
          rw [quadGet_quadSet] at inside
          exact entries f (by rw [waiting]; exact List.mem_cons_of_mem e inside) own
    · refine .inr ⟨⟨_, record, newTag, targeted⟩, fun m hm => ?_, ?_⟩
      · by_cases same : m = l
        · subst same
          exact (moved.keeps (elsewhere m hm)).2
        · obtain ⟨queue, order⟩ := moved.others m same
          unfold AsideOn
          rw [queue, order]
          exact elsewhere m hm
      · rw [(moved.others k.leg (Ne.symm leg)).1]
        exact entries

theorem OldGone.settles (gone : OldGone k tag s.vs) : ∀ e ∈ quadGet (settleAll s).vs.queues k.leg, e.key = k → e.tag ≠ tag := by
  have queues := congrArg (fun u : State => u.vs.queues) (quiet_settle (boundaries s))
  rw [show (settleAll s).vs.queues = (boundaries s).vs.queues from queues]
  refine OldGone.entries (v := (boundaries s).vs) ?_
  refine List.foldlRecOn (motive := fun t : State => OldGone k tag t.vs) allLegs _ gone fun t ht l _ => ?_
  rcases boundary_vs l t with same | ⟨e, taken⟩
  · rw [same]
    exact ht
  · exact ht.head taken

end Gone

end Sys2Proof.Machine
end

section
/-! The completion of a command by a sample, and what its owner is told (sections 5.6, 5.8, 6.2 and 7.3). -/

namespace Sys2Proof.Machine

open Sys2Proof

/-! ### The command leaves its queue -/

section Dropped

variable {k j : NodeKey} {tag : Byte} {v w : ValveBlock} {s t : State} {r : ValveRec}

/-- The removal of a valve's command leaves its record, and no entry of it on its leg. -/
theorem dropCommand_own (k : NodeKey) (v : ValveBlock) :
    valveAt (dropCommand k v) k = valveAt v k ∧ AsideOn k.leg k (dropCommand k v) := by
  obtain ⟨u, isU⟩ : ∃ u, u = { v with
      queues := quadMap v.queues k.leg (fun q => q.filter fun e => e.key ≠ k)
      deferred := quadMap v.deferred k.leg (fun d => d.filter fun j => j ≠ k) } := ⟨_, rfl⟩
  have aside : AsideOn k.leg k u := by
    rw [isU]
    unfold AsideOn quadMap
    dsimp only
    rw [quadGet_quadSet, quadGet_quadSet]
    exact ⟨fun e inside => of_decide_eq_true (List.mem_filter.mp inside).2,
      fun inside => absurd rfl (of_decide_eq_true (List.mem_filter.mp inside).2)⟩
  have moved := (refill_onLeg (k := k) k.leg 8 u).keeps aside
  have same : valveAt u k = valveAt v k := by rw [isU]; rfl
  rw [same, isU] at moved
  exact moved

/-- The valve waits in no queue, and its record carries the tag. -/
def Rid (k : NodeKey) (tag : Byte) (v : ValveBlock) : Prop := (∃ r, valveAt v k = some r ∧ r.tag = tag) ∧ Aside k v

theorem Rid.set {f : ValveRec → ValveRec} (h : Rid k tag v) (keeps : ∀ r, (f r).tag = r.tag) : Rid k tag (setValve j f v) := by
  obtain ⟨⟨r, found, tagged⟩, aside⟩ := h
  refine ⟨?_, aside⟩
  by_cases same : k = j
  · subst same
    exact ⟨f r, by rw [valveAt_setValve, found]; rfl, (keeps r).trans tagged⟩
  · exact ⟨r, by rw [valveAt_setValve_ne _ _ same]; exact found, tagged⟩

theorem giveUp_tag (r : ValveRec) : (giveUp r).tag = r.tag := by
  unfold giveUp
  split <;> rfl

theorem Rid.returned (h : Rid k tag v) (j : NodeKey) : Rid k tag (returnValve j v) := h.set fun r => giveUp_tag { r with owner := .none }

theorem Rid.gone (h : Rid k tag v) : OldGone k tag v := .inl h

theorem freeIncident_gone {id : Nat} {evidence : Bool} {into : Option Nat} (h : Rid k tag s.vs) :
    OldGone k tag (freeIncident id evidence into s).vs := by
  cases found : incidentById s id with
  | none =>
    unfold freeIncident
    rw [found]
    exact h.gone
  | some i =>
    obtain ⟨w, told, vs, -⟩ := freeIncident_told evidence into found
    rw [told]
    refine OldGone.tests (tellExercise_tests ..) (Rid.gone ?_)
    rw [vs]
    exact List.foldlRecOn (motive := Rid k tag) i.held _ h fun v hv b _ => hv.returned b.valve

/-- What an incident does on a completion leaves no entry of the tag. -/
theorem valveReached_gone {id : Nat} {t : ValveTarget} (h : Rid k tag s.vs) : OldGone k tag (valveReached id j t s).vs := by
  unfold valveReached
  split
  · exact h.gone
  next i _ =>
    split
    · exact h.gone
    next b _ =>
      split
      · unfold reachedClosed
        split
        · exact OldGone.tests (tellExercise_tests ..) h.gone
        · split <;> exact h.gone
      · unfold reachedOpen
        dsimp only
        split
        · exact freeIncident_gone (h.returned b.valve)
        · exact (h.returned b.valve).gone
      · exact h.gone

theorem reportCompletion_gone {o : Owner} {t : ValveTarget} {stroke : Nat} (h : Rid k tag s.vs) :
    OldGone k tag (reportCompletion j o t stroke s).vs := by
  cases o with
  | none => exact h.gone
  | incident id => exact valveReached_gone h
  | exercise =>
    change OldGone k tag (exerciseCompleted j stroke s).vs
    unfold exerciseCompleted
    split
    · exact h.gone
    · split
      · exact OldGone.tests (afterVerdict_tests _) (Rid.returned (h.set (f := fun r => { r with unreliable := false }) fun _ => rfl) j).gone
      · exact h.gone

/-- So does an adoption. -/
theorem judgeAdoption_gone {m : ValveSample} (h : OldGone k tag s.vs) : OldGone k tag (judgeAdoption k m s).vs := by
  unfold judgeAdoption
  split
  next r b found _ =>
    split
    next adopts =>
      have rid : Rid k tag s.vs := by
        rcases h with rid | ⟨⟨r', found', -, targeted⟩, -⟩
        · exact rid
        · cases found.symm.trans found'
          exact absurd adopts.2.2 targeted
      unfold foundClosed
      split
      · exact h
      · split
        next opened =>
          refine OldGone.tests (tellExercise_tests ..) (Rid.gone ?_)
          rw [(openIncident_eq_some_iff.mp opened).2.2]
          exact rid.set fun _ => rfl
        · unfold overflowOn
          split <;> exact h
    · exact h
  · exact h

end Dropped

/-! ### A completing sample -/

section Completing

variable {k : NodeKey} {s : State} {r : ValveRec} {m : ValveSample} {target : ValveTarget}

/-- The record a completed command leaves (R135). -/
def endedBy (m : ValveSample) (r : ValveRec) : ValveRec :=
  { r with position := some m.position, lastStroke := some m.stroke, target := none, phase := .none, start := none
           limit := none, attempts := 0, fault := .none }

/-- A record with the position and stroke time of a sample. -/
def shownBy (m : ValveSample) (r : ValveRec) : ValveRec := { r with position := some m.position, lastStroke := some m.stroke }

/-- The state in which the command has ended, before the owner is told of the completion. -/
structure Ended (k : NodeKey) (m : ValveSample) (r : ValveRec) (s c : State) : Prop where
  frame : c = { s with ie := c.ie, vs := c.vs }
  record : valveAt c.vs k = some (endedBy m r)
  aside : Aside k c.vs
  incident : ∀ id i, r.owner = .incident id → incidentById s id = some i →
    ∃ i', incidentById c id = some i' ∧ (i' = i ∨ i' = touch s.rt.number i)

/-- A completing sample changes no fault of itself, and ends the command. -/
theorem sampleJudged_completes (found : valveAt s.vs k = some (shownBy m r)) (targeted : r.target = some target)
    (tagged : m.tag = r.tag) (reached : reaches target m = true)
    (inForce : r.owner = .none → r.phase ≠ .expired ∧ r.phase ≠ .abandoned) :
    sampleJudged k m s = judgeAdoption k m (completeCommand k target m s) := by
  have unjammed : m.position ≠ .jammed := fun jammed => by
    unfold reaches at reached
    rw [jammed] at reached
    cases target <;> simp at reached
  have stays : sampleFault m.position (shownBy m r) = shownBy m r := by
    unfold sampleFault
    rw [if_neg unjammed, if_neg]
    rintro ⟨-, untargeted, -⟩
    rw [show (shownBy m r).target = some target from targeted] at untargeted
    cases untargeted
  have kept : giveUp (shownBy m r) = shownBy m r := if_neg fun ended => by
    obtain ⟨expired, abandoned⟩ := inForce ended.1
    exact ended.2.elim expired abandoned
  have same : changeFault k (sampleFault m.position) s = s := by
    rw [changeFault_eq found stays, if_pos rfl, kept]
    unfold setValve
    rw [assocMap_id found]
  unfold sampleJudged
  dsimp only
  rw [same, found]
  dsimp only
  rw [show (shownBy m r).target = some target from targeted]
  dsimp only
  rw [if_pos ⟨tagged, reached⟩]

/-- A cleared fault that is told moves the record of the incident alone. -/
theorem reportFault_cleared (k : NodeKey) (o : Owner) (s : State) :
    reportFault k o .none s = { s with ie := (reportFault k o .none s).ie } ∧
      ∀ id i, o = .incident id → incidentById s id = some i →
        ∃ i', incidentById (reportFault k o .none s) id = some i' ∧ (i' = i ∨ i' = touch s.rt.number i) := by
  cases o with
  | none => exact ⟨rfl, fun id i owned => by cases owned⟩
  | exercise =>
    have stays : reportFault k .exercise .none s = s := by
      change exerciseFaulted k .none s = s
      unfold exerciseFaulted causeOfFault
      split
      next cause => cases cause
      · rfl
    rw [stays]
    exact ⟨rfl, fun id i owned => by cases owned⟩
  | incident id =>
    rw [show reportFault k (.incident id) .none s = valveFaultEvent id k .none s from rfl]
    have told : valveFaultEvent id k .none s = s ∨ valveFaultEvent id k .none s = changeIncident id (fun j => j) s := by
      simp only [valveFaultEvent]
      split
      · exact .inl rfl
      · split
        · exact .inl rfl
        · rw [if_neg fun h => h.1 rfl]
          exact .inr rfl
    refine ⟨?_, fun id' i same open_ => ?_⟩
    · rcases told with stays | changed
      · rw [stays]
      · rw [changed]
        rfl
    · cases same
      rcases told with stays | changed
      · rw [stays]
        exact ⟨i, open_, .inl rfl⟩
      · rw [changed]
        exact ⟨_, incidentById_changeIncident open_ fun _ => rfl, .inr rfl⟩

/-- The command ends before the owner is told of its completion. -/
theorem completeCommand_ends (found : valveAt s.vs k = some (shownBy m r)) (waits : ∀ l ≠ k.leg, AsideOn l k s.vs) :
    ∃ c, Ended k m r s c ∧ completeCommand k target m s = reportCompletion k r.owner target m.stroke c := by
  obtain ⟨s₁, isS₁⟩ : ∃ s₁ : State, s₁ = { s with vs := dropCommand k (setValve k (fun r =>
    { r with target := none, phase := .none, start := none, limit := none, attempts := 0, fault := .none }) s.vs) } := ⟨_, rfl⟩
  have record : valveAt s₁.vs k = some (endedBy m r) := by
    rw [isS₁]
    refine (dropCommand_own k _).1.trans ?_
    rw [valveAt_setValve, found]
    rfl
  have aside : Aside k s₁.vs := by
    rw [isS₁]
    intro l
    by_cases own : l = k.leg
    · rw [own]
      exact (dropCommand_own k _).2
    · obtain ⟨queue, order⟩ := (dropCommand_onLeg (k := k) k (setValve k (fun r =>
        { r with target := none, phase := .none, start := none, limit := none, attempts := 0, fault := .none }) s.vs)).others l own
      change AsideOn l k _
      unfold AsideOn
      rw [queue, order]
      exact waits l own
  obtain ⟨cleared, incidents⟩ := reportFault_cleared k r.owner s₁
  have frame : s₁ = { s with vs := s₁.vs } := by rw [isS₁]
  have ran : completeCommand k target m s = reportCompletion k r.owner target m.stroke
      (if r.fault = .none then s₁ else reportFault k r.owner .none s₁) := by
    unfold completeCommand
    rw [found, isS₁]
    rfl
  have byId (id : Nat) : incidentById s₁ id = incidentById s id := by rw [isS₁]; rfl
  refine ⟨_, ?_, ran⟩
  split
  · exact ⟨by rw [frame], record, aside, fun id i _ open_ => ⟨i, (byId id).trans open_, .inl rfl⟩⟩
  · have vs : (reportFault k r.owner .none s₁).vs = s₁.vs := by rw [cleared]
    refine ⟨by rw [cleared, frame], by rw [vs]; exact record, by rw [vs]; exact aside, fun id i owned open_ => ?_⟩
    have round : s₁.rt = s.rt := by rw [isS₁]
    obtain ⟨i', found', alike⟩ := incidents id i owned ((byId id).trans open_)
    exact ⟨i', found', by rw [round] at alike; exact alike⟩

end Completing

end Sys2Proof.Machine
end

section
/-! What the owner of a completed command makes of it (sections 5.6, 5.8, 6.2 and 7.3). -/

namespace Sys2Proof.Machine

open Sys2Proof

section Told

variable {k : NodeKey} {s c t : State} {r : ValveRec} {m : ValveSample} {i : Incident} {b : BranchId} {id : Nat}

theorem heldBranch_valve (held : heldBranch i k = some b) : b.valve = k :=
  of_decide_eq_true (List.find?_some (p := fun b : BranchId => decide (b.valve = k)) held)

theorem valveReached_close (open_ : incidentById s id = some i) (held : heldBranch i k = some b) :
    valveReached id k .toClose s = reachedClosed i b s := by
  unfold valveReached
  rw [open_]
  dsimp only
  rw [held]

theorem valveReached_open (open_ : incidentById s id = some i) (held : heldBranch i k = some b) :
    valveReached id k .toOpen s = reachedOpen i b s := by
  unfold valveReached
  rw [open_]
  dsimp only
  rw [held]

/-- A held valve that closes stays its incident's. -/
theorem reachedClosed_keeps (found : valveAt s.vs k = some r) (owned : r.owner ≠ .none) (aside : Aside k s.vs) :
    valveAt (reachedClosed i b s).vs k = some r ∧ Aside k (reachedClosed i b s).vs := by
  unfold reachedClosed
  split
  · exact (tellExercise_tests ..).untestable found (.inr (.inr (.inr owned))) aside
  · split <;> exact ⟨found, aside⟩

/-- The target of an ISOLATING incident closes: it is ISOLATED (R105). -/
theorem reachedClosed_isolates (open_ : incidentById s i.id = some i) (isolating : i.state = .isolating) (target : i.target = some b) :
    ∃ j ∈ (reachedClosed i b s).ie.incidents, j.id = i.id ∧ j.state = .isolated ∧ j.closing = some s.rt.number ∧ j.settle = 0 := by
  have changed := incidentById_changeIncident
    (f := fun j => zeroHeldRuns { j with state := .isolated, closing := some s.rt.number, settle := 0 })
    open_ fun _ => rfl
  unfold reachedClosed
  rw [if_pos ⟨isolating, target⟩, (tellExercise_tests ..).frame]
  exact ⟨_, mem_of_incidentById changed, rfl, rfl, rfl, rfl⟩

/-- The incident's record as a valve found OPEN leaves it (R113). -/
def reopenedIn (b : BranchId) (j : Incident) : Incident :=
  { j with held := j.held.filter fun x => decide (x ≠ b), reopening := if j.reopening = some b then none else j.reopening }

/-- The state in which the valve found OPEN has left its incident. -/
def leftBy (i : Incident) (b : BranchId) (s : State) : State :=
  let s1 := setNotice b .restored (changeIncident i.id (reopenedIn b) s)
  { s1 with vs := returnValve b.valve s1.vs }

theorem reachedOpen_eq (i : Incident) (b : BranchId) (s : State) : reachedOpen i b s =
    if i.state = .releasing ∧ i.held.filter (fun x => decide (x ≠ b)) = [] then freeIncident i.id true none (leftBy i b s)
    else leftBy i b s := rfl

theorem leftBy_incident (open_ : incidentById s i.id = some i) :
    incidentById (leftBy i b s) i.id = some (touch s.rt.number (reopenedIn b i)) :=
  incidentById_changeIncident (f := reopenedIn b) open_ fun _ => rfl

/-- An exercise that is IDLE stays as it is when the incidents' states are told. -/
theorem tellExercise_idle (entered : Option IncState) (idle : s.xc.state = .idle) : (tellExercise entered s).vs = s.vs := by
  have suspends (t : State) (idle : t.xc.state = .idle) : suspendEvent t = t := by
    unfold suspendEvent
    rw [if_pos idle]
  have resumes (t : State) (idle : t.xc.state = .idle) : resumeEvent t = t := by
    unfold resumeEvent
    rw [if_pos idle]
  simp only [tellExercise]
  split
  iterate 3
    rw [suspends s idle]
    split
    · rfl
    · rw [resumes s idle]
  split
  · rfl
  · rw [resumes s idle]

/-- The valve of a branch found OPEN has no owner any more. -/
theorem reachedOpen_returns (open_ : incidentById s i.id = some i) (named : b.valve = k)
    (found : valveAt s.vs k = some r) (ended : r.phase = .none) (aside : Aside k s.vs) (idle : s.xc.state = .idle) :
    valveAt (reachedOpen i b s).vs k = some { r with owner := .none } ∧ Aside k (reachedOpen i b s).vs := by
  have kept : giveUp { r with owner := .none } = { r with owner := .none } := if_neg fun given => by
    rcases given.2 with expired | abandoned
    · exact absurd (ended.symm.trans expired) nofun
    · exact absurd (ended.symm.trans abandoned) nofun
  have returned : valveAt (leftBy i b s).vs k = some { r with owner := .none } := by
    subst named
    change valveAt (setValve b.valve _ s.vs) b.valve = _
    rw [valveAt_setValve, found, Option.map_some, kept]
  have still : Aside k (leftBy i b s).vs := aside
  rw [reachedOpen_eq]
  split
  next last =>
    obtain ⟨w, told, vs, xc⟩ := freeIncident_told true none (leftBy_incident (b := b) open_)
    rw [told, tellExercise_idle none (by rw [xc]; exact idle), vs]
    change valveAt (List.foldl _ _ (i.held.filter fun x => decide (x ≠ b))) k = _ ∧
      Aside k (List.foldl _ _ (i.held.filter fun x => decide (x ≠ b)))
    rw [last.2]
    exact ⟨returned, still⟩
  · exact ⟨returned, still⟩

/-- The incident is freed, or keeps its state and holds the others. -/
theorem reachedOpen_leaves (open_ : incidentById s i.id = some i) :
    if i.state = .releasing ∧ i.held.filter (fun x => decide (x ≠ b)) = [] then ∀ j ∈ (reachedOpen i b s).ie.incidents, j.id ≠ i.id
    else ∃ j ∈ (reachedOpen i b s).ie.incidents, j.id = i.id ∧ j.state = i.state ∧ j.held = i.held.filter fun x => decide (x ≠ b) := by
  have left := leftBy_incident (b := b) open_
  rw [reachedOpen_eq]
  split
  · exact (freeIncident_leaves left).1
  · exact ⟨_, mem_of_incidentById left, rfl, rfl, rfl⟩

/-- The test of valve `k` completes: its entry is PASS or SLOW, and its valve is returned (R148). -/
theorem exerciseCompleted_eq {x : ExTest} (testing : s.xc.test = some x) (same : x.key = k) (stroke : Nat) :
    exerciseCompleted k stroke s = afterVerdict { s with
      xc := { addResult ⟨x.branch, if stroke ≤ 75 * x.limit then .pass else .slow, none, some stroke, some x.limit, s.rt.number⟩ s.xc with
        test := none }
      vs := returnValve k (markUnreliable k false s.vs) } := by
  unfold exerciseCompleted
  rw [testing]
  exact if_pos same

theorem exerciseCompleted_results {x : ExTest} (testing : s.xc.test = some x) (same : x.key = k) (stroke : Nat) :
    ∃ more, (exerciseCompleted k stroke s).xc.results = s.xc.results ++
      [⟨x.branch, if stroke ≤ 75 * x.limit then .pass else .slow, none, some stroke, some x.limit, s.rt.number⟩] ++ more := by
  rw [exerciseCompleted_eq testing same]
  exact afterVerdict_results _

/-- The last test of the plan ends the exercise (R151). -/
theorem exerciseCompleted_ends {x : ExTest} (testing : s.xc.test = some x) (same : x.key = k) (stroke : Nat)
    (last : s.xc.plan.length ≤ s.xc.cursor) (found : valveAt s.vs k = some r) (ended : r.phase = .none) (aside : Aside k s.vs) :
    let t := exerciseCompleted k stroke s
    (valveAt t.vs k = some { r with owner := .none, unreliable := false } ∧ Aside k t.vs) ∧
      t.xc.state = .idle ∧ t.xc.test = none ∧ t.xc.endKind = if s.xc.abortPending then .aborted else .finished := by
  intro t
  have kept : giveUp { r with owner := .none, unreliable := false } = { r with owner := .none, unreliable := false } :=
    if_neg fun given => by
      rcases given.2 with expired | abandoned
      · exact absurd (ended.symm.trans expired) nofun
      · exact absurd (ended.symm.trans abandoned) nofun
  obtain ⟨u, isU⟩ : ∃ u : State, u = { s with
      xc := { addResult ⟨x.branch, if stroke ≤ 75 * x.limit then .pass else .slow, none, some stroke, some x.limit, s.rt.number⟩ s.xc with
        test := none }
      vs := returnValve k (markUnreliable k false s.vs) } := ⟨_, rfl⟩
  have isT : t = { u with xc := endExercise (if s.xc.abortPending then .aborted else .finished) u.xc } := by
    rw [show t = afterVerdict u from isU ▸ exerciseCompleted_eq testing same stroke, isU]
    unfold afterVerdict
    by_cases pending : s.xc.abortPending
    · exact (if_pos pending).trans (by rw [if_pos pending])
    · exact ((if_neg pending).trans (if_pos last)).trans (by rw [if_neg pending])
  have returned : valveAt u.vs k = some { r with owner := .none, unreliable := false } := by
    rw [isU]
    simp only [returnValve, markUnreliable, valveAt_setValve, found, Option.map_some]
    exact congrArg some kept
  rw [isT]
  refine ⟨⟨returned, ?_⟩, rfl, by rw [isU]; rfl, rfl⟩
  rw [isU]
  exact aside

end Told

/-! ### A completing sample, whole -/

section Ends

variable {k : NodeKey} {s c t : State} {r : ValveRec} {m : ValveSample}

/-- Nothing is adopted from a valve that is not CLOSED or has an owner. -/
theorem judgeAdoption_not (found : valveAt s.vs k = some r) (unfit : m.position = .closed → r.owner ≠ .none) :
    judgeAdoption k m s = s := by
  unfold judgeAdoption
  rw [found]
  split
  next same _ =>
    cases same
    exact if_neg fun adopts => unfit adopts.1 adopts.2.1
  · rfl

theorem completes_target (done : completes r m.position m.target m.tag) : ∃ target, r.target = some target ∧ reaches target m = true := by
  obtain ⟨-, -, ⟨targeted, closed⟩ | ⟨targeted, opened⟩ | ⟨targeted, opened, reported⟩⟩ := done
  · exact ⟨_, targeted, decide_eq_true closed⟩
  · exact ⟨_, targeted, decide_eq_true opened⟩
  · exact ⟨_, targeted, decide_eq_true ⟨opened, reported⟩⟩

/-- A completing sample ends the command, tells the owner, and has the valve judged for adoption. -/
theorem valveSample_completes (found : valveAt s.vs k = some r) (waits : waitsOnItsLeg s k)
    (done : completes r m.position m.target m.tag) : ∃ c target, r.target = some target ∧ reaches target m = true ∧
      Ended k m r s c ∧ valveSample k m s = judgeAdoption k m (reportCompletion k r.owner target m.stroke c) := by
  obtain ⟨s₁, isS₁⟩ : ∃ u : State, u = { s with vs := setValve k (shownBy m) s.vs } := ⟨_, rfl⟩
  have shown : valveAt s₁.vs k = some (shownBy m r) := by
    rw [isS₁, valveAt_setValve, found]
    rfl
  have elsewhere : ∀ l ≠ k.leg, AsideOn l k s₁.vs := by
    rw [isS₁]
    exact waits
  obtain ⟨target, targeted, reached⟩ := completes_target done
  obtain ⟨c, ends, told⟩ := completeCommand_ends (target := target) shown elsewhere
  refine ⟨c, target, targeted, reached, ⟨?_, ends.record, ends.aside, ?_⟩, ?_⟩
  · have frame := ends.frame
    rw [isS₁] at frame
    exact frame
  · have incident := ends.incident
    rw [isS₁] at incident
    exact incident
  · rw [← told, ← sampleJudged_completes shown targeted done.1 reached done.2.1, isS₁]
    exact valveSample_eq m found

theorem valveSample_gone (found : valveAt s.vs k = some r) (waits : waitsOnItsLeg s k)
    (done : completes r m.position m.target m.tag) : OldGone k r.tag (valveSample k m s).vs := by
  obtain ⟨c, target, -, -, ends, told⟩ := valveSample_completes found waits done
  rw [told]
  exact judgeAdoption_gone (reportCompletion_gone ⟨⟨_, ends.record, rfl⟩, ends.aside⟩)

/-- An incident stands in either of two lists that differ in report pending flags. -/
theorem incident_alike {u w : List Incident} {i : Incident} (same : u.map quietIncident = w.map quietIncident) (inside : i ∈ u) :
    ∃ j ∈ w, quietIncident j = quietIncident i := by
  have mapped : quietIncident i ∈ w.map quietIncident := same ▸ List.mem_map_of_mem inside
  exact List.mem_map.mp mapped

/-- What a completing sample leaves of the valve, of its incident and of the exercise, once the step has ended. -/
theorem valveSample_commandEnds (found : valveAt s.vs k = some r) (waits : waitsOnItsLeg s k)
    (done : completes r m.position m.target m.tag)
    (ie : t.ie.incidents.map quietIncident = (valveSample k m s).ie.incidents.map quietIncident) (xc : t.xc = (valveSample k m s).xc)
    (valves : Unmoved k (valveSample k m s).vs t.vs) : commandEnds s k r m.position m.stroke t := by
  obtain ⟨c, target, targeted, reached, ends, told⟩ := valveSample_completes found waits done
  have books : c.xc = s.xc := by rw [ends.frame]
  have round : c.rt = s.rt := by rw [ends.frame]
  have record := ends.record
  have kept {u : State} {r' : ValveRec} (same : valveSample k m s = u) (h : valveAt u.vs k = some r' ∧ Aside k u.vs) :
      valveAt t.vs k = some r' := (valves.keeps (same ▸ h.2)).1.trans (same ▸ h.1)
  have unadopted {u : State} (same : reportCompletion k r.owner target m.stroke c = u) {r' : ValveRec}
      (found : valveAt u.vs k = some r') (unfit : m.position = .closed → r'.owner ≠ .none) : valveSample k m s = u := by
    rw [told, same, judgeAdoption_not found unfit]
  refine ⟨fun free opened _ => ?_, fun id i b owned open_ held => ?_, fun y owned tested testing same => ?_⟩
  · have stays : reportCompletion k r.owner target m.stroke c = c := by rw [free]; rfl
    exact kept (unadopted stays record fun closed => absurd closed opened) ⟨record, ends.aside⟩
  · obtain ⟨i', open', alike⟩ := ends.incident id i owned open_
    have named : i'.id = id := id_of_incidentById open'
    subst named
    have state : i'.state = i.state := by rcases alike with rfl | rfl <;> rfl
    have target' : i'.target = i.target := by rcases alike with rfl | rfl <;> rfl
    have holds : i'.held = i.held := by rcases alike with rfl | rfl <;> rfl
    have held' : heldBranch i' k = some b := by
      unfold heldBranch
      rw [holds]
      exact held
    have tells : reportCompletion k r.owner target m.stroke c = valveReached i'.id k target c := by rw [owned]; rfl
    refine ⟨fun closing => ?_, fun opening => ?_⟩
    · cases targeted.symm.trans closing
      rw [valveReached_close open' held'] at tells
      have still := reachedClosed_keeps (i := i') (b := b) record (show r.owner ≠ .none by rw [owned]; nofun) ends.aside
      have ran := unadopted tells still.1 fun _ => by
        change r.owner ≠ .none
        rw [owned]
        nofun
      refine ⟨kept ran still, fun isolating aims => ?_⟩
      obtain ⟨j, inside, sameId, isolated, closing, settle⟩ :=
        reachedClosed_isolates open' (state.trans isolating) (target'.trans aims)
      rw [← ran] at inside
      obtain ⟨j', inside', alike⟩ := incident_alike ie.symm inside
      have ids := congrArg Incident.id alike
      have states := congrArg Incident.state alike
      have closings := congrArg Incident.closing alike
      have settles := congrArg Incident.settle alike
      rw [← round]
      exact ⟨j', inside', ids.trans sameId, states.trans isolated, closings.trans closing, settles.trans settle⟩
    · cases targeted.symm.trans opening
      rw [valveReached_open open' held'] at tells
      have position : m.position ≠ .closed := fun closed => by
        rw [reaches, closed] at reached
        cases reached
      have ran : valveSample k m s = reachedOpen i' b c := by
        rw [told, tells]
        unfold judgeAdoption
        split
        · exact if_neg fun adopts => position adopts.1
        · rfl
      refine ⟨fun idle => kept ran ?_, ?_⟩
      · exact reachedOpen_returns open' (heldBranch_valve held') record rfl ends.aside (by rw [books]; exact idle)
      · have leaves := reachedOpen_leaves (b := b) open'
        rw [← ran, state, holds] at leaves
        split at leaves
        next freed =>
          rw [if_pos freed]
          intro j inside sameId
          obtain ⟨j', inside', alike⟩ := incident_alike ie inside
          have ids := congrArg Incident.id alike
          exact leaves j' inside' (ids.trans sameId)
        next kept =>
          rw [if_neg kept]
          obtain ⟨j, inside, sameId, sameState, held⟩ := leaves
          obtain ⟨j', inside', alike⟩ := incident_alike ie.symm inside
          have ids := congrArg Incident.id alike
          have states := congrArg Incident.state alike
          have helds := congrArg Incident.held alike
          exact ⟨j', inside', ids.trans sameId, states.trans sameState, helds.trans held⟩
  · cases targeted.symm.trans tested
    have position : m.position ≠ .closed := fun closed => by
      rw [reaches, closed] at reached
      cases reached
    have ran : valveSample k m s = exerciseCompleted k m.stroke c := by
      rw [told, owned]
      unfold judgeAdoption
      split
      · exact if_neg fun adopts => position adopts.1
      · rfl
    rw [xc, ran]
    rw [← books] at testing ⊢
    rw [← round]
    refine ⟨exerciseCompleted_results testing same m.stroke, fun last => ?_⟩
    obtain ⟨returned, rest⟩ := exerciseCompleted_ends testing same m.stroke last record rfl ends.aside
    exact ⟨kept ran returned, rest⟩

end Ends

end Sys2Proof.Machine
end

section
/-! The end of a poll that a SAMPLE answers (sections 1.4, 2.3 to 2.6, 3.3 and 6.2). -/

namespace Sys2Proof.Machine

open Sys2Proof

/-! ### The record a sample leaves -/

section Record

variable {r : NodeRec} {d : DripFields} {n : NodeRun} {round : Half} {position : Option Nat} {payload : List Byte}

/-- A node's record once its sample has been handled (R27). -/
def taken (position : Option Nat) (r : NodeRec) (payload : List Byte) (round : Half) (n : NodeRun) : NodeRun :=
  judgeMirror r (verdictOf (nodeKind r) payload) payload
    (sampled position r (verdictOf (nodeKind r) payload) payload round (arrived r payload round n))

theorem judgeMirror_frame (r : NodeRec) (v : Verdict) (payload : List Byte) (n : NodeRun) :
    judgeMirror r v payload n = { n with mirrorPending := (judgeMirror r v payload n).mirrorPending } := by
  unfold judgeMirror
  split <;> rfl

/-- A sample makes its node PRESENT with no misses, and is its last. -/
theorem taken_keeps (position : Option Nat) (r : NodeRec) (payload : List Byte) (round : Half) (n : NodeRun) :
    (taken position r payload round n).presence = .present ∧ (taken position r payload round n).misses = 0 ∧
      (taken position r payload round n).last = some ⟨payload, sampleVerdict (nodeKind r) payload, round⟩ := by
  obtain ⟨presence, misses, last⟩ :=
    sampled_keeps position r (verdictOf (nodeKind r) payload) payload round (arrived r payload round n)
  unfold taken
  rw [judgeMirror_frame]
  exact ⟨presence, misses, last.trans (by rw [← verdictOf_eq]; rfl)⟩

/-- A USABLE sample of a DRIP node. -/
theorem taken_drip (body : r.body = .drip d) (lv dr tag : Byte) :
    ∃ mirror, taken position r [lv, dr, 0, tag] round n =
      { dripTaken (decide (resolveUnit position d.evUnit = 0)) d lv.toNat dr.toNat round (arrived r [lv, dr, 0, tag] round n) with
        mirrorPending := mirror } := by
  have kind : nodeKind r = .drip := by
    unfold nodeKind
    rw [body]
  have handled : sampled position r (verdictOf (nodeKind r) [lv, dr, 0, tag]) [lv, dr, 0, tag] round (arrived r [lv, dr, 0, tag] round n) =
      dripTaken (decide (resolveUnit position d.evUnit = 0)) d lv.toNat dr.toNat round (arrived r [lv, dr, 0, tag] round n) := by
    rw [kind]
    unfold sampled
    rw [body]
    rfl
  unfold taken
  rw [handled]
  exact ⟨_, judgeMirror_frame ..⟩

theorem remoteSample_frame (drops level : Nat) (onset : Bool) (stamp : Half) (n : NodeRun) :
    (remoteSample drops level onset stamp n).usableLevel = n.usableLevel ∧
      (remoteSample drops level onset stamp n).floodMark = n.floodMark ∧ (remoteSample drops level onset stamp n).wet = n.wet := by
  unfold remoteSample
  dsimp only
  split <;> exact ⟨rfl, rfl, rfl⟩

/-- Its level, flood mark and wet state (R32 to R35). -/
theorem dripTaken_shows (here : Bool) (d : DripFields) (level drops : Nat) (round : Half) (n : NodeRun) :
    (dripTaken here d level drops round n).usableLevel = some level ∧
      (dripTaken here d level drops round n).floodMark = decide (d.flood ≤ level) ∧
      (dripTaken here d level drops round n).wet = if n.wet then decide (d.wet - d.hyst ≤ level) else decide (d.wet ≤ level) := by
  have rearm : wetAfter d n.wet level = if n.wet then decide (d.wet - d.hyst ≤ level) else decide (d.wet ≤ level) := by
    unfold wetAfter rearmPoint
    rw [← decide_not, decide_eq_decide.mpr Nat.not_lt]
  unfold dripTaken
  dsimp only
  split
  · exact ⟨rfl, rfl, rearm⟩
  · obtain ⟨levels, floods, wets⟩ := remoteSample_frame drops level (wetOnset d n.wet level) round
      { n with usableLevel := some level, wet := wetAfter d n.wet level, floodMark := decide (d.flood ≤ level) }
    exact ⟨levels, floods, wets.trans rearm⟩

/-- The DROP REPORT material it leaves when another unit holds the row (R39, R40). -/
theorem dripTaken_material (d : DripFields) (level drops : Nat) (round : Half) (n : NodeRun) :
    remoteMaterial d n level drops round (dripTaken false d level drops round n) := by
  have onset : wetOnset d n.wet level = (!n.wet && decide (d.wet ≤ level)) := rfl
  unfold remoteMaterial dripTaken remoteSample
  simp only [Bool.false_eq_true, if_false, ← onset]
  generalize wetOnset d n.wet level = onset
  cases active : decide (1 ≤ drops) || onset
  · cases tail : n.tail with
    | out => simp [reportTail]
    | inside c =>
      have later : (if 14 ≤ c then Tail.out else .inside (c + 1)) = if c < 14 then .inside (c + 1) else .out := by
        by_cases low : c < 14
        · rw [if_neg (by omega), if_pos low]
        · rw [if_pos (by omega), if_neg low]
      simp [reportTail, tailUp, mergeSample, heldAt, Nat.min_comm, later]
  · cases n.tail <;> simp [reportTail, mergeSample, heldAt, Nat.min_comm]

end Record

/-! ### The end of the step -/

section Settled

variable {s t w : State}

/-- While the upper transmitter is busy the end of a step grants it nothing. -/
theorem upperReady_of_busy (busy : s.ti.upperTx.isSome = true) : upperReady (boundaries s) = false := by
  obtain ⟨x, sending⟩ := Option.isSome_iff_exists.mp busy
  have same : (boundaries s).ti.upperTx = s.ti.upperTx := by rw [boundaries_frame]
  unfold upperReady
  rw [same, sending]
  rfl

/-- With both transmitters busy the end of a step leaves the Node Directory as it stands. -/
theorem settleAll_directory (upper : s.ti.upperTx.isSome = true) (lower : s.ti.lowerTx ≠ .free) : (settleAll s).nd = s.nd := by
  have frame := boundaries_frame s

  have down : lowerReady (boundaries s) = false := by
    rw [frame]
    exact (Bool.and_eq_false_iff ..).mpr (.inl (decide_eq_false lower))
  change (grantLower (grantUpper (boundaries s))).nd = s.nd
  rw [grantUpper_of_not_ready (upperReady_of_busy upper), grantLower_of_not_ready down, frame]

/-- The end of a step whose work moved every block a sample reaches. -/
theorem quiet_of_sample (same : quiet t = quiet { w with le := t.le, vs := t.vs })
    (frame : w = { s with le := w.le, nd := w.nd, fa := w.fa, de := w.de, ie := w.ie, vs := w.vs, xc := w.xc }) :
    quiet t = quiet { s with le := t.le, nd := t.nd, fa := t.fa, de := t.de, ie := t.ie, vs := t.vs, xc := t.xc } := by
  rw [show quiet { s with le := t.le, nd := t.nd, fa := t.fa, de := t.de, ie := t.ie, vs := t.vs, xc := t.xc } =
    { quiet s with
      le := (quiet t).le, nd := (quiet t).nd, fa := (quiet t).fa, de := (quiet t).de, ie := (quiet t).ie, vs := (quiet t).vs
      xc := (quiet t).xc } from rfl, same, frame]
  rfl

end Settled

/-! ### Samples by kind -/

section ByKind

variable {s : State} {k : NodeKey} {i : Nat} {r : NodeRec} {n : NodeRun} {payload : List Byte}

/-- A FLOW sample is its branch side's value of the round. -/
theorem takeSample_flow {j : Nat} {b : BranchRec} {onSupply : Bool} {y : BranchId} {g : BranchFlow} (body : r.body = .flow)
    (entry : nodeByKey s.ts.active k = some (i, r)) (side : flowSide s.ts.active i = some (j, b, onSupply))
    (named : branchIdent s.ts.active b = some y) (found : assocGet y s.fa.branches = some g) :
    ∃ g', (takeSample k payload s).fa.branches = assocMap y (fun _ => g') s.fa.branches ∧
      flowTaken s b onSupply (if sampleVerdict .flow payload = .usable then .reading (ofBytes2 (payload.getD 0 0) (payload.getD 1 0))
        else .noReading) g g' := by
  have kind : nodeKind r = .flow := by
    unfold nodeKind
    rw [body]
  obtain ⟨u, isU⟩ : ∃ u, u = sampleStored k r payload s := ⟨_, rfl⟩
  have kept : u = { s with nd := u.nd, de := u.de, ie := u.ie, vs := u.vs, xc := u.xc } := by
    have outcome := nodeOutcome_keeps k true s
    rw [isU]
    unfold sampleStored
    generalize nodeOutcome k true s = w at outcome ⊢
    rw [outcome]
    rfl
  have flows : u.fa = s.fa := by rw [kept]
  have round : u.rt = s.rt := by rw [kept]
  have tables : u.ts = s.ts := by rw [kept]
  obtain ⟨g', moved, taken⟩ := flowSample_takes (s := u) (i := i) (flowValue (verdictOf .flow payload) payload)
    (by rw [tables]; exact side) (by rw [tables]; exact named) (by rw [flows]; exact found)
  refine ⟨g', ?_, flowTaken_congr flows round tables (by rw [← flowValue_eq]; exact taken)⟩
  rw [takeSample_eq entry, ← isU, kind, ← flows, ← moved]
  unfold sampleByKind
  rw [body]
  rfl

/-- A USABLE VALVE sample of a node that was PRESENT moves the Node Directory, and is handled. -/
theorem takeSample_valve {c : Nat} {m : ValveSample} (body : r.body = .valve c) (entry : nodeByKey s.ts.active k = some (i, r))
    (found : assocGet k s.nd.nodes = some n) (present : n.presence = .present)
    (usable : sampleVerdict .valve payload = .usable) (fields : valveFields payload = some m) :
    ∃ u, u = { s with nd := u.nd } ∧ (takeSample k payload s).ie = (valveSample k m u).ie ∧
      (takeSample k payload s).xc = (valveSample k m u).xc ∧ (takeSample k payload s).vs = (valveSample k m u).vs := by
  have kind : nodeKind r = .valve := by
    unfold nodeKind
    rw [body]
  obtain ⟨u, isU⟩ : ∃ u, u = sampleStored k r payload s := ⟨_, rfl⟩
  have kept : u = { s with nd := u.nd } := by
    have outcome := nodeOutcome_steady (reply := true) found present.symm
    rw [isU]
    unfold sampleStored
    generalize nodeOutcome k true s = w at outcome ⊢
    rw [outcome]
    rfl
  refine ⟨u, kept, ?_⟩
  rw [takeSample_eq entry, ← isU, kind, verdictOf_eq, usable]
  unfold sampleByKind
  rw [body]
  dsimp only
  rw [fields]
  exact ⟨rfl, rfl, rfl⟩

theorem commandEnds_congr {u t : State} {v : ValveRec} {p : ValvePos} {stroke : Nat}
    (same : u.ie = s.ie ∧ u.xc = s.xc ∧ u.rt = s.rt) (h : commandEnds u k v p stroke t) : commandEnds s k v p stroke t := by
  obtain ⟨incidents, exercise, round⟩ := same
  unfold commandEnds incidentById at h ⊢
  rw [incidents, exercise, round] at h
  exact h

end ByKind

/-- Settles O47. -/
theorem aSampleIsTaken : Obligations.ASampleIsTaken := by
  unfold Obligations.ASampleIsTaken
  intro s l x n i r f bytes found asked opened entry tabled good place kind
  obtain ⟨w₀, isW₀⟩ : ∃ w, w = lineFreed l false (legAt s l).disregard s := ⟨_, rfl⟩
  have freed : w₀ = { s with le := w₀.le } := by rw [isW₀]; rfl
  have nodes : w₀.nd = s.nd := by rw [freed]
  have tables : w₀.ts = s.ts := by rw [freed]
  have flows : w₀.fa = s.fa := by rw [freed]
  have round : w₀.rt = s.rt := by rw [freed]
  have trunk : w₀.ti = s.ti := by rw [freed]
  have valves : w₀.vs = s.vs := by rw [freed]
  have entry₀ : assocGet x.key w₀.nd.nodes = some n := nodes ▸ entry
  have tabled₀ : nodeByKey w₀.ts.active x.key = some (i, r) := tables ▸ tabled
  obtain ⟨w₁, isW₁⟩ : ∃ w, w = takeSample x.key f.payload w₀ := ⟨_, rfl⟩
  have one : OneNode x.key n (taken s.ti.position r f.payload s.rt.number n) w₀ w₁ := by
    have sample := OneNode.sample (payload := f.payload) entry₀ tabled₀
    rw [trunk, round, ← isW₁] at sample
    exact sample
  have expected : expectedKind x.purpose = some f.kind := by
    rw [kind]
    rcases asks_polls asked with purpose | purpose <;> rw [purpose] <;> rfl
  have delivered : deliver x (some (f, bytes)) w₀ = w₁ := by
    rw [isW₁]
    unfold deliver
    rcases asks_polls asked with purpose | purpose <;> rw [purpose]
  obtain ⟨g, concluded, -⟩ := concludeTxn_asks asked (some (f, bytes)) false (legAt s l).disregard
  rw [← isW₀, delivered] at concluded
  obtain ⟨w₂, isW₂⟩ : ∃ w, w = setLeg l g w₁ := ⟨_, rfl⟩
  have aside : w₂ = { w₁ with le := w₂.le } := by rw [isW₂]; rfl
  have moved : w₂ = { s with
      le := w₂.le, nd := w₂.nd, fa := w₂.fa, de := w₂.de, ie := w₂.ie, vs := w₂.vs, xc := w₂.xc } := by
    rw [aside, one.frame, freed]
  have directory : w₂.nd = w₁.nd := by rw [aside]
  have ran : exec (.legReplyEnd l bytes) s = .next (settleAll w₂) := by
    rw [replyEnd_closes found opened bytes, validReply_of_good good place expected, ← isW₀, concluded, isW₂]
  have settled (j : NodeKey) := settleAll_node j w₂
  rw [directory] at settled
  have own := settled x.key
  rw [one.node entry₀] at own
  obtain ⟨n', entry', same⟩ := Option.map_eq_some_iff.mp own
  have quieted := quiet_settleAll w₂
  obtain ⟨presence, misses, last⟩ := taken_keeps s.ti.position r f.payload s.rt.number n
  refine ⟨_, n', ran, entry', quiet_of_sample quieted moved, fun j hj => ?_, (congrArg NodeRun.presence same).trans presence,
    (congrArg NodeRun.misses same).trans misses, (congrArg NodeRun.last same).trans last,
    fun d body lv dr tag payload => ?_, fun body j b onSupply y g side named flow => ?_,
    fun c body present po ta tag lo hi p reported v payload position target record waits => ?_⟩
  · rw [settled j, one.others j hj, nodes]
  · obtain ⟨mirror, drip⟩ := taken_drip (position := s.ti.position) (n := n) (round := s.rt.number) body lv dr tag
    rw [← payload] at drip
    obtain ⟨level, flood, wet⟩ := dripTaken_shows (decide (resolveUnit s.ti.position d.evUnit = 0)) d lv.toNat dr.toNat s.rt.number
      (arrived r f.payload s.rt.number n)
    rw [drip] at same
    refine ⟨(congrArg NodeRun.usableLevel same).trans level, (congrArg NodeRun.floodMark same).trans flood,
      (congrArg NodeRun.wet same).trans wet, fun upper lower remote => ?_⟩
    have ti : w₂.ti = s.ti := by rw [moved]
    have still := settleAll_directory (s := w₂) (by rw [ti]; exact upper) (by rw [ti]; exact lower)
    have exact' : n' = taken s.ti.position r f.payload s.rt.number n := by
      rw [still, directory, one.node entry₀] at entry'
      exact (Option.some.inj entry').symm
    rw [exact', drip, decide_eq_false remote]
    exact dripTaken_material d lv.toNat dr.toNat s.rt.number (arrived r f.payload s.rt.number n)
  · obtain ⟨g', stored, taken⟩ := takeSample_flow (payload := f.payload) body tabled₀ (by rw [tables]; exact side)
      (by rw [tables]; exact named) (by rw [flows]; exact flow)
    have branches := congrArg (fun u : State => u.fa.branches) quieted
    have kept : w₂.fa.branches = w₁.fa.branches := by rw [aside]
    refine ⟨g', ?_, flowTaken_congr flows round tables taken⟩
    rw [← flows, ← stored, ← isW₁, ← kept]
    exact branches
  · obtain ⟨m, isM⟩ : ∃ m : ValveSample, m = ⟨p, reported, tag, ofBytes2 lo hi⟩ := ⟨_, rfl⟩
    have fields : valveFields f.payload = some m := by
      rw [payload, isM]
      unfold valveFields
      dsimp only
      rw [position, target]
    have usable : sampleVerdict .valve f.payload = .usable := by
      rw [payload, ← verdictOf_eq]
      unfold verdictOf
      dsimp only
      rw [position, target]
      rfl
    obtain ⟨u, noted, ie, xc, vs⟩ := takeSample_valve body tabled₀ entry₀ present usable fields
    rw [← isW₁] at ie xc vs
    have record' : valveAt u.vs x.key = some v := by
      rw [show u.vs = w₀.vs by rw [noted], valves]
      exact record
    have waits' : waitsOnItsLeg u x.key := by
      unfold waitsOnItsLeg
      rw [show u.vs = w₀.vs by rw [noted], valves]
      exact waits
    have vs₂ : w₂.vs = (valveSample x.key m u).vs := by rw [aside]; exact vs
    have incidents := congrArg (fun u : State => u.ie.incidents) quieted
    have exercise := congrArg (fun u : State => u.xc) quieted
    have ie₂ : w₂.ie = (valveSample x.key m u).ie := by rw [aside]; exact ie
    have xc₂ : w₂.xc = (valveSample x.key m u).xc := by rw [aside]; exact xc
    have unmoved := settleAll_unmoved x.key w₂
    rw [vs₂] at unmoved
    refine ⟨?_, fun done => ⟨?_, ?_⟩⟩
    · obtain ⟨v', shown, position', stroke⟩ := valveSample_shows m record'
      obtain ⟨v'', shown', position'', stroke'⟩ := (SameShown.of_phases (settleAll_phases w₂)).keeps v' (vs₂ ▸ shown)
      refine ⟨v'', shown', position''.trans (position'.trans ?_), stroke'.trans (stroke.trans ?_)⟩ <;> rw [isM]
    · have gone : OldGone x.key v.tag w₂.vs := vs₂ ▸ valveSample_gone record' waits' (by rw [isM]; exact done)
      exact gone.settles
    · have ends := valveSample_commandEnds (t := settleAll w₂) record' waits' (m := m) (by rw [isM]; exact done)
        (by rw [← ie₂]; exact incidents) (by rw [← xc₂]; exact exercise) unmoved
      rw [isM] at ends
      refine commandEnds_congr ⟨?_, ?_, ?_⟩ ends <;> rw [noted, freed]

end Sys2Proof.Machine
end

section
/-! The bank switch (sections 2.2, 3.2, 4.2, 5.10 and 6.1): what it carries over by identity. -/

namespace Sys2Proof.Machine

open Sys2Proof

/-! ### Records made from a list of entries -/

section Records

variable {α κ ρ : Type} [DecidableEq κ] {k : κ}

/-- A record list made from entries holds, under a key, what the first entry of the key gives. -/
theorem assocGet_made (entries : List α) (key : α → κ) (record : α → ρ) (k : κ) :
    assocGet k (entries.map fun p => (key p, record p)) = (entries.find? fun p => decide (key p = k)).map record := by
  induction entries with
  | nil => rfl
  | cons p rest ih =>
    by_cases own : key p = k
    · rw [List.map_cons, assocGet, if_pos own, List.find?_cons_of_pos (by simpa using own), Option.map_some]
    · rw [List.map_cons, assocGet, if_neg own, List.find?_cons_of_neg (by simpa using own), ih]

/-- One made by key alone holds what the key gives. -/
theorem assocGet_made_of_key (entries : List α) (key : α → κ) (record : κ → ρ) (k : κ) :
    assocGet k (entries.map fun p => (key p, record (key p))) =
      (entries.find? fun p => decide (key p = k)).map fun _ => record k := by
  rw [assocGet_made entries key (fun p => record (key p)) k]
  cases found : entries.find? fun p => decide (key p = k) with
  | none => rfl
  | some p =>
    rw [Option.map_some, Option.map_some,
      show key p = k from of_decide_eq_true (List.find?_some (p := fun p => decide (key p = k)) found)]

theorem assocGet_of_mem {l : List (κ × ρ)} {p : κ × ρ} (distinct : (l.map (·.1)).Nodup) (inside : p ∈ l) :
    assocGet p.1 l = some p.2 := by
  induction l with
  | nil => cases inside
  | cons q l ih =>
    obtain ⟨fresh, rest⟩ := List.nodup_cons.mp distinct
    rcases List.mem_cons.mp inside with rfl | inside
    · exact if_pos rfl
    · have other : q.1 ≠ p.1 := fun same => fresh (List.mem_map.mpr ⟨p, inside, same.symm⟩)
      exact (if_neg other).trans (ih rest inside)

end Records

/-! ### What the switch leaves of notices and valves -/

/-- What a valve's record shows of the valve itself: its last position and stroke time, its fault and its mark. -/
def nature (r : ValveRec) : Option ValvePos × Option Nat × ValveFault × Bool := (r.position, r.lastStroke, r.fault, r.unreliable)

/-- From `v` to `w` the Valve Status records stand under the same keys and show the same valves. -/
structure SameNature (v w : ValveBlock) : Prop where
  keeps : ∀ k, (valveAt w k).map nature = (valveAt v k).map nature

section Natures

variable {v w x : ValveBlock} {s t : State}

theorem SameNature.refl : SameNature v v := ⟨fun _ => rfl⟩

theorem SameNature.trans (h : SameNature v w) (h' : SameNature w x) : SameNature v x := ⟨fun k => (h'.keeps k).trans (h.keeps k)⟩

theorem SameNature.after (h' : SameNature w x) (h : SameNature v w) : SameNature v x := h.trans h'

theorem SameNature.of_phases (h : PhasesMoved v w) : SameNature v w where
  keeps k := by
    obtain ⟨p, moved⟩ := h k
    rw [moved, Option.map_map]
    rfl

theorem SameNature.of_valves (h : w.valves = v.valves) : SameNature v w := .of_phases (.of_valves h)

theorem SameNature.set (j : NodeKey) (f : ValveRec → ValveRec) (v : ValveBlock) (h : ∀ r, nature (f r) = nature r) :
    SameNature v (setValve j f v) where
  keeps k := by
    by_cases same : k = j
    · subst same
      rw [valveAt_setValve, Option.map_map]
      exact congrArg (fun g => Option.map g (valveAt v k)) (funext h)
    · rw [valveAt_setValve_ne _ _ same]

theorem SameNature.issue (j : NodeKey) (t : ValveTarget) (v : ValveBlock) : SameNature v (issue j t v) := by
  unfold Machine.issue
  split
  · exact .refl
  · split
    · exact .refl
    · exact .after (.of_phases (placeCommand_phases _ _ _ _)) (.set _ _ _ fun _ => rfl)

end Natures

/-- From `s` to `t` the cooling notices stay, and every valve shows what it showed. -/
structure Adjusts (s t : State) : Prop where
  notices : t.ie.notices = s.ie.notices
  valves : SameNature s.vs t.vs

section Adjusting

variable {s t u : State}

theorem Adjusts.refl : Adjusts s s := ⟨rfl, .refl⟩

theorem Adjusts.trans (h : Adjusts s t) (h' : Adjusts t u) : Adjusts s u := ⟨h'.notices.trans h.notices, h.valves.trans h'.valves⟩

theorem Adjusts.after (h' : Adjusts t u) (h : Adjusts s t) : Adjusts s u := h.trans h'

theorem Adjusts.tests (h : Tests s t) : Adjusts s t where
  notices := by rw [h.frame]
  valves := by
    refine h.keeps (P := fun u => SameNature s.vs u.vs) ?_ .refl
    rintro u v act ih
    cases act with
    | book => exact ih
    | start i j limit judged =>
      exact ih.trans (.after (.issue ..) (.set j (fun r => { r with owner := .exercise }) u.vs fun _ => rfl))

theorem Adjusts.tell (entered : Option IncState) (s : State) : Adjusts s (tellExercise entered s) := .tests (tellExercise_tests entered s)

theorem Adjusts.own (id : Nat) (k : NodeKey) (t : ValveTarget) (s : State) : Adjusts s (ownAndIssue id k t s) :=
  ⟨rfl, .after (.issue ..) (.set _ _ _ fun _ => rfl)⟩

theorem Adjusts.request (id : Nat) (b : BranchId) (t : ValveTarget) (s : State) : Adjusts s (requestValve id b t s) := by
  unfold requestValve
  split
  · exact .refl
  · split
    · exact .own ..
    · exact .after (.own ..) (.tests (exercisePreempted_tests _ _))
    · split
      · exact .own ..
      · exact .refl

/-- The record of one incident moves, and no state does. -/
structure RecordMoved (s t : State) : Prop where
  frame : t = { s with ie := { s.ie with incidents := t.ie.incidents } }
  states : ∀ j ∈ t.ie.incidents, ∃ j' ∈ s.ie.incidents, j.state = j'.state

theorem RecordMoved.trans (h : RecordMoved s t) (h' : RecordMoved t u) : RecordMoved s u where
  frame := by
    have later := h'.frame
    rw [h.frame] at later
    exact later
  states j inside :=
    have ⟨j', inside', same⟩ := h'.states j inside
    have ⟨j'', inside'', same'⟩ := h.states j' inside'
    ⟨j'', inside'', same.trans same'⟩

theorem RecordMoved.record (id : Nat) (f : Incident → Incident) (s : State) (keeps : ∀ i, (f i).state = i.state) :
    RecordMoved s (modIncident id f s) where
  frame := rfl
  states j inside := by
    obtain ⟨i, was, rfl⟩ := List.mem_map.mp inside
    refine ⟨i, was, ?_⟩
    split
    · exact keeps i
    · rfl

theorem RecordMoved.change (id : Nat) (f : Incident → Incident) (s : State) (keeps : ∀ i, (f i).state = i.state) :
    RecordMoved s (changeIncident id f s) := .record id (fun i => touch s.rt.number (f i)) s keeps

/-- An incident adjusted to the bank: its rows, and a probing abandoned whose row is gone (R92). -/
theorem adjustIncident_eq {id : Nat} {i : Incident} (found : incidentById s id = some i) : ∃ w, RecordMoved s w ∧
    (adjustIncident s id = w ∨ i.state = .probing ∧ adjustIncident s id = abandonProbing i w) := by
  obtain ⟨w, isW⟩ : ∃ w, w = if (keptRows s i.rows).length < i.rows.length then
      changeIncident id (fun j => j) (modIncident id (fun j => { j with rows := keptRows s i.rows }) s)
      else modIncident id (fun j => { j with rows := keptRows s i.rows }) s := ⟨_, rfl⟩
  refine ⟨w, ?_, ?_⟩
  · rw [isW]
    split
    · refine RecordMoved.trans ?_ (.change _ (fun j => j) _ fun _ => rfl)
      exact .record _ _ _ fun _ => rfl
    · exact .record _ _ _ fun _ => rfl
  · unfold adjustIncident
    rw [found]
    dsimp only
    rw [← isW]
    split
    next k _ =>
      split
      next gone => exact .inr ⟨of_decide_eq_true (Bool.and_eq_true_iff.mp gone).1, rfl⟩
      · exact .inl rfl
    · exact .inl rfl

theorem Adjusts.record (h : RecordMoved s t) : Adjusts s t :=
  ⟨by rw [h.frame], by rw [h.frame]; exact .refl⟩

theorem Adjusts.abandon (i : Incident) (s : State) : Adjusts s (abandonProbing i s) := by
  unfold abandonProbing
  dsimp only
  refine .after (.tell ..) ?_
  split
  next p _ => exact (Adjusts.request i.id p .toOpen s).trans ⟨rfl, .refl⟩
  · exact ⟨rfl, .refl⟩

theorem Adjusts.incident (s : State) (id : Nat) : Adjusts s (adjustIncident s id) := by
  cases found : incidentById s id with
  | none =>
    unfold adjustIncident
    rw [found]
    exact .refl
  | some i =>
    obtain ⟨w, moved, same | ⟨-, same⟩⟩ := adjustIncident_eq found
    · rw [same]
      exact .record moved
    · rw [same]
      exact (Adjusts.record moved).trans (.abandon i w)

theorem Adjusts.incidents (s : State) : Adjusts s (adjustIncidents s) := by
  unfold adjustIncidents
  exact List.foldlRecOn (motive := fun t => Adjusts s t) _ _ .refl fun t ht id _ => ht.trans (.incident t id)

theorem setHeader_adjusts (f : HeaderDrive → HeaderDrive) (s : State) : Adjusts s (setHeader f s) := ⟨rfl, .of_valves rfl⟩

theorem Adjusts.policy (s : State) : Adjusts s (policyClose s) := by
  unfold policyClose
  split
  · exact .refl
  · exact setHeader_adjusts ..

theorem Adjusts.again (s : State) : Adjusts s (policyAgain s) := by
  unfold policyAgain
  split
  · exact .policy s
  · exact .refl

theorem Adjusts.escalated (o : Origin) (why : Reason) (s : State) : Adjusts s (openEscalated o why s) := by
  unfold openEscalated
  split
  next id w opened =>
    refine .after (.tell ..) ?_
    have open' : Adjusts s w := by
      rw [(openIncident_eq_some_iff.mp opened).2.2]
      exact ⟨rfl, .refl⟩
    unfold headerPolicy
    split
    · exact open'.trans (.policy w)
    · exact open'.trans ⟨rfl, .refl⟩
  · have noted : Adjusts s (overflowOn s) := by
      unfold overflowOn
      split <;> exact ⟨rfl, .refl⟩
    refine noted.trans ?_
    unfold overflowPolicy
    split
    · exact .policy _
    · exact ⟨rfl, .refl⟩

theorem Adjusts.flood (old : List (NodeKey × NodeRun)) (s : State) : Adjusts s (floodAtSwitch old s) := by
  unfold floodAtSwitch
  split
  · unfold floodMarksChanged
    dsimp only
    split
    · unfold floodEvent
      split
      · exact ⟨rfl, .refl⟩
      · exact .after (.escalated ..) ⟨rfl, .refl⟩
    · exact ⟨rfl, .refl⟩
  · exact ⟨rfl, .refl⟩

end Adjusting

end Sys2Proof.Machine
end

section
/-! What a bank switch leaves of the blocks (sections 2.2, 2.5, 3.2, 4.2, 5.10 and 6.1). -/

namespace Sys2Proof.Machine

open Sys2Proof

/-! ### With the exercise IDLE and no incident PROBING -/

section Still

variable {s t : State}

theorem adjustIncidents_still (calm : ∀ i ∈ s.ie.incidents, i.state ≠ .probing) :
    (adjustIncidents s).vs = s.vs ∧ (adjustIncidents s).xc = s.xc := by
  have moved : RecordMoved s (adjustIncidents s) := by
    unfold adjustIncidents
    refine List.foldlRecOn (motive := fun t => RecordMoved s t) _ _ ⟨rfl, fun j inside => ⟨j, inside, rfl⟩⟩ fun t ht id _ => ?_
    cases found : incidentById t id with
    | none =>
      unfold adjustIncident
      rw [found]
      exact ht
    | some i =>
      obtain ⟨w, record, same | ⟨probing, -⟩⟩ := adjustIncident_eq found
      · rw [same]
        exact ht.trans record
      · obtain ⟨j, inside, state⟩ := ht.states i (mem_of_incidentById found)
        exact absurd (state.symm.trans probing) (calm j inside)
  rw [moved.frame]
  exact ⟨rfl, rfl⟩

theorem policyClose_valves (s : State) : (policyClose s).vs.valves = s.vs.valves := by
  unfold policyClose
  split <;> rfl

theorem policyAgain_valves (s : State) : (policyAgain s).vs.valves = s.vs.valves := by
  unfold policyAgain
  split
  · exact policyClose_valves s
  · rfl

theorem openEscalated_valves (o : Origin) (why : Reason) (idle : s.xc.state = .idle) :
    (openEscalated o why s).vs.valves = s.vs.valves := by
  unfold openEscalated
  split
  next id w opened =>
    have same : w.vs = s.vs ∧ w.xc = s.xc := by
      rw [(openIncident_eq_some_iff.mp opened).2.2]
      exact ⟨rfl, rfl⟩
    have policed : (headerPolicy id w).vs.valves = s.vs.valves ∧ (headerPolicy id w).xc = s.xc := by
      unfold headerPolicy
      split
      · refine ⟨(policyClose_valves w).trans (by rw [same.1]), ?_⟩
        unfold policyClose
        split <;> exact same.2
      · exact ⟨by rw [← same.1]; rfl, same.2⟩
    rw [tellExercise_idle _ (by rw [policed.2]; exact idle)]
    exact policed.1
  · have noted : (overflowOn s).vs = s.vs := by
      unfold overflowOn
      split <;> rfl
    unfold overflowPolicy
    split
    · rw [policyClose_valves, noted]
    · exact congrArg ValveBlock.valves noted

theorem floodAtSwitch_valves (old : List (NodeKey × NodeRun)) (idle : s.xc.state = .idle) :
    (floodAtSwitch old s).vs.valves = s.vs.valves := by
  unfold floodAtSwitch
  split
  · unfold floodMarksChanged
    dsimp only
    split
    · unfold floodEvent
      split
      · rfl
      · exact openEscalated_valves _ _ (by exact idle)
    · rfl
  · rfl

theorem bankAdjusted_valves (idle : s.xc.state = .idle) (calm : ∀ i ∈ s.ie.incidents, i.state ≠ .probing) :
    (bankAdjusted s).vs.valves = (carryOver s).vs.valves := by
  obtain ⟨valves, exercise⟩ := adjustIncidents_still (s := carryOver s) calm
  have flooded : (floodAtSwitch s.nd.nodes (adjustIncidents (carryOver s))).vs.valves = (carryOver s).vs.valves := by
    rw [floodAtSwitch_valves _ (by rw [exercise]; exact idle), valves]
  unfold bankAdjusted
  dsimp only
  split
  · rw [policyAgain_valves, flooded]
  · exact flooded

end Still

/-! ### Absence, judged last -/

theorem judgeAbsence_frame (s : State) : judgeAbsence s =
    { s with vs := (judgeAbsence s).vs, ti := (judgeAbsence s).ti } ∧ (judgeAbsence s).vs.valves = s.vs.valves := by
  have policy (s : State) : policyAgain s = { s with vs := (policyAgain s).vs } := by
    unfold policyAgain policyClose
    split
    · split <;> rfl
    · rfl
  simp only [judgeAbsence]
  split
  · split
    · exact ⟨rfl, rfl⟩
    · unfold beginAbsence
      refine ⟨?_, policyAgain_valves _⟩
      rw [policy]
  · split <;> exact ⟨rfl, rfl⟩

/-! ### Valves whose deferred commands refill the queues -/

/-- From `v` to `w` the record of valve `k` moves its phase alone, to QUEUED from a deferral order. -/
structure Requeued (k : NodeKey) (v w : ValveBlock) : Prop where
  record : ∀ r, valveAt v k = some r → ∃ p, valveAt w k = some { r with phase := p } ∧
    (p = r.phase ∨ p = .queued ∧ ∃ l, k ∈ quadGet v.deferred l)
  order : ∀ l j, j ∈ quadGet w.deferred l → j ∈ quadGet v.deferred l

section Refilled

variable {k : NodeKey} {v w x : ValveBlock}

theorem Requeued.refl : Requeued k v v := ⟨fun r found => ⟨r.phase, found, .inl rfl⟩, fun _ _ h => h⟩

theorem Requeued.trans (h : Requeued k v w) (h' : Requeued k w x) : Requeued k v x where
  record r found := by
    obtain ⟨p, found', why⟩ := h.record r found
    obtain ⟨q, found'', why'⟩ := h'.record _ found'
    refine ⟨q, found'', ?_⟩
    rcases why' with same | ⟨queued, l, inside⟩
    · rw [same]
      exact why
    · exact .inr ⟨queued, l, h.order l k inside⟩
  order l j inside := h.order l j (h'.order l j inside)

theorem deferred_rest {l : Leg} {i : NodeKey} {rest : List NodeKey} (waiting : quadGet v.deferred l = i :: rest) (m : Leg) (j : NodeKey)
    (inside : j ∈ quadGet (quadSet v.deferred l rest) m) : j ∈ quadGet v.deferred m := by
  by_cases own : m = l
  · subst own
    rw [quadGet_quadSet] at inside
    rw [waiting]
    exact List.mem_cons_of_mem i inside
  · rw [quadGet_quadSet_ne _ _ own] at inside
    exact inside

theorem refillOnce_requeued (l : Leg) (v : ValveBlock) : Requeued k v (refillOnce l v) := by
  unfold refillOnce
  split
  · split
    · exact .refl
    next i rest waiting =>
      have dropped : Requeued k v { v with deferred := quadSet v.deferred l rest } :=
        ⟨fun r found => ⟨r.phase, found, .inl rfl⟩, fun m j => deferred_rest waiting m j⟩
      dsimp only
      split
      · split
        next t _ =>
          refine ⟨fun r found => ?_, fun m j => deferred_rest waiting m j⟩
          by_cases own : k = i
          · subst own
            refine ⟨.queued, ?_, .inr ⟨rfl, l, by rw [waiting]; exact List.mem_cons_self ..⟩⟩
            rw [valveAt_setValve]
            exact congrArg (Option.map _) found
          · refine ⟨r.phase, ?_, .inl rfl⟩
            rw [valveAt_setValve_ne _ _ own]
            exact found
        · exact dropped
      · exact dropped
  · exact .refl

theorem refill_requeued (l : Leg) (n : Nat) (v : ValveBlock) : Requeued k v (refill l n v) := by
  induction n generalizing v with
  | zero => exact .refl
  | succ n ih => exact (refillOnce_requeued l v).trans (ih _)

end Refilled

/-! ### What the switch leaves, block by block -/

section Blocks

variable {s : State}

theorem quadGet_filtered {α : Type} (f : List α → List α) (q : Quad (List α)) (l : Leg) :
    quadGet ⟨f q.l0, f q.l1, f q.l2, f q.l3⟩ l = f (quadGet q l) := by
  fin_cases l <;> rfl

/-- The Valve Status records carried over, before deferred commands refill the queues (R126). -/
def valvesKept (s : State) : ValveBlock :=
  let sift := fun (q : List ActionEntry) => q.filter fun e => isValve s.ts.staging e.key
  let siftKeys := fun (d : List NodeKey) => d.filter fun k => isValve s.ts.staging k
  { s.vs with
    valves := (s.ts.staging.nodes.filter fun p => decide (nodeKind p.2 = .valve)).map fun p =>
      (p.2.key, (valveAt s.vs p.2.key).getD freshValve)
    queues := ⟨sift s.vs.queues.l0, sift s.vs.queues.l1, sift s.vs.queues.l2, sift s.vs.queues.l3⟩
    deferred := ⟨siftKeys s.vs.deferred.l0, siftKeys s.vs.deferred.l1, siftKeys s.vs.deferred.l2, siftKeys s.vs.deferred.l3⟩ }

theorem carryOver_valves (s : State) : (carryOver s).vs = allLegs.foldl (fun v l => refill l 8 v) (valvesKept s) := by
  unfold carryOver
  dsimp only
  unfold carryValves valvesKept valveAt
  rfl

theorem valvesKept_requeued (k : NodeKey) (s : State) : Requeued k (valvesKept s) (carryOver s).vs := by
  rw [carryOver_valves]
  exact List.foldlRecOn (motive := fun v => Requeued k (valvesKept s) v) allLegs _ .refl
    fun v hv l _ => hv.trans (refill_requeued l 8 v)

theorem valvesKept_phases (s : State) : PhasesMoved (valvesKept s) (carryOver s).vs := by
  rw [carryOver_valves]
  exact List.foldlRecOn (motive := fun v => PhasesMoved (valvesKept s) v) allLegs _ .refl
    fun v hv l _ => .after (refill_phases l 8 v) hv

theorem valvesKept_deferred {l : Leg} {k : NodeKey} (inside : k ∈ quadGet (valvesKept s).deferred l) : k ∈ quadGet s.vs.deferred l := by
  have sifted := quadGet_filtered (fun d => d.filter fun k => isValve s.ts.staging k) s.vs.deferred l
  change k ∈ quadGet ⟨_, _, _, _⟩ l at inside
  rw [sifted] at inside
  exact (List.mem_filter.mp inside).1

theorem valvesKept_record (k : NodeKey) (s : State) : valveAt (valvesKept s) k =
    ((s.ts.staging.nodes.filter fun p => decide (nodeKind p.2 = .valve)).find? fun p => decide (p.2.key = k)).map
      fun _ => (valveAt s.vs k).getD freshValve :=
  assocGet_made_of_key _ (fun p : Nat × NodeRec => p.2.key) (fun k => (valveAt s.vs k).getD freshValve) k

/-- A valve has a record where a VALVE of the bank has its key. -/
theorem valvesKept_isSome (k : NodeKey) (s : State) : (valveAt (valvesKept s) k).isSome ↔
    ∃ p ∈ s.ts.staging.nodes, p.2.key = k ∧ nodeKind p.2 = .valve := by
  rw [valvesKept_record, Option.isSome_map, List.find?_isSome]
  constructor
  · rintro ⟨p, inside, own⟩
    obtain ⟨inside, kind⟩ := List.mem_filter.mp inside
    exact ⟨p, inside, of_decide_eq_true own, of_decide_eq_true kind⟩
  · rintro ⟨p, inside, own, kind⟩
    exact ⟨p, List.mem_filter.mpr ⟨inside, decide_eq_true kind⟩, decide_eq_true own⟩

theorem valvesKept_value {k : NodeKey} {r : ValveRec} (found : valveAt (valvesKept s) k = some r) :
    r = (valveAt s.vs k).getD freshValve := by
  rw [valvesKept_record] at found
  obtain ⟨-, -, same⟩ := Option.map_eq_some_iff.mp found
  exact same.symm

/-- A record kept by the identity of a branch, else begun. -/
theorem branchKept {ρ : Type} (bank : Bank) (old : List (BranchId × ρ)) (fresh : ρ) (x : BranchId) :
    assocGet x ((branchList bank).map fun p => (p.2, (assocGet p.2 old).getD fresh)) =
      (indexOf bank x).map fun _ => (assocGet x old).getD fresh := by
  rw [assocGet_made_of_key (branchList bank) (fun p => p.2) (fun x => (assocGet x old).getD fresh) x]
  unfold indexOf
  rw [Option.map_map]
  rfl

theorem branchKept_isSome {ρ : Type} (bank : Bank) (old : List (BranchId × ρ)) (fresh : ρ) (x : BranchId) :
    (assocGet x ((branchList bank).map fun p => (p.2, (assocGet p.2 old).getD fresh))).isSome ↔ (indexOf bank x).isSome := by
  rw [branchKept, Option.isSome_map]

theorem branchKept_value {ρ : Type} {bank : Bank} (old : List (BranchId × ρ)) (fresh : ρ) {x : BranchId} (named : (indexOf bank x).isSome) :
    assocGet x ((branchList bank).map fun p => (p.2, (assocGet p.2 old).getD fresh)) = some ((assocGet x old).getD fresh) := by
  obtain ⟨i, index⟩ := Option.isSome_iff_exists.mp named
  rw [branchKept, index, Option.map_some]

/-- A row's record is kept by its resolved key, else begun, and its blind flag set again (R70). -/
theorem rowKept (pos : Option Nat) (bank : Bank) (nodes : List (NodeKey × NodeRun)) (old : List (RowKey × RowRun)) (k : RowKey) :
    assocGet k (carryRows pos bank nodes old) = (rowByKey pos bank k).map fun _ =>
      { (assocGet k old).getD (freshRow (decide (k.unit = 0) && sensorBlind bank nodes k.node)) with
        blind := decide (k.unit = 0) && sensorBlind bank nodes k.node } := by
  unfold carryRows rowList
  rw [List.map_map]
  exact assocGet_made_of_key bank.rows (fun p => rowKey pos p.2) (fun k =>
    { (assocGet k old).getD (freshRow (decide (k.unit = 0) && sensorBlind bank nodes k.node)) with
      blind := decide (k.unit = 0) && sensorBlind bank nodes k.node }) k

theorem sensorBlind_eq_false (bank : Bank) (nodes : List (NodeKey × NodeRun)) (i : Nat) : sensorBlind bank nodes i = false ↔
    ∃ j n, keyAt bank i = some j ∧ assocGet j nodes = some n ∧ n.presence = .present := by
  unfold sensorBlind
  split
  next j key =>
    split
    next n found =>
      rw [decide_eq_false_iff_not, not_not]
      refine ⟨fun present => ⟨j, n, key, found, present⟩, fun ⟨j', n', key', found', present⟩ => ?_⟩
      cases key.symm.trans key'
      cases found.symm.trans found'
      exact present
    next missing =>
      refine ⟨nofun, fun ⟨j', n', key', found', _⟩ => ?_⟩
      cases key.symm.trans key'
      exact absurd (missing.symm.trans found') nofun
  next missing => exact ⟨nofun, fun ⟨j', n', key', _⟩ => absurd (missing.symm.trans key') nofun⟩

theorem nodeKept (pos : Option Nat) (outgoing bank : Bank) (old : List (NodeKey × NodeRun)) (k : NodeKey) :
    assocGet k (carryNodes pos outgoing bank old) = (nodeByKey bank k).map fun p => carriedNode pos outgoing old p.2 :=
  assocGet_made bank.nodes (fun p => p.2.key) (fun p => carriedNode pos outgoing old p.2) k

theorem carryNode_keeps (pos : Option Nat) (old new : NodeRec) (n : NodeRun) : (carryNode pos old new n).presence = n.presence ∧
    (carryNode pos old new n).misses = n.misses ∧ (carryNode pos old new n).last = n.last := by
  obtain ⟨m, isM, presence, misses, last⟩ : ∃ m : NodeRun, (if new.mirror = .off then { n with mirrorPending := false } else n) = m ∧
      m.presence = n.presence ∧ m.misses = n.misses ∧ m.last = n.last := by
    refine ⟨_, rfl, ?_⟩
    split <;> exact ⟨rfl, rfl, rfl⟩
  unfold carryNode
  rw [isM]
  dsimp only
  split
  · split <;> exact ⟨presence, misses, last⟩
  · exact ⟨presence, misses, last⟩

/-- FLOOD with no mark set or cleared (R36). -/
theorem floodAtSwitch_unmoved {old : List (NodeKey × NodeRun)} (before : (old.map (·.1)).Nodup) (after : (s.nd.nodes.map (·.1)).Nodup)
    (same : ∀ k, (assocGet k s.nd.nodes).any (·.floodMark) = (assocGet k old).any (·.floodMark)) :
    (floodAtSwitch old s).nd.flood.pending = s.nd.flood.pending ∧ (floodAtSwitch old s).nd.flood.active = s.nd.flood.active := by
  have marks (k : NodeKey) (l : List (NodeKey × NodeRun)) : floodMarkOf k l = (assocGet k l).any (·.floodMark) := by
    unfold floodMarkOf
    cases assocGet k l <;> rfl
  have unset {u w : List (NodeKey × NodeRun)} (distinct : (w.map (·.1)).Nodup)
      (same : ∀ k, (assocGet k w).any (·.floodMark) = (assocGet k u).any (·.floodMark)) : floodNewlySet u w = false := by
    refine List.any_eq_false.mpr fun p inside => ?_
    have own := same p.1
    rw [assocGet_of_mem distinct inside, Option.any_some, ← marks] at own
    rw [own]
    simp
  unfold floodAtSwitch
  rw [unset after same, unset before fun k => (same k).symm, if_neg (by decide)]
  dsimp only
  unfold floodMoved
  split <;> exact ⟨rfl, rfl⟩

end Blocks

end Sys2Proof.Machine
end

section
/-! The bank switch, whole (sections 2.2, 2.5, 3.2, 4.2, 5.10 and 6.1). -/

namespace Sys2Proof.Machine

open Sys2Proof

section Whole

variable {s : State}

theorem bankAdjusted_adjusts (s : State) : Adjusts (carryOver s) (bankAdjusted s) := by
  have flooded : Adjusts (carryOver s) (floodAtSwitch s.nd.nodes (adjustIncidents (carryOver s))) :=
    (Adjusts.incidents _).trans (.flood ..)
  unfold bankAdjusted
  dsimp only
  split
  · exact flooded.trans (.again _)
  · exact flooded

/-- FLOOD as the switch leaves it is as its one judgement leaves it. -/
theorem bankAdjusted_flood (s : State) :
    (bankAdjusted s).nd = (floodAtSwitch s.nd.nodes (adjustIncidents (carryOver s))).nd := by
  unfold bankAdjusted
  dsimp only
  split
  · unfold policyAgain policyClose
    split
    · split <;> rfl
    · rfl
  · rfl

/-- What a bank switch leaves, in terms of what it carries over. -/
structure SwitchLeaves (s t : State) : Prop where
  flows : t.fa.branches = carryFlows s.ts.staging s.fa.branches
  drips : t.de.branches = carryDrips s.ts.staging s.de.branches
  rows : t.de.rows = carryRows s.ti.position s.ts.staging t.nd.nodes s.de.rows
  notices : t.ie.notices = carryNotices s.ts.staging s.ie.notices
  nodes : t.nd.nodes = carryNodes s.ti.position s.ts.active s.ts.staging s.nd.nodes
  natures : SameNature (valvesKept s) t.vs
  still : s.xc.state = .idle → (∀ i ∈ s.ie.incidents, i.state ≠ .probing) → t.vs.valves = (carryOver s).vs.valves
  flood : t.nd.flood = (floodAtSwitch s.nd.nodes (adjustIncidents (carryOver s))).nd.flood

theorem installBank_leaves (s : State) : SwitchLeaves s (installBank s) := by
  have installed := bankAdjusted_installed s
  have adjusts := bankAdjusted_adjusts s
  obtain ⟨frame, valves⟩ := judgeAbsence_frame (bankAdjusted s)
  rw [← installBank_eq] at frame valves
  obtain ⟨t, isT⟩ : ∃ t, t = installBank s := ⟨_, rfl⟩
  rw [← isT] at frame valves ⊢
  have nd : t.nd = (bankAdjusted s).nd := by rw [frame]
  have nodes : t.nd.nodes = (carryOver s).nd.nodes := by rw [nd, installed.nodes]
  have de : t.de = (carryOver s).de := by
    have kept : t.de = (bankAdjusted s).de := by rw [frame]
    rw [kept, installed.frame]
  refine ⟨?_, by rw [de]; rfl, by rw [de, nodes]; rfl, ?_, nodes, ?_, fun idle calm => ?_, ?_⟩
  · have kept : t.fa = (bankAdjusted s).fa := by rw [frame]
    rw [kept, installed.frame]
    rfl
  · have kept : t.ie = (bankAdjusted s).ie := by rw [frame]
    rw [kept, adjusts.notices]
    rfl
  · exact (SameNature.of_phases (valvesKept_phases s)).trans (adjusts.valves.trans (.of_valves valves))
  · rw [valves, bankAdjusted_valves idle calm]
  · rw [nd, bankAdjusted_flood]

theorem SwitchLeaves.valve_isSome {t : State} (h : SwitchLeaves s t) (k : NodeKey) :
    (valveAt t.vs k).isSome ↔ ∃ p ∈ s.ts.staging.nodes, p.2.key = k ∧ nodeKind p.2 = .valve := by
  have same := congrArg Option.isSome (h.natures.keeps k)
  rw [Option.isSome_map, Option.isSome_map] at same
  rw [same]
  exact valvesKept_isSome k s

/-- A valve's record after the switch shows the valve as before. -/
theorem SwitchLeaves.valve_nature {t : State} (h : SwitchLeaves s t) {k : NodeKey} {v : ValveRec} (found : valveAt t.vs k = some v) :
    nature v = nature ((valveAt s.vs k).getD freshValve) := by
  have same := h.natures.keeps k
  rw [found, Option.map_some] at same
  obtain ⟨r, kept, alike⟩ := Option.map_eq_some_iff.mp same.symm
  rw [← alike, valvesKept_value kept]

/-- With the exercise IDLE and no incident PROBING it is the record carried over, but for a deferred command queued. -/
theorem SwitchLeaves.valve_still {t : State} (h : SwitchLeaves s t) {k : NodeKey} {v : ValveRec} (found : valveAt t.vs k = some v)
    (idle : s.xc.state = .idle) (calm : ∀ i ∈ s.ie.incidents, i.state ≠ .probing) :
    v = { (valveAt s.vs k).getD freshValve with phase := v.phase } ∧
      (v.phase = ((valveAt s.vs k).getD freshValve).phase ∨ v.phase = .queued ∧ ∃ l, k ∈ quadGet s.vs.deferred l) := by
  have carried : valveAt (carryOver s).vs k = some v := by
    unfold valveAt at found ⊢
    rw [← h.still idle calm]
    exact found
  obtain ⟨r, kept⟩ : ∃ r, valveAt (valvesKept s) k = some r := by
    obtain ⟨p, moved⟩ := valvesKept_phases s k
    rw [carried] at moved
    obtain ⟨r, kept, -⟩ := Option.map_eq_some_iff.mp moved.symm
    exact ⟨r, kept⟩
  obtain ⟨p, moved, why⟩ := (valvesKept_requeued k s).record r kept
  cases carried.symm.trans moved
  rw [← valvesKept_value kept]
  exact ⟨rfl, why.imp_right fun ⟨queued, l, inside⟩ => ⟨queued, l, valvesKept_deferred inside⟩⟩

/-- A row's record after the switch, and its blind flag. -/
theorem SwitchLeaves.row {t : State} (h : SwitchLeaves s t) {k : RowKey} (rowed : (rowByKey s.ti.position s.ts.staging k).isSome) :
    ∃ x, assocGet k t.de.rows = some x ∧
      { x with blind := false } = { (assocGet k s.de.rows).getD (freshRow false) with blind := false } ∧
      (x.blind = false ↔ k.unit ≠ 0 ∨ ∃ j n, keyAt s.ts.staging k.node = some j ∧ assocGet j t.nd.nodes = some n ∧
        n.presence = .present) := by
  obtain ⟨p, entry⟩ := Option.isSome_iff_exists.mp rowed
  refine ⟨_, by rw [h.rows, rowKept, entry, Option.map_some], ?_, ?_⟩
  · cases assocGet k s.de.rows <;> rfl
  · dsimp only
    rw [Bool.and_eq_false_iff, decide_eq_false_iff_not, sensorBlind_eq_false]

/-- A node's presence after the switch (R12, R26). -/
theorem SwitchLeaves.node {t : State} (h : SwitchLeaves s t) {k : NodeKey} {j : Nat} {new : NodeRec}
    (entry : nodeByKey s.ts.staging k = some (j, new)) : ∃ n, assocGet k t.nd.nodes = some n ∧
      match nodeByKey s.ts.active k, assocGet k s.nd.nodes with
      | some (_, old), some m =>
        if nodeKind old = nodeKind new then n.presence = m.presence ∧ n.misses = m.misses ∧ n.last = m.last
        else n.presence = .unseen ∧ n.misses = 0 ∧ n.last = none
      | _, _ => n.presence = .unseen ∧ n.misses = 0 ∧ n.last = none := by
  have own : new.key = k := of_decide_eq_true (List.find?_some (p := fun p : Nat × NodeRec => decide (p.2.key = k)) entry)
  refine ⟨_, by rw [h.nodes, nodeKept, entry, Option.map_some], ?_⟩
  unfold carriedNode
  dsimp only
  rw [own]
  cases nodeByKey s.ts.active k with
  | none => exact ⟨rfl, rfl, rfl⟩
  | some o =>
    cases assocGet k s.nd.nodes with
    | none => exact ⟨rfl, rfl, rfl⟩
    | some m =>
      dsimp only
      split
      · exact carryNode_keeps ..
      · exact ⟨rfl, rfl, rfl⟩

theorem adjustIncidents_directory (s : State) : (adjustIncidents s).nd = s.nd := by
  have acts : Engine false s (adjustIncidents s) := adjustIncidents_engine s
  rw [acts.frame_quietly]

/-- A flood mark neither set nor cleared raises nothing. -/
theorem SwitchLeaves.unflooded {t : State} (h : SwitchLeaves s t) (before : (s.nd.nodes.map (·.1)).Nodup)
    (after : (s.ts.staging.nodes.map (·.2.key)).Nodup)
    (same : ∀ k, (assocGet k t.nd.nodes).any (·.floodMark) = (assocGet k s.nd.nodes).any (·.floodMark)) :
    t.nd.flood.pending = s.nd.flood.pending ∧ t.nd.flood.active = s.nd.flood.active := by
  have directory : (adjustIncidents (carryOver s)).nd = (carryOver s).nd := adjustIncidents_directory _
  have nodes : (adjustIncidents (carryOver s)).nd.nodes = t.nd.nodes := by
    rw [directory, h.nodes]
    rfl
  have flood : (adjustIncidents (carryOver s)).nd.flood = s.nd.flood := by
    rw [directory]
    rfl
  have distinct : (t.nd.nodes.map (·.1)).Nodup := by
    rw [h.nodes]
    unfold carryNodes
    rw [List.map_map]
    exact after
  have unmoved := floodAtSwitch_unmoved (s := adjustIncidents (carryOver s)) before (by rw [nodes]; exact distinct)
    (by rw [nodes]; exact same)
  rw [h.flood, ← flood]
  exact unmoved

end Whole

/-- Settles O56. -/
theorem bankSwitchKeepsRuntimeByIdentity : Obligations.BankSwitchKeepsRuntimeByIdentity := by
  unfold Obligations.BankSwitchKeepsRuntimeByIdentity
  intro s t
  have h : SwitchLeaves s t := installBank_leaves s
  refine ⟨fun x => ?_, fun x => ?_, fun x => ?_, fun k => ?_, fun k rowed => h.row rowed, fun k => h.valve_isSome k,
    fun k v found => ?_, h.unflooded, fun x named => ⟨?_, ?_, ?_⟩, fun k => ?_, fun k j new entry => h.node entry⟩
  · rw [h.flows]
    exact branchKept_isSome ..
  · rw [h.drips]
    exact branchKept_isSome ..
  · rw [h.notices]
    exact branchKept_isSome ..
  · rw [h.rows, rowKept, Option.isSome_map]
  · have natures := h.valve_nature found
    obtain ⟨position, stroke, fault, mark⟩ : _ ∧ _ ∧ _ ∧ _ := by
      simpa only [nature, Prod.mk.injEq] using natures
    exact ⟨position, stroke, fault, mark, h.valve_still found⟩
  · rw [h.flows]
    exact branchKept_value _ _ named
  · rw [h.drips]
    exact branchKept_value _ _ named
  · rw [h.notices]
    exact branchKept_value _ _ named
  · rw [h.nodes, nodeKept, Option.isSome_map]

end Sys2Proof.Machine
end

section
/-! The legs over a round start (R5, R15, R16): sweeps are judged, and none begins. -/

namespace Sys2Proof.Machine

open Sys2Proof

/-! ### A boundary at which no sweep waits -/

/-- No sweep waits to begin on an engine that may start a request. -/
def NoSweepWaits (e : LegEngine) : Prop := legReady e = true → e.sweep = none → e.alertFlag = false

/-- From `e` to `e'` no sweep has begun, and none has come to wait. -/
structure Unswept (e e' : LegEngine) : Prop where
  count : e'.sweepCount = e.sweepCount
  ignored : e'.alertsIgnored = e.alertsIgnored
  stuck : e'.stuck = e.stuck
  waits : NoSweepWaits e → NoSweepWaits e'

theorem Unswept.refl {e : LegEngine} : Unswept e e := ⟨rfl, rfl, rfl, fun h => h⟩

theorem Unswept.trans {e e' e'' : LegEngine} (h : Unswept e e') (h' : Unswept e' e'') : Unswept e e'' :=
  ⟨h'.count.trans h.count, h'.ignored.trans h.ignored, h'.stuck.trans h.stuck, fun w => h'.waits (h.waits w)⟩

/-- From `s` to `t` no sweep has begun on any leg, and ALERT_STUCK stands. -/
structure NoneSwept (s t : State) : Prop where
  legs : ∀ m, Unswept (legAt s m) (legAt t m)
  stuck : t.le.stuck.active = s.le.stuck.active

section Boundaries

variable {s t u : State} {l : Leg}

theorem NoneSwept.refl : NoneSwept s s := ⟨fun _ => .refl, rfl⟩

theorem NoneSwept.trans (h : NoneSwept s t) (h' : NoneSwept t u) : NoneSwept s u :=
  ⟨fun m => (h.legs m).trans (h'.legs m), h'.stuck.trans h.stuck⟩

theorem NoneSwept.after (h' : NoneSwept t u) (h : NoneSwept s t) : NoneSwept s u := h.trans h'

theorem NoneSwept.of_legs (h : t.le = s.le) : NoneSwept s t := by
  refine ⟨fun m => ?_, by rw [h]⟩
  unfold legAt
  rw [h]
  exact .refl

theorem NoneSwept.set (l : Leg) (f : LegEngine → LegEngine) (s : State) (h : ∀ e, Unswept e (f e)) : NoneSwept s (setLeg l f s) := by
  refine ⟨fun m => ?_, rfl⟩
  by_cases own : m = l
  · subst own
    rw [legAt_setLeg]
    exact h _
  · rw [legAt_setLeg_ne _ _ own]
    exact .refl

/-- A leg that has begun a transaction may start no other request. -/
theorem NoneSwept.start (l : Leg) (p : Purpose) (k : NodeKey) (f : Frame) (s : State) : NoneSwept s (startTxn l p k f s) :=
  .set l _ s fun _ => ⟨rfl, rfl, rfl, fun _ ready => nomatch ready⟩

theorem NoneSwept.discovery (l : Leg) (s : State) : NoneSwept s (boundaryDiscovery l s) := by
  simp only [boundaryDiscovery]
  split
  · exact .after (.set _ _ _ fun _ => ⟨rfl, rfl, rfl, fun h => h⟩) (.start ..)
  · exact .refl

theorem NoneSwept.poll (l : Leg) (s : State) : NoneSwept s (boundaryPoll l s) := by
  simp only [boundaryPoll]
  split
  · exact .after (.set _ _ _ fun _ => ⟨rfl, rfl, rfl, fun h => h⟩) (.start ..)
  · exact .discovery ..

theorem NoneSwept.relay (l : Leg) (s : State) : NoneSwept s (boundaryRelay l s) := by
  unfold boundaryRelay
  split
  · split
    · split
      · exact .after (.poll ..) (.of_legs (by rw [placeDue_frame]))
      · exact .after (.start ..) (.of_legs rfl)
    · exact .poll ..
  · exact .poll ..

theorem NoneSwept.sweepPolled (polled : sweepPoll l s = some t) : NoneSwept s t := by
  unfold sweepPoll at polled
  split at polled
  next w sweeping =>
    split at polled
    · cases polled
      refine ⟨fun m => ?_, rfl⟩
      by_cases own : m = l
      · subst own
        rw [startTxn, legAt_setLeg, legAt_setLeg]
        exact ⟨rfl, rfl, rfl, fun _ ready => nomatch ready⟩
      · rw [startTxn, legAt_setLeg_ne _ _ own, legAt_setLeg_ne _ _ own]
        exact .refl
    · cases polled
  · cases polled

theorem NoneSwept.boundary (l : Leg) (waits : NoSweepWaits (legAt s l)) : NoneSwept s (boundary l s) := by
  unfold Machine.boundary
  split
  next ready =>
    unfold boundaryQueue
    split
    · exact .after (.start ..) (.of_legs rfl)
    · have unbegun : sweepBegun l s = s := if_neg fun h => by
        rw [waits ready (Option.isNone_iff_eq_none.mp h.1)] at h
        exact nomatch h.2
      simp only [boundarySweep]
      rw [unbegun]
      split
      next polled => exact .sweepPolled polled
      · exact .relay ..
  · exact .refl

/-- The end of a step begins no sweep where none waits. -/
theorem NoneSwept.settleAll (waits : ∀ l, NoSweepWaits (legAt s l)) : NoneSwept s (settleAll s) := by
  have through : NoneSwept s (boundaries s) :=
    List.foldlRecOn (motive := fun t : State => NoneSwept s t) allLegs _ .refl fun t ht l _ =>
      ht.trans (.boundary l ((ht.legs l).waits (waits l)))
  refine ⟨fun m => ?_, ?_⟩
  · rw [show legAt (Machine.settleAll s) m = legAt (boundaries s) m from settle_legs _ m]
    exact through.legs m
  · have same := congrArg (fun u : State => u.le.stuck.active) (quiet_settle (boundaries s))
    exact Eq.trans same through.stuck

end Boundaries

/-! ### The legs as a round start leaves them -/

section RoundStart

variable {s t : State}

theorem judgeSweepCounts_legs (s : State) (l : Leg) : legAt (judgeSweepCounts s) l = judgeSweepCount (legAt s l) := mapLegs_get ..

/-- ALERT_STUCK follows the stuck flags. -/
theorem judgeSweepCounts_stuck (s : State) :
    (judgeSweepCounts s).le.stuck.active = true ↔ ∃ l, (legAt (judgeSweepCounts s) l).stuck = true := by
  obtain ⟨c, isC⟩ : ∃ c : Condition, c = s.le.stuck := ⟨_, rfl⟩
  obtain ⟨q, isQ⟩ : ∃ q, q = mapLegs (fun _ e => judgeSweepCount e) s.le.legs := ⟨_, rfl⟩
  have follows : (judgeSweepCounts s).le.stuck = follow c (lowestStuck q) := by rw [isC, isQ]; rfl
  have legs (l : Leg) : legAt (judgeSweepCounts s) l = quadGet q l := by rw [isQ]; rfl
  have follow_active (now : Option Nat) : (follow c now).active = now.isSome := by
    unfold follow
    cases now with
    | none =>
      dsimp only
      split
      · rfl
      next inactive => exact Bool.eq_false_iff.mpr inactive
    | some d =>
      dsimp only
      split
      next same => exact same.1
      · rfl
  rw [follows, follow_active]
  unfold lowestStuck
  rw [Option.isSome_map, List.find?_isSome]
  exact ⟨fun ⟨l, _, stuck⟩ => ⟨l, by rw [legs]; exact stuck⟩, fun ⟨l, stuck⟩ => ⟨l, by fin_cases l <;> decide, by rw [← legs]; exact stuck⟩⟩

/-- A poll list built afresh begins no sweep. -/
theorem buildPollList_unswept (b : Bank) (l : Leg) (e : LegEngine) : Unswept e (buildPollList b l e) := ⟨rfl, rfl, rfl, fun h => h⟩

/-- At a leg at rest no sweep waits, nor does one when the leg's sweep count has been judged. -/
theorem noSweepWaits_judged {l : Leg} (rest : LegAtRest s l) : NoSweepWaits (judgeSweepCount (legAt s l)) := fun ready none =>
  (rest ready).2.2.1 none

end RoundStart

end Sys2Proof.Machine
end

section
/-! Flow Accounting at a round start (sections 3.2 and 3.5 to 3.7). -/

namespace Sys2Proof.Machine

open Sys2Proof

/-! ### Meters and HEADER_BACKFLOW (R59 to R61) -/

section Meters

theorem reverseRound_iff (m : MeterState) : reverseRound m = true ↔ m.countError = false ∧ meterDelta m < -4 := by
  unfold reverseRound
  rw [Bool.and_eq_true, decide_eq_true_iff, Bool.not_eq_true']
  exact And.comm

theorem judgeMeter_judged (k ms : Nat) (m : MeterState) : meterJudged k ms m (judgeMeter k ms m) := by
  unfold meterJudged judgeMeter headerFlow heldAt
  simp only [reverseRound_iff]
  cases m.countError with
  | true => simp
  | false => simp

theorem cleanRunAfter_eq (m m' : MeterState) (run : Nat) : cleanRunAfter m m' run =
    if (m.countError = false ∧ meterDelta m < -4) ∨ (m'.countError = false ∧ meterDelta m' < -4) then 0
    else if m.countError = true ∨ m'.countError = true then run else min 15 (run + 1) := by
  unfold cleanRunAfter heldAt
  simp only [Bool.or_eq_true, reverseRound_iff]

theorem backflowAfter_active (n supply ret clean : Nat) (c : Condition) : (backflowAfter n supply ret clean c).active =
    if c.active then decide (clean < n) else decide (n ≤ supply ∨ n ≤ ret) := by
  unfold backflowAfter
  split
  next active =>
    split
    next cleared => exact (decide_eq_false (Nat.not_lt.mpr cleared)).symm
    next dirty => exact active.trans (decide_eq_true (Nat.not_le.mp dirty)).symm
  next inactive =>
    split
    next s => exact (decide_eq_true (.inl s)).symm
    next s =>
      split
      next r => exact (decide_eq_true (.inr r)).symm
      next r => exact (Bool.eq_false_iff.mpr inactive).trans (decide_eq_false (not_or.mpr ⟨s, r⟩)).symm

theorem backflowAfter_detail {n supply ret clean : Nat} {c : Condition} (inactive : c.active = false)
    (raised : (backflowAfter n supply ret clean c).active = true) :
    (backflowAfter n supply ret clean c).detail = if n ≤ supply then 0 else 1 := by
  unfold backflowAfter at raised ⊢
  rw [if_neg (by rw [inactive]; nofun)] at raised ⊢
  split
  · rfl
  next s =>
    rw [if_neg s] at raised
    split
    · rfl
    next r =>
      rw [if_neg r, inactive] at raised
      cases raised

end Meters

/-! ### The header pair and the skew of the meters (R62 to R64) -/

section Header

variable {s : State}

/-- What the header pair of the ended round moves of Flow Accounting. -/
theorem headerPair_fa (ms : Nat) (s : State) : (headerPair ms s).fa =
    match s.fa.supplyMeter.flow, s.fa.returnMeter.flow with
    | some x, some y =>
      let c := settings s
      let p := integrate (excessOf (imbalance x y c.hdrOffset) c.hdrDeadband) (min 10000 ms) c.hdrForgive s.fa.hdrLoss s.fa.hdrRem
      { s.fa with hdrLoss := p.1, hdrRem := p.2, hdrUnmetered := false }
    | _, _ => { s.fa with hdrUnmetered := true } := by
  unfold headerPair
  cases s.fa.supplyMeter.flow with
  | none => rfl
  | some x =>
    cases s.fa.returnMeter.flow with
    | none => rfl
    | some y =>
      dsimp only
      rw [(headerPairEvent_engine (c := false) _ _).frame_quietly]

theorem headerPair_frame (ms : Nat) (s : State) : headerPair ms s = { s with
    fa := { s.fa with
      hdrLoss := (headerPair ms s).fa.hdrLoss, hdrRem := (headerPair ms s).fa.hdrRem, hdrUnmetered := (headerPair ms s).fa.hdrUnmetered }
    ie := (headerPair ms s).ie, vs := (headerPair ms s).vs, xc := (headerPair ms s).xc } := by
  unfold headerPair
  cases s.fa.supplyMeter.flow with
  | none => rfl
  | some x =>
    cases s.fa.returnMeter.flow with
    | none => rfl
    | some y =>
      dsimp only
      rw [(headerPairEvent_engine (c := false) _ _).frame_quietly]

theorem judgeSkew_frame (s : State) : judgeSkew s =
    { s with fa := { s.fa with skewCount := (judgeSkew s).fa.skewCount, meterSkew := (judgeSkew s).fa.meterSkew } } := by
  unfold judgeSkew
  split <;> rfl

/-- METER_SKEW after the skew check has set its count (R64). -/
def skewAfter (count : Nat) (c : Condition) : Condition :=
  if count = 3 ∧ ¬ c.active then { c with active := true, pending := true } else if count = 0 ∧ c.active then settleClear c else c

theorem skewAfter_shows (count : Nat) (c : Condition) : (skewAfter count c).detail = c.detail ∧
    (skewAfter count c).active = if count = 3 then true else if count = 0 then false else c.active := by
  unfold skewAfter
  split
  next raised => exact ⟨rfl, (if_pos raised.1).symm⟩
  next kept =>
    split
    next cleared => exact ⟨rfl, by rw [cleared.1]; rfl⟩
    next still =>
      refine ⟨rfl, ?_⟩
      split
      next full => exact not_not.mp fun inactive => kept ⟨full, inactive⟩
      · split
        next empty => exact Bool.eq_false_iff.mpr fun active => still ⟨empty, active⟩
        · rfl

/-- The skew check of a round that qualifies. -/
theorem judgeSkew_qualifies {total flow : Nat} (sum : skewSum s = some total) (metered : s.fa.supplyMeter.flow = some flow) :
    let diff := ((total : Int) - flow).natAbs
    let t := judgeSkew s
    t.fa.skewCount = (if (settings s).skewLimit < diff then min 3 (s.fa.skewCount + 1) else 0) ∧
      t.fa.meterSkew.detail = min 65535 diff ∧
      t.fa.meterSkew.active = if t.fa.skewCount = 3 then true else if t.fa.skewCount = 0 then false else s.fa.meterSkew.active := by
  intro diff t
  have ran : t.fa.skewCount = (if (settings s).skewLimit < diff then min 3 (s.fa.skewCount + 1) else 0) ∧
      t.fa.meterSkew = skewAfter t.fa.skewCount { s.fa.meterSkew with detail := min 65535 diff } := by
    change (judgeSkew s).fa.skewCount = _ ∧ (judgeSkew s).fa.meterSkew = skewAfter (judgeSkew s).fa.skewCount _
    unfold judgeSkew
    rw [sum, metered]
    exact ⟨rfl, rfl⟩
  obtain ⟨detail, active⟩ := skewAfter_shows t.fa.skewCount { s.fa.meterSkew with detail := min 65535 diff }
  rw [← ran.2] at detail active
  exact ⟨ran.1, detail, active⟩

/-- One that does not qualify leaves the count and METER_SKEW. -/
theorem judgeSkew_unqualified (h : skewSum s = none ∨ s.fa.supplyMeter.flow = none) : judgeSkew s = s := by
  unfold judgeSkew
  rcases h with h | h
  · rw [h]
  · rw [h]
    cases skewSum s <;> rfl

end Header

/-! ### Flow Accounting, whole -/

section Whole

variable {s : State}

/-- The readings of the ended round's supply sides, 65 535 for one not taken (R49, R64). -/
def supplyReadings (s : State) : List Nat := s.fa.branches.map fun p => endedValue p.2.supply

/-- What Flow Accounting's work at a round start leaves of its block. -/
structure FlowJudged (ms : Nat) (s t : State) : Prop where
  frame : t = { s with fa := t.fa, ie := t.ie, vs := t.vs, xc := t.xc }
  branches : t.fa.branches = assocAll closeBranch s.fa.branches
  interval : t.fa.prevInterval = some ms
  supply : t.fa.supplyMeter = judgeMeter (settings s).kSupply ms s.fa.supplyMeter
  ret : t.fa.returnMeter = judgeMeter (settings s).kReturn ms s.fa.returnMeter
  clean : t.fa.cleanRun = cleanRunAfter s.fa.supplyMeter s.fa.returnMeter s.fa.cleanRun
  backflow : t.fa.backflow = backflowAfter (settings s).backflowRounds t.fa.supplyMeter.reverseRun t.fa.returnMeter.reverseRun
    t.fa.cleanRun s.fa.backflow
  metered : ∀ x y, t.fa.supplyMeter.flow = some x → t.fa.returnMeter.flow = some y → t.fa.hdrUnmetered = false ∧
    (t.fa.hdrLoss, t.fa.hdrRem) = integrate (excessOf (imbalance x y (settings s).hdrOffset) (settings s).hdrDeadband)
      (min 10000 ms) (settings s).hdrForgive s.fa.hdrLoss s.fa.hdrRem
  unmetered : t.fa.supplyMeter.flow = none ∨ t.fa.returnMeter.flow = none →
    t.fa.hdrUnmetered = true ∧ t.fa.hdrLoss = s.fa.hdrLoss ∧ t.fa.hdrRem = s.fa.hdrRem
  skewed : ∀ x, t.fa.supplyMeter.flow = some x → ¬ (supplyReadings s = [] ∨ 65535 ∈ supplyReadings s) →
    let diff := (((supplyReadings s).sum : Int) - x).natAbs
    t.fa.skewCount = (if (settings s).skewLimit < diff then min 3 (s.fa.skewCount + 1) else 0) ∧
      t.fa.meterSkew.detail = min 65535 diff ∧
      t.fa.meterSkew.active = if t.fa.skewCount = 3 then true else if t.fa.skewCount = 0 then false else s.fa.meterSkew.active
  unskewed : t.fa.supplyMeter.flow = none ∨ supplyReadings s = [] ∨ 65535 ∈ supplyReadings s →
    t.fa.skewCount = s.fa.skewCount ∧ t.fa.meterSkew = s.fa.meterSkew

theorem flowRoundStart_judged (ms : Nat) (s : State) : FlowJudged ms s (flowRoundStart ms s) := by
  obtain ⟨m, isM⟩ : ∃ m, m = judgeMeters ms (closeFlowRound ms s) := ⟨_, rfl⟩
  obtain ⟨h, isH⟩ : ∃ h, h = headerPair ms m := ⟨_, rfl⟩
  obtain ⟨t, isT⟩ : ∃ t, t = judgeSkew h := ⟨_, rfl⟩
  have ran : flowRoundStart ms s = t := by rw [isT, isH, isM]; rfl
  rw [ran]
  have paired := headerPair_frame ms m
  have pairedFa := headerPair_fa ms m
  rw [← isH] at paired pairedFa
  have judged := judgeSkew_frame h
  rw [← isT] at judged
  have metersFrame : m = { s with fa := m.fa } := by rw [isM]; rfl
  have bank : settings m = settings s := by rw [metersFrame]; rfl
  have bank' : settings h = settings s := by rw [paired]; exact bank
  have supply : t.fa.supplyMeter = m.fa.supplyMeter := by rw [judged, paired]
  have ret : t.fa.returnMeter = m.fa.returnMeter := by rw [judged, paired]
  have supply' : h.fa.supplyMeter = m.fa.supplyMeter := by rw [paired]
  have loss : t.fa.hdrLoss = h.fa.hdrLoss := by rw [judged]
  have rem : t.fa.hdrRem = h.fa.hdrRem := by rw [judged]
  have mark : t.fa.hdrUnmetered = h.fa.hdrUnmetered := by rw [judged]
  have ended : (h.fa.branches.map fun p => p.2.endedSupply) = supplyReadings s := by
    have closed : h.fa.branches = assocAll closeBranch s.fa.branches := by rw [paired, isM]; rfl
    rw [closed]
    unfold assocAll supplyReadings
    rw [List.map_map]
    rfl
  have counted : h.fa.skewCount = s.fa.skewCount ∧ h.fa.meterSkew = s.fa.meterSkew := by
    rw [paired, isM]
    exact ⟨rfl, rfl⟩
  refine ⟨?_, ?_, ?_, ?_, ?_, ?_, ?_, fun x y metered metered' => ?_, fun missing => ?_, fun x metered qualifies => ?_,
    fun unqualified => ?_⟩
  · rw [judged, paired, metersFrame]
  · rw [judged, paired, isM]; rfl
  · rw [judged, paired, isM]; rfl
  · rw [supply, isM]; rfl
  · rw [ret, isM]; rfl
  · rw [judged, paired, isM]; rfl
  · rw [supply, ret, judged, paired, isM]; rfl
  · rw [supply] at metered
    rw [ret] at metered'
    rw [metered, metered'] at pairedFa
    rw [loss, rem, mark, pairedFa, bank, isM]
    exact ⟨rfl, rfl⟩
  · rw [supply, ret] at missing
    have open' : h.fa = { m.fa with hdrUnmetered := true } := by
      rw [pairedFa]
      rcases missing with missing | missing
      · rw [missing]
      · rw [missing]
        cases m.fa.supplyMeter.flow <;> rfl
    rw [loss, rem, mark, open', isM]
    exact ⟨rfl, rfl, rfl⟩
  · have sum : skewSum h = some (supplyReadings s).sum := by
      unfold skewSum
      dsimp only
      rw [ended, if_neg qualifies]
    have skews := judgeSkew_qualifies sum (flow := x) (by rw [supply', ← supply]; exact metered)
    rw [bank', counted.1, counted.2, ← isT] at skews
    exact skews
  · have none' : skewSum h = none ∨ h.fa.supplyMeter.flow = none := by
      rcases unqualified with missing | unqualified
      · exact .inr (by rw [supply', ← supply]; exact missing)
      · refine .inl ?_
        unfold skewSum
        dsimp only
        rw [ended, if_pos unqualified]
    rw [isT, judgeSkew_unqualified none']
    exact counted

end Whole

end Sys2Proof.Machine
end

section
/-! Drip Evidence at a round start (sections 4.3, 4.7 and 4.8), and what the round-end event leaves of it. -/

namespace Sys2Proof.Machine

open Sys2Proof

/-! ### What the round-end event moves of Drip Evidence -/

/-- A drip record without its score. -/
def unscored (d : BranchDrip) : BranchDrip := { d with score := 0 }

/-- From `s` to `t` Drip Evidence has moved by scores alone, and Flow Accounting not at all. -/
structure Scored (s t : State) : Prop where
  frame : t = { s with de := { s.de with branches := t.de.branches }, ie := t.ie, vs := t.vs, xc := t.xc }
  scores : ∀ b, (assocGet b t.de.branches).map unscored = (assocGet b s.de.branches).map unscored

section Scores

variable {s t u : State}

theorem Scored.trans (h : Scored s t) (h' : Scored t u) : Scored s u where
  frame := by
    have later := h'.frame
    rw [h.frame] at later
    exact later
  scores b := (h'.scores b).trans (h.scores b)

theorem Scored.engine (h : Engine false s t) : Scored s t := by
  have frame := h.frame_quietly
  refine ⟨by rw [frame], fun b => ?_⟩
  rw [show t.de = s.de by rw [frame]]

theorem Scored.refl : Scored s s := .engine .refl

theorem Scored.zero (b : BranchId) (s : State) : Scored s (zeroScore b s) := by
  refine ⟨rfl, fun x => ?_⟩
  change (assocGet x (assocMap b _ s.de.branches)).map unscored = _
  by_cases own : x = b
  · subst own
    rw [assocGet_assocMap, Option.map_map]
    rfl
  · rw [assocGet_assocMap_ne _ _ own]

theorem Scored.succeeds (i : Incident) (s : State) : Scored s (probeSucceeds i s) := by
  unfold probeSucceeds
  dsimp only
  refine Scored.trans (Scored.engine (changeIncident_engine i.id
    (fun j => zeroHeldRuns { endProbe j with state := .isolated, target := i.probeBranch }) s (fun _ => rfl) fun _ => List.length_map _)) ?_
  refine Scored.trans ?_ (.engine (Tests.engine (tellExercise_tests ..)))
  exact List.foldlRecOn (motive := fun t => Scored _ t) _ _ .refl fun t ht b _ => ht.trans (.zero b t)

theorem Scored.window (r : Half) (i : Incident) (s : State) : Scored s (probeWindow r i s) := by
  have settled (n : Nat) (s : State) : Scored s (modIncident i.id (fun j => { j with settle := n }) s) :=
    .engine (modIncident_engine _ _ _ (fun _ => rfl) fun _ => rfl)
  have counted (n : Nat) (s : State) : Scored s (modIncident i.id (fun j => { j with probeQuiet := n }) s) :=
    .engine (modIncident_engine _ _ _ (fun _ => rfl) fun _ => rfl)
  simp only [probeWindow]
  split
  · split
    · exact settled ..
    · split
      · split
        · exact settled ..
        · split
          · split
            · exact ((settled ..).trans (counted ..)).trans (.succeeds ..)
            · exact (settled ..).trans (counted ..)
          · exact (settled ..).trans (.engine (probeStep_engine ..))
          · exact settled ..
      · exact settled ..
  · exact .refl

theorem Scored.roundEnd (r : Half) (reports : List (RowKey × RowReport)) (s : State) : Scored s (roundEndEvent r reports s) := by
  have work (s : State) (id : Nat) : Scored s (roundEndWork r s id) := by
    unfold roundEndWork
    split
    · exact .refl
    next found =>
      split
      · exact .engine (watchWork_engine ..)
      · exact .window ..
      · exact .engine (isolationWatch_engine _ _ _ (mem_of_incidentById found))
      · exact .refl
  refine Scored.trans (.engine (.act (.copied s reports))) (Scored.trans ?_ (.engine (judgeOverflow_engine _)))
  exact List.foldlRecOn (motive := fun t => Scored _ t) _ _ .refl fun t ht id _ => ht.trans (work t id)

end Scores

/-! ### With no probe settling -/

/-- A probe of the incident has closed and is settling. -/
def Settling (i : Incident) : Prop := i.state = .probing ∧ i.probePhase = .settling

/-- A probe that settles in `t` settles in `s`. -/
structure NoneSettles (s t : State) : Prop where
  before : ∀ j ∈ t.ie.incidents, Settling j → ∃ i ∈ s.ie.incidents, Settling i ∧ i.id = j.id

section Settles

variable {s t u : State} {id : Nat}

theorem NoneSettles.of_incidents (h : t.ie.incidents = s.ie.incidents) : NoneSettles s t :=
  ⟨fun j inside settling => ⟨j, h ▸ inside, settling, rfl⟩⟩

theorem NoneSettles.refl : NoneSettles s s := .of_incidents rfl

theorem NoneSettles.trans (h : NoneSettles s t) (h' : NoneSettles t u) : NoneSettles s u where
  before j inside settling :=
    have ⟨i, inside', settling', same⟩ := h'.before j inside settling
    have ⟨i', inside'', settling'', same'⟩ := h.before i inside' settling'
    ⟨i', inside'', settling'', same'.trans same⟩

theorem NoneSettles.after (h' : NoneSettles t u) (h : NoneSettles s t) : NoneSettles s u := h.trans h'

theorem NoneSettles.tests (h : Tests s t) : NoneSettles s t := .of_incidents (by rw [h.frame])

theorem NoneSettles.tell (entered : Option IncState) (s : State) : NoneSettles s (tellExercise entered s) :=
  .tests (tellExercise_tests entered s)

theorem NoneSettles.record (id : Nat) (f : Incident → Incident) (s : State) (ids : ∀ i, (f i).id = i.id)
    (settles : ∀ i, Settling (f i) → Settling i) : NoneSettles s (modIncident id f s) where
  before j inside settling := by
    obtain ⟨i, was, rfl⟩ := List.mem_map.mp inside
    refine ⟨i, was, ?_⟩
    split at settling
    next own =>
      rw [if_pos own]
      exact ⟨settles i settling, (ids i).symm⟩
    next other =>
      rw [if_neg other]
      exact ⟨settling, rfl⟩

theorem NoneSettles.change (id : Nat) (f : Incident → Incident) (s : State) (ids : ∀ i, (f i).id = i.id)
    (settles : ∀ i, Settling (f i) → Settling i) : NoneSettles s (changeIncident id f s) :=
  .record id (fun i => touch s.rt.number (f i)) s ids settles

theorem NoneSettles.close (id : Nat) (b : BranchId) (s : State) : NoneSettles s (closeFor id b s) := by
  have asked : NoneSettles s (requestValve id b .toClose (setNotice b .lost s)) :=
    .of_incidents (by rw [requestValve_frame]; rfl)
  refine .after (.change _ _ _ (fun i => ?_) fun i => ?_) asked
  · split <;> rfl
  · split <;> exact fun h => h

theorem NoneSettles.reopen (id : Nat) (b : BranchId) (s : State) : NoneSettles s (reopenProbe id b s) :=
  .after (.record _ _ _ (fun _ => rfl) fun _ h => h) (.of_incidents (by rw [requestValve_frame]))

theorem NoneSettles.policy (id : Nat) (s : State) : NoneSettles s (headerPolicy id s) := by
  unfold headerPolicy
  split
  · unfold policyClose
    split <;> exact .of_incidents rfl
  · exact .change _ _ _ (fun _ => rfl) fun _ h => h

theorem NoneSettles.escalates (id : Nat) (why : Reason) (s : State) : NoneSettles s (escalate id why s) :=
  .after (.tell ..) (.after (.policy ..) (.change _ _ _ (fun _ => rfl) fun _ h => nomatch h.1))

/-- None of the incident's own records settles any more. -/
theorem escalate_own (why : Reason) : ∀ j ∈ (escalate id why s).ie.incidents, Settling j → j.id ≠ id := by
  have later : NoneSettles (changeIncident id (fun i => { i with state := .escalated, reason := some why, probePhase := .none }) s)
      (escalate id why s) := .after (.tell ..) (.policy ..)
  intro j inside settling own
  obtain ⟨i, inside', settling', same⟩ := later.before j inside settling
  obtain ⟨i', -, rfl⟩ := List.mem_map.mp inside'
  rw [own] at same
  by_cases mine : i'.id = id
  · rw [if_pos mine] at settling'
    exact nomatch settling'.1
  · rw [if_neg mine] at same
    exact mine same

theorem NoneSettles.frees (id : Nat) (into : Option Nat) (s : State) : NoneSettles s (freeIncident id false into s) := by
  unfold freeIncident
  split
  · exact .refl
  · dsimp only
    refine .after (.tell ..) ?_
    obtain ⟨o, q, judged⟩ := judgeOverflow_frame _
    rw [judged]
    refine ⟨fun j inside settling => ⟨j, ?_, settling, rfl⟩⟩
    exact (List.mem_filter.mp inside).1

theorem NoneSettles.steps (id : Nat) (failed : Option BranchId) (s : State) : NoneSettles s (probeStep id failed s) := by
  unfold probeStep
  split
  · exact .refl
  · dsimp only
    split
    · exact .escalates ..
    · split
      · exact .escalates ..
      · refine .after (.change _ _ _ (fun _ => rfl) fun _ h => nomatch h.2) (.after (.close ..) ?_)
        split
        · exact .reopen ..
        · exact .refl

/-- A probe step leaves none of the incident's own records settling. -/
theorem probeStep_own {i : Incident} (found : incidentById s id = some i) (failed : Option BranchId) :
    ∀ j ∈ (probeStep id failed s).ie.incidents, Settling j → j.id ≠ id := by
  unfold probeStep
  rw [found]
  dsimp only
  split
  · exact escalate_own _
  · split
    · exact escalate_own _
    · intro j inside settling own
      obtain ⟨i', -, rfl⟩ := List.mem_map.mp inside
      by_cases mine : i'.id = id
      · rw [if_pos mine] at settling
        exact nomatch settling.2
      · rw [if_neg mine] at own
        exact mine own

theorem NoneSettles.turns {i : Incident} (found : incidentById s id = some i) (k : RowKey) :
    NoneSettles s (turnToProbing id k s) := by
  obtain ⟨w, isW⟩ : ∃ w, w = changeIncident id (fun i => { i with state := .probing, probeRow := some k, probed := [] }) s := ⟨_, rfl⟩
  have told : incidentById (tellExercise (some .probing) w) id = incidentById w id := by
    rw [(tellExercise_tests (some .probing) w).frame]
    rfl
  have record := incidentById_changeIncident (f := fun i => { i with state := .probing, probeRow := some k, probed := [] }) found
    fun _ => rfl
  rw [← isW, ← told] at record
  have through : NoneSettles w (turnToProbing id k s) := by
    rw [isW]
    exact .after (.steps ..) (.tell ..)
  have own : ∀ j ∈ (turnToProbing id k s).ie.incidents, Settling j → j.id ≠ id := by
    unfold turnToProbing
    rw [← isW]
    exact probeStep_own record none
  refine ⟨fun j inside settling => ?_⟩
  obtain ⟨i', inside', settling', same⟩ := through.before j inside settling
  rw [isW] at inside'
  obtain ⟨i'', was, rfl⟩ := List.mem_map.mp inside'
  by_cases mine : i''.id = id
  · rw [if_pos mine] at same
    exact absurd (same.symm.trans mine) (own j inside settling)
  · rw [if_neg mine] at settling' same
    exact ⟨i'', was, settling', same⟩

theorem NoneSettles.watches (r : Half) (i : Incident) (s : State) : NoneSettles s (isolationWatch r i s) := by
  simp only [isolationWatch]
  split
  · split
    · exact .after (.escalates ..) (.record _ _ _ (fun _ => rfl) fun _ h => h)
    · exact .record _ _ _ (fun _ => rfl) fun _ h => h
  · exact .refl

/-- With no probe settling, an incident's work clears no score, and has no probe settle. -/
theorem roundEndWork_unsettled (r : Half) (calm : ∀ i ∈ s.ie.incidents, ¬ Settling i) :
    Engine false s (roundEndWork r s id) ∧ NoneSettles s (roundEndWork r s id) := by
  unfold roundEndWork
  split
  · exact ⟨.refl, .refl⟩
  next i found =>
    have inside := mem_of_incidentById found
    split
    next watching =>
      refine ⟨watchWork_engine .., ?_⟩
      unfold watchWork
      split
      · have named : i.id = id := id_of_incidentById found
        exact .turns (named ▸ found) _
      · split
        · exact .frees ..
        · exact .refl
    next probing =>
      have still : probeWindow r i s = s := if_neg fun h => calm i inside ⟨probing, h.1⟩
      rw [still]
      exact ⟨.refl, .refl⟩
    · exact ⟨isolationWatch_engine _ _ _ inside, .watches ..⟩
    · exact ⟨.refl, .refl⟩

/-- With no probe settling, the round-end event clears no evidence. -/
theorem roundEndEvent_unsettled (r : Half) (reports : List (RowKey × RowReport)) (calm : ∀ i ∈ s.ie.incidents, ¬ Settling i) :
    Engine false s (roundEndEvent r reports s) := by
  unfold roundEndEvent
  dsimp only
  refine .after (judgeOverflow_engine _) (.after ?_ (.act (.copied s reports)))
  refine (List.foldlRecOn (motive := fun t => Engine false _ t ∧ ∀ i ∈ t.ie.incidents, ¬ Settling i) _ _
    ⟨.refl, fun i inside settling => ?_⟩ fun t ht id _ => ?_).1
  · obtain ⟨i', was, rfl⟩ := List.mem_map.mp inside
    exact calm i' was settling
  · obtain ⟨engine, none⟩ := roundEndWork_unsettled (id := id) r ht.2
    refine ⟨ht.1.trans engine, fun i inside settling => ?_⟩
    obtain ⟨i', inside', settling', -⟩ := none.before i inside settling
    exact ht.2 i' inside' settling'

theorem NoneSettles.opens {o : Origin} {st : IncState} {f : Incident → Incident} (opened : openIncident o st f s = some (id, t))
    (unsettled : ∀ i, i.state = st → ¬ Settling (f i)) : NoneSettles s t := by
  rw [(openIncident_eq_some_iff.mp opened).2.2]
  refine ⟨fun j inside settling => ?_⟩
  rcases List.mem_append.mp inside with was | new
  · exact ⟨j, was, settling, rfl⟩
  · rw [List.mem_singleton.mp new] at settling
    exact absurd settling (unsettled _ rfl)

theorem NoneSettles.overflows (b : Option BranchId) (s : State) : NoneSettles s (overflowPolicy b (overflowOn s)) := by
  refine .of_incidents ?_
  have noted : (overflowOn s).ie.incidents = s.ie.incidents := by
    unfold overflowOn
    split <;> rfl
  unfold overflowPolicy policyClose
  split
  · split <;> exact noted
  · exact noted

theorem NoneSettles.headerPair (ms : Nat) (s : State) : NoneSettles s (headerPair ms s) := by
  have event (l : Nat) (s : State) : NoneSettles s (headerPairEvent l s) := by
    simp only [headerPairEvent]
    split
    · split
      · unfold openEscalated
        split
        next opened => exact .after (.tell ..) (.after (.policy ..) (.opens opened fun i state h => nomatch state.symm.trans h.1))
        · exact .overflows ..
      · split
        · split
          next opened => exact .after (.tell ..) (.opens opened fun i state h => nomatch state.symm.trans h.1)
          · exact .overflows ..
        · exact .refl
    · split
      · split
        · exact .escalates ..
        · split
          · exact .refl
          · exact .frees ..
      · exact .refl
  unfold Machine.headerPair
  split
  · exact .after (event ..) (.of_incidents rfl)
  · exact .of_incidents rfl

/-- Flow Accounting's work has no probe settle. -/
theorem flowRoundStart_unsettled (ms : Nat) (s : State) : NoneSettles s (flowRoundStart ms s) := by
  refine .after (t := Machine.headerPair ms (judgeMeters ms (closeFlowRound ms s))) (.of_incidents ?_)
    (.after (.headerPair ..) (.of_incidents rfl))
  change (judgeSkew _).ie.incidents = _
  rw [judgeSkew_frame]

end Settles

end Sys2Proof.Machine
end

section
/-! Rows, drip scores and UNMAPPED_DRIP after the ended round (sections 4.3, 4.7 and 4.8). -/

namespace Sys2Proof.Machine

open Sys2Proof

section Rows

variable {κ ρ σ : Type} [DecidableEq κ]

theorem assocGet_mapped (g : κ → ρ → σ) (k : κ) (l : List (κ × ρ)) :
    assocGet k (l.map fun p => (p.1, g p.1 p.2)) = (assocGet k l).map (g k) := by
  induction l with
  | nil => rfl
  | cons p l ih =>
    by_cases own : p.1 = k
    · rw [List.map_cons, assocGet, if_pos own, assocGet, if_pos own, Option.map_some, own]
    · rw [List.map_cons, assocGet, if_neg own, assocGet, if_neg own, ih]

/-- The tail after a round's judgement (R79). -/
theorem tailUp_eq (t : Tail) : tailUp t = match t with
    | .out => .out
    | .inside c => if c < 14 then .inside (c + 1) else .out := by
  cases t with
  | out => rfl
  | inside c =>
    unfold tailUp
    by_cases low : c < 14
    · exact (if_neg (by omega)).trans (if_pos low).symm
    · exact (if_pos (by omega)).trans (if_neg low).symm

/-- A local row's judgement (R81). -/
theorem judgeLocal_judged (n : Half) (x : RowRun) : rowJudged n true x (judgeLocal n x) := by
  unfold rowJudged judgeLocal heldAt
  by_cases active : n ∈ x.credited
  · simp [active]
  · by_cases evidence : n ∈ x.evidence
    · simp [active, evidence]
    · cases x.blind <;> simp [active, evidence]

/-- A remote row's judgement (R79, R82, R83). -/
theorem judgeRemote_judged (n : Half) (x : RowRun) : rowJudged n false x (judgeRemote n x) := by
  unfold rowJudged judgeRemote heldAt
  by_cases active : n ∈ x.credited
  · simp [active]
  · cases x.tail with
    | out =>
      by_cases evidence : n ∈ x.evidence
      · simp [active, evidence, tailUp]
      · cases x.stale <;> simp [active, evidence]
    | inside c =>
      have later := tailUp_eq (.inside c)
      by_cases evidence : n ∈ x.evidence
      · simp [active, evidence, later]
      · simp [active, evidence, later]

end Rows

/-! ### Drip Evidence's work at a round start -/

section Drips

variable {s t : State} {r : Half}

/-- What Drip Evidence's work at a round start leaves of its block, for the ended round `r`. -/
structure DripJudged (r : Half) (s t : State) : Prop where
  frame : t = { s with de := t.de, ie := t.ie, vs := t.vs, xc := t.xc }
  rows : ∀ k x, assocGet k s.de.rows = some x → ∃ y, assocGet k t.de.rows = some y ∧
    rowJudged r (decide (k.unit = 0)) x y ∧ y.credited = dropMark r x.credited ∧ y.evidence = dropMark r x.evidence
  unmapped : t.de.unmappedDrip = judgeUnmapped r s.de.unmapped s.de.unmappedDrip
  branches : ∀ b d, assocGet b s.de.branches = some d → ∃ d', assocGet b t.de.branches = some d' ∧
    d'.creditedLast = decide (r ∈ d.credited) ∧ d'.credited = dropMark r d.credited ∧
    ((∀ i ∈ s.ie.incidents, ¬ Settling i) → d'.score = if r ∈ d.credited then d.score else d.score - (settings s).fade)

theorem judgeRow_judged (r : Half) (k : RowKey) (x : RowRun) : rowJudged r (decide (k.unit = 0)) x (judgeRow r (k, x)).2 ∧
    (judgeRow r (k, x)).2.credited = x.credited ∧ (judgeRow r (k, x)).2.evidence = x.evidence := by
  unfold judgeRow
  dsimp only
  split
  next here =>
    rw [decide_eq_true here]
    refine ⟨judgeLocal_judged r x, ?_⟩
    unfold judgeLocal
    iterate 3 (split; · exact ⟨rfl, rfl⟩)
    exact ⟨rfl, rfl⟩
  next away =>
    rw [decide_eq_false away]
    refine ⟨judgeRemote_judged r x, ?_⟩
    unfold judgeRemote
    dsimp only
    iterate 4 (split; · exact ⟨rfl, rfl⟩)
    exact ⟨rfl, rfl⟩

theorem fadeBranch_eq (fade : Nat) (r : Half) (d : BranchDrip) : fadeBranch fade r d =
    { d with score := if r ∈ d.credited then d.score else d.score - fade, creditedLast := decide (r ∈ d.credited) } := by
  unfold fadeBranch
  split
  next credited => rw [decide_eq_true credited]
  next faded => rw [decide_eq_false faded]

theorem dripRoundStart_judged (r : Half) (s : State) : DripJudged r s (dripRoundStart r s) := by
  obtain ⟨w, isW⟩ : ∃ w : State, w = { s with de := judgeEvidence (settings s).fade r s.de } := ⟨_, rfl⟩
  obtain ⟨u, isU⟩ : ∃ u, u = roundEndEvent r (roundReports w) w := ⟨_, rfl⟩
  have ran : dripRoundStart r s = { u with de := dropRound r u.de } := by rw [isU, isW]; rfl
  have scored : Scored w u := isU ▸ Scored.roundEnd r (roundReports w) w
  have rows : u.de.rows = s.de.rows.map (judgeRow r) := by rw [scored.frame, isW]; rfl
  rw [ran]
  refine ⟨?_, fun k x found => ?_, ?_, fun b d found => ?_⟩
  · rw [scored.frame, isW]
  · have judged : assocGet k (s.de.rows.map (judgeRow r)) = some (judgeRow r (k, x)).2 := by
      have mapped := assocGet_mapped (fun k x => (judgeRow r (k, x)).2) k s.de.rows
      rw [found] at mapped
      exact mapped
    obtain ⟨shows, credited, evidence⟩ := judgeRow_judged r k x
    refine ⟨{ (judgeRow r (k, x)).2 with
      credited := dropMark r (judgeRow r (k, x)).2.credited, evidence := dropMark r (judgeRow r (k, x)).2.evidence }, ?_, shows, ?_, ?_⟩
    · unfold dropRound
      dsimp only
      rw [assocGet_assocAll, rows, judged]
      rfl
    · exact congrArg (dropMark r) credited
    · exact congrArg (dropMark r) evidence
  · change u.de.unmappedDrip = _
    rw [scored.frame, isW]
    rfl
  · have faded : assocGet b w.de.branches = some (fadeBranch (settings s).fade r d) := by
      rw [isW]
      change assocGet b (assocAll _ s.de.branches) = _
      rw [assocGet_assocAll, found]
      rfl
    have same := scored.scores b
    rw [faded] at same
    obtain ⟨d', found', alike⟩ := Option.map_eq_some_iff.mp same
    have last := congrArg BranchDrip.creditedLast alike
    have marks := congrArg BranchDrip.credited alike
    rw [fadeBranch_eq] at last marks
    refine ⟨{ d' with credited := dropMark r d'.credited }, ?_, last, congrArg (dropMark r) marks, fun calm => ?_⟩
    · unfold dropRound
      dsimp only
      rw [assocGet_assocAll, found']
      rfl
    · have engine : Engine false w u := isU ▸ roundEndEvent_unsettled r (roundReports w) (by rw [isW]; exact calm)
      have kept : u.de = w.de := by rw [engine.frame_quietly]
      rw [kept, faded] at found'
      cases found'
      rw [fadeBranch_eq]

theorem judgeUnmapped_shows (r : Half) (m : List (Half × Nat)) (c : Condition) : (judgeUnmapped r m c).active = (assocGet r m).isSome ∧
    ∀ n, assocGet r m = some n → (judgeUnmapped r m c).detail = n := by
  unfold judgeUnmapped follow
  cases assocGet r m with
  | none =>
    refine ⟨?_, nofun⟩
    dsimp only
    split
    · rfl
    next inactive => exact Bool.eq_false_iff.mpr inactive
  | some d =>
    dsimp only
    split
    next same => exact ⟨same.1, fun n found => same.2.trans (Option.some.inj found)⟩
    · exact ⟨rfl, fun n found => Option.some.inj found⟩

end Drips

end Sys2Proof.Machine
end

section
/-! A round start, and the ended round that it has judged (sections 1.5, 2.2, 3.2 to 3.7, 4.3, 4.7, 4.8 and 9.3). -/

namespace Sys2Proof.Machine

open Sys2Proof

/-! ### What a pending commit leaves of the judgement -/

section Switch

variable {s : State}

/-- A bank switch carries branches, rows and nodes over, and leaves the rest of their blocks, and the legs. -/
structure JudgementKept (s t : State) : Prop where
  flows : t.fa = { s.fa with branches := t.fa.branches }
  drips : t.de = { s.de with branches := t.de.branches, rows := t.de.rows }
  nodes : t.nd = { s.nd with nodes := t.nd.nodes, flood := t.nd.flood }
  legs : t.le = s.le

theorem installBank_kept (s : State) : JudgementKept s (installBank s) := by
  have installed := bankAdjusted_installed s
  have absent := (judgeAbsence_frame (bankAdjusted s)).1
  rw [← installBank_eq] at absent
  obtain ⟨t, isT⟩ : ∃ t, t = installBank s := ⟨_, rfl⟩
  rw [← isT] at absent ⊢
  have fa : t.fa = (carryOver s).fa := by
    have kept : t.fa = (bankAdjusted s).fa := by rw [absent]
    rw [kept, installed.frame]
  have de : t.de = (carryOver s).de := by
    have kept : t.de = (bankAdjusted s).de := by rw [absent]
    rw [kept, installed.frame]
  have nd : t.nd = { (carryOver s).nd with flood := t.nd.flood } := by
    have kept : t.nd = (bankAdjusted s).nd := by rw [absent]
    rw [kept]
    exact installed.nodes
  have le : t.le = (carryOver s).le := by
    have kept : t.le = (bankAdjusted s).le := by rw [absent]
    rw [kept, installed.frame]
  refine ⟨by rw [fa]; rfl, by rw [de]; rfl, ?_, by rw [le]; rfl⟩
  rw [nd]
  rfl

theorem switchIfPending_kept (s : State) : JudgementKept s (switchIfPending s) := by
  unfold switchIfPending
  split
  · unfold switchBank
    split
    · obtain ⟨flows, drips, nodes, legs⟩ := installBank_kept s
      exact ⟨flows, drips, nodes, legs⟩
    · exact ⟨rfl, rfl, rfl, rfl⟩
  · exact ⟨rfl, rfl, rfl, rfl⟩

theorem switchIfPending_none (h : s.ts.commitPending = false) : switchIfPending s = s := if_neg (by rw [h]; nofun)

end Switch

/-! ### The round start, block by block -/

section Start

variable {s : State}

theorem summaryStart_frame (s : State) : summaryStart s =
    { s with ti := { s.ti with summaryDue := s.ti.summaryDue || (settings s).summary } } := by
  unfold summaryStart
  cases summary : (settings s).summary with
  | true => rw [if_pos rfl, Bool.or_true]
  | false => rw [if_neg nofun, Bool.or_false]

theorem startRound_frame (s : State) : startRound s =
    { roundPrepared (switchIfPending (roundJudged s)) with
      rt := (startRound s).rt
      ti := { (roundPrepared (switchIfPending (roundJudged s))).ti with
        summaryDue := (switchIfPending (roundJudged s)).ti.summaryDue || (settings (switchIfPending (roundJudged s))).summary } } := by
  obtain ⟨w, isW⟩ : ∃ w, w = switchIfPending (roundJudged s) := ⟨_, rfl⟩
  have ran : startRound s = closeIfDone (summaryStart (roundPrepared w)) := by rw [isW]; rfl
  rw [ran, closeIfDone_frame, summaryStart_frame, ← isW]
  rfl

/-- Flow Accounting and Drip Evidence have judged the ended round. -/
structure BlocksJudged (ms : Nat) (s t : State) : Prop where
  flow : ∃ a u, FlowJudged ms a u ∧ a.fa = s.fa ∧ settings a = settings s ∧ t.fa = u.fa
  drip : ∃ u v, DripJudged s.rt.number u v ∧ u.de = s.de ∧ settings u = settings s ∧ t.de = v.de ∧
    ((∀ i ∈ s.ie.incidents, i.state ≠ .probing) → ∀ i ∈ u.ie.incidents, ¬ Settling i)
  nodes : t.nd = { s.nd with backEnded := s.nd.backNow, backNow := [] }
  legs : t.le = (judgeSweepCounts s).le
  trunk : t.ti = s.ti
  tables : t.ts = s.ts

theorem roundJudged_blocks {start : Nat} (started : s.rt.start = some start) : BlocksJudged (s.clock - start) s (roundJudged s) := by
  obtain ⟨a, isA⟩ : ∃ a, a = judgeSweepCounts (advanceRound s) := ⟨_, rfl⟩
  have frame : a = { s with rt := a.rt, le := (judgeSweepCounts s).le } := by rw [isA]; rfl
  have elapsed : endedElapsed a = s.clock - start := by
    rw [isA]
    change s.clock - s.rt.start.getD 0 = _
    rw [started]
    rfl
  have number : endedNumber a = s.rt.number := by rw [isA]; rfl
  obtain ⟨u, isU⟩ : ∃ u, u = flowRoundStart (s.clock - start) a := ⟨_, rfl⟩
  obtain ⟨t, isT⟩ : ∃ t, t = dripRoundStart s.rt.number u := ⟨_, rfl⟩
  have ran : roundJudged s = shiftBack t := by
    rw [isT, isU, ← number, ← elapsed, isA]
    rfl
  have flow := flowRoundStart_judged (s.clock - start) a
  rw [← isU] at flow
  have drip := dripRoundStart_judged s.rt.number u
  rw [← isT] at drip
  have still : NoneSettles a u := isU ▸ flowRoundStart_unsettled _ a
  have fa : t.fa = u.fa := by rw [drip.frame]
  have bank : settings u = settings s := by rw [flow.frame, frame]; rfl
  rw [ran]
  refine ⟨⟨a, u, flow, by rw [frame], by rw [frame]; rfl, fa⟩, ⟨u, t, drip, ?_, bank, rfl, fun calm i inside settling => ?_⟩,
    ?_, ?_, ?_, ?_⟩
  · rw [flow.frame, frame]
  · obtain ⟨i', inside', ⟨probing, -⟩, -⟩ := still.before i inside settling
    rw [frame] at inside'
    exact calm i' inside' probing
  · change { t.nd with backEnded := t.nd.backNow, backNow := [] } = _
    rw [drip.frame, flow.frame, frame]
  · change t.le = _
    rw [drip.frame, flow.frame, frame]
  · change t.ti = _
    rw [drip.frame, flow.frame, frame]
  · change t.ts = _
    rw [drip.frame, flow.frame, frame]

end Start

end Sys2Proof.Machine
end

section
/-! The judgement of the ended round, as the step that starts the next one leaves it (sections 1.5, 2.2, 3.2 to 3.7, 4.3, 4.7,
4.8 and 9.3). -/

namespace Sys2Proof.Machine

open Sys2Proof

/-! ### Conditions as they show, their report pending flags aside -/

section Shown

/-- Flow Accounting without the report pending flags of its conditions. -/
def unpendFlow (f : FlowBlock) : FlowBlock := { f with backflow := unpend f.backflow, meterSkew := unpend f.meterSkew }

theorem settleAll_flows (s : State) : unpendFlow (settleAll s).fa = unpendFlow s.fa := by
  have same := congrArg (fun u : State => u.fa) (quiet_settleAll s)
  exact same

theorem settleAll_drips (s : State) : { (settleAll s).de with unmappedDrip := unpend (settleAll s).de.unmappedDrip } =
    { s.de with unmappedDrip := unpend s.de.unmappedDrip } := by
  have same := congrArg (fun u : State => u.de) (quiet_settleAll s)
  exact same

/-- From `v` to `w` Flow Accounting shows the same of all but its branches. -/
structure SameFlows (v w : FlowBlock) : Prop where
  interval : w.prevInterval = v.prevInterval
  supply : w.supplyMeter = v.supplyMeter
  ret : w.returnMeter = v.returnMeter
  clean : w.cleanRun = v.cleanRun
  backflow : w.backflow.active = v.backflow.active ∧ w.backflow.detail = v.backflow.detail
  loss : w.hdrLoss = v.hdrLoss
  rem : w.hdrRem = v.hdrRem
  mark : w.hdrUnmetered = v.hdrUnmetered
  count : w.skewCount = v.skewCount
  skew : w.meterSkew.active = v.meterSkew.active ∧ w.meterSkew.detail = v.meterSkew.detail

theorem SameFlows.of_unpended {v w : FlowBlock} (h : unpendFlow w = unpendFlow v) : SameFlows v w where
  interval := (congrArg FlowBlock.prevInterval h :)
  supply := (congrArg FlowBlock.supplyMeter h :)
  ret := (congrArg FlowBlock.returnMeter h :)
  clean := (congrArg FlowBlock.cleanRun h :)
  backflow := ⟨congrArg (fun f => f.backflow.active) h, congrArg (fun f => f.backflow.detail) h⟩
  loss := (congrArg FlowBlock.hdrLoss h :)
  rem := (congrArg FlowBlock.hdrRem h :)
  mark := (congrArg FlowBlock.hdrUnmetered h :)
  count := (congrArg FlowBlock.skewCount h :)
  skew := ⟨congrArg (fun f => f.meterSkew.active) h, congrArg (fun f => f.meterSkew.detail) h⟩

theorem SameFlows.trans {v w x : FlowBlock} (h : SameFlows v w) (h' : SameFlows w x) : SameFlows v x where
  interval := h'.interval.trans h.interval
  supply := h'.supply.trans h.supply
  ret := h'.ret.trans h.ret
  clean := h'.clean.trans h.clean
  backflow := ⟨h'.backflow.1.trans h.backflow.1, h'.backflow.2.trans h.backflow.2⟩
  loss := h'.loss.trans h.loss
  rem := h'.rem.trans h.rem
  mark := h'.mark.trans h.mark
  count := h'.count.trans h.count
  skew := ⟨h'.skew.1.trans h.skew.1, h'.skew.2.trans h.skew.2⟩

theorem SameFlows.of_branches {v w : FlowBlock} (h : w = { v with branches := w.branches }) : SameFlows v w := by
  rw [h]
  exact ⟨rfl, rfl, rfl, rfl, ⟨rfl, rfl⟩, rfl, rfl, rfl, rfl, rfl, rfl⟩

end Shown

/-! ### The state after the row -/

section Row

variable {s : State}

/-- What the start of a round, and the end of its step, leave of the judgement of the ended one. -/
structure EndJudged (s t : State) : Prop where
  flows : SameFlows (roundJudged s).fa t.fa
  drips : { t.de with unmappedDrip := unpend t.de.unmappedDrip } = { (switchIfPending (roundJudged s)).de with
    unmappedDrip := unpend (switchIfPending (roundJudged s)).de.unmappedDrip }
  unmapped : t.de.unmappedDrip.active = (roundJudged s).de.unmappedDrip.active ∧
    t.de.unmappedDrip.detail = (roundJudged s).de.unmappedDrip.detail
  branches : s.ts.commitPending = false → t.fa.branches = (roundJudged s).fa.branches ∧
    t.de.branches = (roundJudged s).de.branches ∧ t.de.rows = (roundJudged s).de.rows
  back : t.nd.backEnded = (roundJudged s).nd.backEnded ∧ t.nd.backNow = (roundJudged s).nd.backNow
  summary : s.ti.upperTx.isSome → s.ts.commitPending = false → t.ti.summaryDue = (s.ti.summaryDue || (settings s).summary)
  clock : t.clock = s.clock

theorem settleAll_trunk (w : State) (busy : w.ti.upperTx.isSome) : (settleAll w).ti.summaryDue = w.ti.summaryDue := by
  have lower (u : State) : (grantLower u).ti.summaryDue = u.ti.summaryDue := by
    obtain ⟨_, _, _, _, _, moved, -⟩ := grantLower_moved u
    rw [moved]
  change (grantLower (grantUpper (boundaries w))).ti.summaryDue = _
  rw [grantUpper_of_not_ready (upperReady_of_busy busy), lower, boundaries_frame]

theorem settleAll_startRound_judged (s : State) {start : Nat} (started : s.rt.start = some start) :
    EndJudged s (settleAll (startRound s)) := by
  obtain ⟨k, isK⟩ : ∃ k, k = switchIfPending (roundJudged s) := ⟨_, rfl⟩
  obtain ⟨w, isW⟩ : ∃ w, w = startRound s := ⟨_, rfl⟩
  have judged := roundJudged_blocks started
  have kept : JudgementKept (roundJudged s) k := isK ▸ switchIfPending_kept _
  have frame := startRound_frame s
  rw [← isW, ← isK] at frame
  have fa : w.fa = k.fa := by rw [frame]; rfl
  have de : w.de = k.de := by rw [frame]; rfl
  have nd : w.nd = k.nd := by rw [frame]; rfl
  have drips := settleAll_drips w
  rw [de] at drips
  have flows := settleAll_flows w
  rw [fa] at flows
  rw [← isW]
  have stays (quiet : s.ts.commitPending = false) : k = roundJudged s :=
    isK ▸ switchIfPending_none (by rw [judged.tables]; exact quiet)
  have mark : k.de.unmappedDrip = (roundJudged s).de.unmappedDrip := by rw [kept.drips]
  have directory := quiet_settleAll w
  have ended := congrArg (fun u : State => u.nd.backEnded) directory
  have now := congrArg (fun u : State => u.nd.backNow) directory
  refine ⟨(SameFlows.of_branches kept.flows).trans (.of_unpended flows), isK ▸ drips, ?_, fun quiet => ?_, ⟨?_, ?_⟩,
    fun busy quiet => ?_, ?_⟩
  · have active := congrArg (fun d : DripBlock => d.unmappedDrip.active) drips
    have detail := congrArg (fun d : DripBlock => d.unmappedDrip.detail) drips
    rw [← mark]
    exact ⟨active, detail⟩
  · have lists := congrArg FlowBlock.branches flows
    have scores := congrArg DripBlock.branches drips
    have rows := congrArg DripBlock.rows drips
    rw [← stays quiet]
    exact ⟨lists, scores, rows⟩
  · refine Eq.trans ended ?_
    change w.nd.backEnded = _
    rw [nd, kept.nodes]
  · refine Eq.trans now ?_
    change w.nd.backNow = _
    rw [nd, kept.nodes]
  · have trunk : k.ti = s.ti := by rw [stays quiet, judged.trunk]
    have due : w.ti.summaryDue = (k.ti.summaryDue || (settings k).summary) := by rw [frame]
    have bank : settings k = settings s := by
      unfold settings
      rw [stays quiet, judged.tables]
    rw [settleAll_trunk w (by rw [frame]; change k.ti.upperTx.isSome; rw [trunk]; exact busy), due, trunk, bank]
  · rw [settleAll_clock, isW]
    exact (startRound_begun s).moment.clock

end Row

end Sys2Proof.Machine
end

section
/-! The ended round, judged (sections 1.5, 2.2, 3.2 to 3.7, 4.3, 4.7, 4.8 and 9.3). -/

namespace Sys2Proof.Machine

open Sys2Proof

section Legs

variable {s : State}

/-- The legs as the start of a round, and the end of its step, leave them. -/
theorem startRound_legs (rest : LegsAtRest s) {start : Nat} (started : s.rt.start = some start) :
    (∀ l, (legAt (settleAll (startRound s)) l).sweepCount = 0 ∧ (legAt (settleAll (startRound s)) l).alertsIgnored = false ∧
      (legAt (settleAll (startRound s)) l).stuck = ((legAt s l).stuck && decide (4 < (legAt s l).sweepCount))) ∧
      ((settleAll (startRound s)).le.stuck.active = true ↔ ∃ l, (legAt (settleAll (startRound s)) l).stuck = true) := by
  have judged := roundJudged_blocks started
  have kept := switchIfPending_kept (roundJudged s)
  obtain ⟨w, isW⟩ : ∃ w, w = startRound s := ⟨_, rfl⟩
  have legs := (startRound_prepared s).legs
  rw [← isW] at legs ⊢
  have engine (l : Leg) : legAt w l =
      buildPollList (switchIfPending (roundJudged s)).ts.active l (judgeSweepCount (legAt s l)) := by
    have same : legAt w l = legAt (roundPrepared (switchIfPending (roundJudged s))) l := by
      unfold legAt
      rw [legs]
    have before : legAt (switchIfPending (roundJudged s)) l = legAt (judgeSweepCounts s) l := by
      unfold legAt
      rw [kept.legs, judged.legs]
    rw [same, legAt_roundPrepared, before, judgeSweepCounts_legs]
  have swept : NoneSwept w (settleAll w) := .settleAll fun l => by
    rw [engine]
    exact (buildPollList_unswept ..).waits (noSweepWaits_judged (rest l))
  have stuck : w.le.stuck = (judgeSweepCounts s).le.stuck := by
    rw [legs, ← judged.legs, ← kept.legs]
    rfl
  have flags (l : Leg) : (legAt (settleAll w) l).stuck = (legAt (judgeSweepCounts s) l).stuck := by
    rw [(swept.legs l).stuck, engine, judgeSweepCounts_legs]
    rfl
  refine ⟨fun l => ⟨?_, ?_, ?_⟩, ?_⟩
  · rw [(swept.legs l).count, engine]
    rfl
  · rw [(swept.legs l).ignored, engine]
    rfl
  · rw [flags, judgeSweepCounts_legs]
    rfl
  · rw [swept.stuck, stuck, judgeSweepCounts_stuck]
    simp only [flags]

end Legs

theorem closeBranch_eq (f : BranchFlow) : closeBranch f =
    { f with
      endedSupply := (match f.supply with | .reading x => x | _ => 65535)
      endedReturn := (match f.ret with | .reading x => x | _ => 65535)
      unmetered := !f.paired, pairedLast := f.paired, paired := false, supply := .notTaken, ret := .notTaken } := by
  unfold closeBranch
  cases f.supply <;> cases f.ret <;> rfl

/-- The readings as the skew check's obligation lists them, as integers. -/
theorem supplyReadings_eq (s : State) :
    (s.fa.branches.map fun p => match p.2.supply with | .reading x => (x : Int) | _ => 65535) =
      (supplyReadings s).map (Nat.cast : Nat → Int) := by
  unfold supplyReadings
  rw [List.map_map]
  refine List.map_congr_left fun p _ => ?_
  rw [Function.comp_apply]
  cases p.2.supply <;> rfl

/-- They qualify as the readings themselves do, and have their sum. -/
theorem integers_of_readings {l : List Nat} {readings : List Int} (h : readings = l.map (Nat.cast : Nat → Int)) :
    (readings = [] ∨ 65535 ∈ readings ↔ l = [] ∨ 65535 ∈ l) ∧ readings.sum = (l.sum : Int) := by
  refine ⟨?_, by rw [h, Nat.cast_list_sum]⟩
  rw [h, List.map_eq_nil_iff]
  refine or_congr_right ⟨fun inside => ?_, fun inside => List.mem_map.mpr ⟨65535, inside, rfl⟩⟩
  obtain ⟨n, inside, same⟩ := List.mem_map.mp inside
  rw [show n = 65535 by omega] at inside
  exact inside

/-- Settles O60. -/
theorem theEndedRoundIsJudged : Obligations.TheEndedRoundIsJudged := by
  unfold Obligations.TheEndedRoundIsJudged
  intro s start running finished started rest
  obtain ⟨z, isZ⟩ : ∃ z, z = reachTime (tickTime s) s := ⟨_, rfl⟩
  have frame : z = { s with clock := z.clock, ti := z.ti } := by rw [isZ]; rfl
  have began : z.rt.start = some start := by rw [frame]; exact started
  have resting : LegsAtRest z := fun l => legAtRest_congr s z l (by rw [frame]; rfl) (by rw [frame]) (fun k f h => by
    rw [isZ] at h; exact h) (by rw [frame]) (rest l)
  have ran : exec .roundStart s = .next (settleAll (startRound z)) := by
    change Host.Outcome.next (settleAll (nextRound s)) = _
    unfold nextRound
    rw [if_pos ⟨running, allFinished_iff.mpr finished⟩, isZ]
  obtain ⟨t, isT⟩ : ∃ t, t = settleAll (startRound z) := ⟨_, rfl⟩
  have ended := settleAll_startRound_judged z began
  obtain ⟨legs, stuck⟩ := startRound_legs resting began
  rw [← isT] at ran ended legs stuck
  have judged := roundJudged_blocks began
  obtain ⟨a, u, flow, fa, bank, flows⟩ := judged.flow
  obtain ⟨p, v, drip, de, bank', drips, calm⟩ := judged.drip
  have shown : SameFlows u.fa t.fa := flows ▸ ended.flows
  have flow₀ : a.fa = s.fa := fa.trans (by rw [frame])
  have drip₀ : p.de = s.de := de.trans (by rw [frame])
  have settings₀ : settings z = settings s := by rw [frame]; rfl
  have bank₀ : settings a = settings s := bank.trans settings₀
  have bank₁ : settings p = settings s := bank'.trans settings₀
  have round : z.rt.number = s.rt.number := by rw [frame]
  have elapsed : z.clock - start = t.clock - start := by rw [ended.clock]
  rw [elapsed] at flow
  rw [round] at drip
  refine ⟨t, ran, ?_⟩
  intro c ms mS mR reverse
  have cIs : settings a = c := bank₀
  refine ⟨fun l => ?_, stuck, ?_, ?_, fun busy quiet => ?_, shown.interval.trans flow.interval, ?_, ?_, ?_, ?_, ?_, ?_, ?_, ?_,
    fun quiet => ⟨fun b f found => ?_, fun b d found => ?_, fun k x found => ?_⟩⟩
  · have own := legs l
    rw [show legAt z l = legAt s l by rw [frame]; rfl] at own
    exact own
  · rw [ended.back.1, judged.nodes, frame]
  · rw [ended.back.2, judged.nodes]
  · have due := ended.summary (by rw [isZ]; exact busy) (by rw [frame]; exact quiet)
    rw [settings₀, show z.ti.summaryDue = s.ti.summaryDue by rw [isZ]; rfl] at due
    exact due
  · rw [shown.supply, flow.supply, cIs, flow₀]
    exact judgeMeter_judged ..
  · rw [shown.ret, flow.ret, cIs, flow₀]
    exact judgeMeter_judged ..
  · rw [shown.clean, flow.clean, flow₀]
    exact cleanRunAfter_eq ..
  · have active := backflowAfter_active (settings a).backflowRounds u.fa.supplyMeter.reverseRun u.fa.returnMeter.reverseRun
      u.fa.cleanRun a.fa.backflow
    rw [← flow.backflow, cIs, flow₀] at active
    rw [shown.backflow.1, shown.clean, shown.supply, shown.ret]
    exact active
  · intro inactive raised
    rw [shown.backflow.1, flow.backflow, cIs, flow₀] at raised
    rw [shown.backflow.2, shown.supply, flow.backflow, cIs, flow₀]
    exact backflowAfter_detail inactive raised
  · rw [shown.supply, shown.ret, shown.mark, shown.loss, shown.rem]
    cases supply : u.fa.supplyMeter.flow with
    | none =>
      have unmetered := flow.unmetered (.inl supply)
      rw [flow₀] at unmetered
      exact unmetered
    | some x =>
      cases ret : u.fa.returnMeter.flow with
      | none =>
        have unmetered := flow.unmetered (.inr ret)
        rw [flow₀] at unmetered
        exact unmetered
      | some y =>
        have metered := flow.metered x y supply ret
        rw [flow₀, cIs] at metered
        exact metered
  · have readings : supplyReadings a = supplyReadings s := by
      unfold supplyReadings
      rw [flow₀]
    intro ints
    obtain ⟨qualify, sum⟩ := integers_of_readings (readings := ints) (supplyReadings_eq s)
    clear_value ints
    rw [shown.supply, shown.count, shown.skew.1, shown.skew.2]
    have unskewed := flow.unskewed
    rw [readings, flow₀] at unskewed
    cases supply : u.fa.supplyMeter.flow with
    | none =>
      obtain ⟨count, skew⟩ := unskewed (.inl supply)
      exact ⟨count, congrArg Condition.active skew⟩
    | some x =>
      dsimp only
      by_cases unqualified : supplyReadings s = [] ∨ 65535 ∈ supplyReadings s
      · rw [if_pos (qualify.mpr unqualified)]
        obtain ⟨count, skew⟩ := unskewed (.inr unqualified)
        exact ⟨count, congrArg Condition.active skew⟩
      · have skewed := flow.skewed x supply
        rw [readings, flow₀, cIs] at skewed
        rw [if_neg fun h => unqualified (qualify.mp h), sum]
        exact skewed unqualified
  · obtain ⟨active, detail⟩ := judgeUnmapped_shows s.rt.number s.de.unmapped s.de.unmappedDrip
    have judgement := drip.unmapped
    rw [drip₀] at judgement
    rw [← judgement, ← drips] at active detail
    exact ⟨ended.unmapped.1.trans active, fun n found => ended.unmapped.2.trans (detail n found)⟩
  · obtain ⟨lists, -, -⟩ := ended.branches (by rw [frame]; exact quiet)
    refine Eq.trans ?_ (congrArg some (closeBranch_eq f))
    rw [lists, flows, flow.branches, flow₀, assocGet_assocAll, found, Option.map_some]
  · obtain ⟨-, lists, -⟩ := ended.branches (by rw [frame]; exact quiet)
    obtain ⟨d', found', last, credited, score⟩ := drip.branches b d (by rw [drip₀]; exact found)
    refine ⟨d', by rw [lists, drips]; exact found', last, credited, fun none => ?_⟩
    rw [score (calm (by rw [frame]; exact none)), bank₁]
  · obtain ⟨-, -, rows⟩ := ended.branches (by rw [frame]; exact quiet)
    obtain ⟨y, found', rowed, credited, evidence⟩ := drip.rows k x (by rw [drip₀]; exact found)
    exact ⟨y, by rw [rows, drips]; exact found', rowed, credited, evidence⟩

end Sys2Proof.Machine
end
